-- ==== Sys2Proof/Word.lean ====
section
/-! DEFINITION. The words of the LS-840: bytes, 16-bit words, the 32-bit field counter, and field parity. -/

namespace Sys2Proof

/-- One byte of a payload, of the local port or of a header. -/
abbrev Byte := BitVec 8

/-- The field counter and the stamps counted on it (R40, R50): 32 bits, wrapping. -/
abbrev Count32 := BitVec 32

/-- Each field is odd or even (00_scope.md, Speed, levels and time). -/
inductive Parity where
  | even
  | odd
deriving DecidableEq, Repr, Inhabited

/-- The parity of the field after a field of parity `p` when the internal timer gives it (R44). -/
def Parity.opposite : Parity → Parity
  | .even => .odd
  | .odd => .even

end Sys2Proof
end

