-- ==== Sys2Proof/Syntax.lean ====
section
/-! DEFINITION. The commands the station takes: one constructor of `Instr` for each row of spec/opcode_table.json,
with the operands the spec's text gives the step. -/

namespace Sys2Proof

/-- The mode shown on the deck's TALLY lines (R83). `unknown` is any other pattern, read as NONE. -/
inductive Tally where
  | stop
  | still
  | play
  | var
  | record
  | eject
  | unknown
deriving DecidableEq, Repr, Inhabited

/-- A timecode label as it arrives (section 1.2): four unsigned bytes, any of which may be out of range. -/
structure Label where
  hours : Byte
  minutes : Byte
  seconds : Byte
  frames : Byte
deriving DecidableEq, Repr, Inhabited

/-- A frame taken from the suite line, after the stuff bits have been removed (section 2.2 and the frame header layout of
section 2.9). The length field is the number of payload bytes. -/
structure Frame where
  cls : BitVec 2
  source : BitVec 5
  kind : BitVec 2
  dest : BitVec 5
  parity : Parity
  seq : Byte
  payload : List Byte
  check : BitVec 16
deriving DecidableEq, Repr, Inhabited

/-- How a directive reaches the station (R64): in a class 0 frame from the suite line, or from the local port with
the sequence the processor wrote. -/
inductive Via where
  | line (source dest : BitVec 5) (seq : Byte) (parity : Parity)
  | port (seq : Byte)
deriving DecidableEq, Repr, Inhabited

/-- How the frame that met the station's own ends, after a mismatch behind the arbitration field (R35). -/
inductive CollisionEnd where
  /-- It ends as this frame, good or bad. -/
  | frame (f : Frame)
  /-- It is cut by a dominant run of three bit periods or more that ends before 40 (R23). -/
  | codingViolation
  /-- It is cut by the stop signal, whose event is STOP_EVENT's (R34). -/
  | stopSignal
deriving DecidableEq, Repr, Inhabited

/-- The machine-side lines that blocks read at field starts: DECK_BUSY and DECK_FAULT (R84, R86), INHIBIT (R141),
LEVER and LEVER_PRESENT (R166). A field-start command carries their levels at that field start. -/
structure FieldPins where
  deckBusy : Bool
  deckFault : Bool
  inhibit : Bool
  lever : BitVec 10
  leverPresent : Bool
deriving DecidableEq, Repr, Inhabited

/-- The straps and line levels at the release of the RESET input (R33, R59, R80). -/
structure PowerUpPins where
  stn : BitVec 5
  trnFit : Bool
  tenFit : Bool
  threaded : Bool
  stopAsserted : Bool
  tally : Tally
  field : FieldPins
deriving DecidableEq, Repr, Inhabited

/-- The content of an announcement as its payload gives it (R49 and the announcement layout of section 2.9). Codes
are kept as the bytes sent. -/
structure Announcement where
  stationState : Byte
  standard : Byte
  fitted : Byte
  transport : Byte
  source : Byte
  speed : Int
  chaseSummary : Byte
  master : Byte
  recording : Byte
  transition : Byte
  progress : Nat
  flags : Byte
  position : Option Nat
deriving DecidableEq, Repr, Inhabited

/-- One constructor for each row of spec/opcode_table.json. A directive's operands are the way it came and the payload
bytes that follow those the row's name fixes. -/
inductive Instr where
  -- resets and field starts
  | powerUpReset (pins : PowerUpPins)
  | refPulse (parity : Parity) (moment : Nat) (pins : FieldPins)
  | refWatchExpires (moment : Nat) (pins : FieldPins)
  | internalFieldStart (pins : FieldPins)
  | returnWaitExpires (pins : FieldPins)
  -- the suite line
  | stopInput
  | stopEmissionEnds
  | stopEvent
  | codingViolation (run : Nat)
  | malformedFrame (f : Frame)
  | frameTransmitStart
  | arbitrationLost
  | ownFrameCollision (ending : CollisionEnd)
  | frameSent
  | txqMessageExpires
  | announcementReceived (f : Frame)
  | reportOrNoticeReceived (f : Frame)
  | peerEntryRemoved (station : Nat)
  -- the deck
  | tachPulse (forward : Bool)
  | codeWord (label : Label)
  | jumpCandidateExpires
  | codeLost
  | tallyChange (tally : Tally)
  | threadedFalls
  | threadedRises
  | tallyWaitRunsOut
  | deckFaultQualified
  | recoveryOffTimeEnds
  | recoveryWaitRunsOut
  | deferralExpired
  | seekFailed
  -- chase, record, roll and transition steps
  | lockDeclared
  | lockLost
  | pullTimeExceeded
  | rerollOffTimeEnds
  | gapEnds
  | rollStart
  | transitionCompletes
  -- directives
  | unknownType (via : Via) (payload : List Byte)
  | configure (via : Via) (params : List Byte)
  | statusPage0 (via : Via) (params : List Byte)
  | statusPage1 (via : Via) (params : List Byte)
  | statusPage1Clear (via : Via) (params : List Byte)
  | restart (via : Via) (params : List Byte)
  | peerQuery (via : Via) (params : List Byte)
  | transportStop (via : Via) (params : List Byte)
  | transportStill (via : Via) (params : List Byte)
  | transportPlay (via : Via) (params : List Byte)
  | transportShuttle (via : Via) (params : List Byte)
  | transportEject (via : Via) (params : List Byte)
  | cueTo (via : Via) (params : List Byte)
  | jog (via : Via) (params : List Byte)
  | chaseEnable (via : Via) (params : List Byte)
  | chaseStore (via : Via) (params : List Byte)
  | chaseDisable (via : Via) (params : List Byte)
  | loadCue (via : Via) (params : List Byte)
  | dropCue (via : Via) (params : List Byte)
  | roll (via : Via) (params : List Byte)
  | loadZone (via : Via) (params : List Byte)
  | clearZones (via : Via) (params : List Byte)
  | setTransition (via : Via) (params : List Byte)
  | selectA (via : Via) (params : List Byte)
  | take (via : Via) (params : List Byte)
  | pause (via : Via) (params : List Byte)
  | resume (via : Via) (params : List Byte)
  | abortTransportOp (via : Via) (params : List Byte)
  | abortSegment (via : Via) (params : List Byte)
  | abortTransitionComplete (via : Via) (params : List Byte)
  | abortTransitionRevert (via : Via) (params : List Byte)
  | allStop (via : Via) (params : List Byte)
  -- the local port
  | assemblyByteWrite (byte : Byte)
  | send
  | clear
  | next
  | receiveByteRead
  | statusByteRead
  | interruptMaskWrite (byte : Byte)
  | portWriteNoEffect (address : BitVec 2) (byte : Byte)
  | stopInputReleased
  | lineIdle
deriving DecidableEq, Repr

end Sys2Proof
end

