-- ==== Sys2Proof/Config.lean ====
section
/-! DEFINITION. The free value of the model: a constant with no body, so that nothing can be proved of its value. -/

namespace Sys2Proof

/-- FREE VALUE (notes/assumptions/1.md, DESIGN CHOICE). The layout of section 2.9 gives an announcement 14 payload bytes,
or 18 with position, and R24 does not call a frame of another length malformed. The spec states no content for
such a payload, so the content the Peer Table stores is this constant applied to the payload. -/
opaque Config.oddAnnouncement : List Byte → Announcement

end Sys2Proof
end

