-- ==== Sys2Proof/Machine/Bytes.lean ====
section
/-! DEFINITION. Byte order and signed fields: multi-byte values are sent most significant byte first, and signed values
are two's complement (section 2.9). -/

namespace Sys2Proof

/-- The `i`th byte of a payload; callers check the length first. -/
def byteAt (p : List Byte) (i : Nat) : Byte := p.getD i 0

/-- The byte that holds `n`, taken mod 256. -/
def byteOf (n : Nat) : Byte := BitVec.ofNat 8 n

/-- An unsigned 16-bit field at place `i`. -/
def natAt16 (p : List Byte) (i : Nat) : Nat :=
  (byteAt p i).toNat * 256 + (byteAt p (i + 1)).toNat

/-- An unsigned 32-bit field at place `i`. -/
def natAt32 (p : List Byte) (i : Nat) : Nat := natAt16 p i * 65536 + natAt16 p (i + 2)

/-- A signed 8-bit field at place `i`. -/
def intAt8 (p : List Byte) (i : Nat) : Int := (byteAt p i).toInt

/-- A signed 16-bit field at place `i`. -/
def intAt16 (p : List Byte) (i : Nat) : Int := (BitVec.ofNat 16 (natAt16 p i)).toInt

/-- A signed 32-bit field at place `i`. -/
def intAt32 (p : List Byte) (i : Nat) : Int := (BitVec.ofNat 32 (natAt32 p i)).toInt

/-- Two bytes, most significant first, holding `n` mod 65,536. -/
def bytes16 (n : Nat) : List Byte := [byteOf (n / 256), byteOf n]

/-- Four bytes, most significant first, holding `n` mod 2^32. -/
def bytes32 (n : Nat) : List Byte := bytes16 (n / 65536) ++ bytes16 n

/-- Two bytes holding a signed value in two's complement. -/
def bytesInt16 (x : Int) : List Byte := bytes16 (BitVec.ofInt 16 x).toNat

/-- A byte holding one bit, 1 when `b`. -/
def byteOfBool (b : Bool) : Byte := if b then 1 else 0

/-- `x` set to the nearer end of the range `lo..hi` (00_scope.md, Clamping). -/
def clampInt (lo hi x : Int) : Int := if x < lo then lo else if hi < x then hi else x

/-- The sign of `x` as +1 or -1, 0 for 0, as the approach laws use it (R94, R113). -/
def signOf (x : Int) : Int := if x < 0 then -1 else if x = 0 then 0 else 1

/-- A field's bits, most significant first (section 2.2). -/
def bitsOf {w : Nat} (x : BitVec w) : List Bool := (List.range w).map fun i => x.getMsbD i

end Sys2Proof
end

