-- ==== Sys2Proof/Machine/State.lean ====
section
/-! DEFINITION. The state of one LS-840 as plain data, block by block, and the state after power-up reset. Values
after reset are those of the state tables R9, R40, R60, R80, R102, R121, R139, R154, R171 and of R27, R39, R58; a value the
model names stands in notes/assumptions/6.md, 17.md and 27.md. -/

namespace Sys2Proof.Machine

/-- Who raises it: nobody. Every command of the table has an effect the spec states, so no meaning stops with a fault:
the type has no constructor. What the spec itself calls a fault (the FAULTED transport, R85) is state. Safe. -/
inductive Fault : Type
deriving DecidableEq, Repr

/-- Why a command has no meaning. -/
inductive Refusal where
  /-- Raised by an arm of `exec` for a command with no meaning yet; no arm does. Safe. -/
  | notModelled (mnemonic : String)
deriving DecidableEq, Repr

/-! ### Shared vocabulary -/

/-- The three frame standards (00_scope.md, Frame standards). -/
inductive Standard where
  | f25
  | f30n
  | f30d
deriving DecidableEq, Repr, Inhabited

/-- The result and reason codes (section 4.10). -/
inductive Code where
  | done | notConfigured | notPermitted | notFitted | badParameter | badTimecode | busy | alreadyConfigured
  | badSetting | unknownType | noTape | recordInhibited | transportTimeout | deckFault | chaseActive | superseded
  | deferralExpired | positionUnknown | cueAborted | seekFailed | deckOverride | transportNotReady | selfMaster
  | chaseFailed | recordingActive | noChaseRecord | listFull | cueBusy | noSuchCue | zoneConflict | badZone
  | zoneOverlap | zonesFull | noPreset | transitionActive | late | refStale | notLocked | isProtected | noCode
  | noReference | allStopped | aborted | segmentBusy | notRecording | lockLost | codeLost | restarted
deriving DecidableEq, Repr, Inhabited

/-- The 14 event kinds (R74), in the order of the STATUS page 1 layout. -/
inductive Event where
  | allStop | refLost | codeLost | codeJump | lockLost | chaseFailed | cueMissed | segmentAborted | transportFault
  | deckOverride | lineError | txDropped | rxDropped | duplicateStation
deriving DecidableEq, Repr, Inhabited

/-- The origin field of the sense record (R73). -/
inductive Origin where
  | nothing
  | directive (type : Byte)
  | cue (id : Nat)
deriving DecidableEq, Repr, Inhabited

/-- Who is answered (R64, R70, R72, R95): a station, the local port, or nobody. -/
inductive Issuer where
  | station (number : Nat)
  | port
  | nobody
deriving DecidableEq, Repr, Inhabited

/-! ### Directive Handler (R60, R62, R73) -/

/-- The CONFIGURE record (R62). -/
structure Settings where
  standard : Standard
  tpf : Nat
  controlSet : BitVec 32
  settleLimit : Nat
  busyLimit : Nat
  shuttleLimit : Nat
  dropoutWindow : Nat
  autoRecover : Bool
  offTimeChoice : Nat
  turnaround : Nat
deriving DecidableEq, Repr, Inhabited

/-- One failure in the sense record (R73). Address and next frame are frame counts. -/
structure Sense where
  code : Code
  origin : Origin
  address : Option Nat
  nextFrame : Option Nat
  remaining : Option Nat
deriving DecidableEq, Repr, Inhabited

structure Dhd where
  stn : BitVec 5
  transportFitted : Bool
  channelFitted : Bool
  config : Option Settings
  sense : Option Sense
  events : BitVec 14
deriving DecidableEq, Repr, Inhabited

/-! ### Field Timing Unit (R40) -/

inductive RefState where
  | lockedRef
  | fallback
deriving DecidableEq, Repr, Inhabited

inductive FieldSource where
  | pulse
  | internal
deriving DecidableEq, Repr, Inhabited

inductive ReturnStep where
  | idle
  | skipped
deriving DecidableEq, Repr, Inhabited

/-- Moments are microseconds since power-up reset, and `now` is the present one (notes/assumptions/4.md). `accepted` is the moment
CONFIGURE was accepted, from which the watch on REF runs until the next field start (R43, R63). -/
structure Ftu where
  now : Nat
  refState : RefState
  counter : Count32
  parity : Parity
  firstGiven : Bool
  lastPulse : Option Nat
  lastFieldStart : Option (Nat × FieldSource)
  goodPulses : Nat
  returnStep : ReturnStep
  timerRunning : Bool
  pulseSeen : Bool
  accepted : Option Nat
deriving DecidableEq, Repr, Inhabited

/-! ### Line Interface (R27 to R39) -/

/-- The four kinds of message (section 2.3); the class of each is R24's. -/
inductive MsgKind where
  | directive
  | announce
  | report
  | notice
deriving DecidableEq, Repr, Inhabited

/-- A message of the TXQ with its age (R30). -/
structure TxMsg where
  kind : MsgKind
  dest : BitVec 5
  seq : Byte
  payload : List Byte
  age : Nat
deriving DecidableEq, Repr, Inhabited

/-- The message on the line, with the frame as it was begun. `leaves` says that it leaves the TXQ however it ends
(R38, R39). -/
structure Sending where
  msg : TxMsg
  frame : Frame
  leaves : Bool
deriving DecidableEq, Repr, Inhabited

/-- What the station makes of the line (R23, R34, R39). -/
inductive LineWatch where
  /-- After power-up reset: no frame is taken and no dominant run measured before the line has been idle. -/
  | afterReset
  /-- Frames are taken and dominant runs measured. -/
  | steady
  /-- A frame was abandoned: no bit is taken as part of a frame until the line has been idle. -/
  | abandoned
  /-- Within a stop signal whose event has been taken. -/
  | stopSignal
deriving DecidableEq, Repr, Inhabited

/-- `idle`: the line has been recessive for 8 bit periods and no start bit has been seen or sent since (R22). -/
structure Lif where
  waiting : List TxMsg
  sending : Option Sending
  heldAnn : Option TxMsg
  watch : LineWatch
  idle : Bool
  emitting : Bool
  stopLevel : Bool
  duplicate : Bool
  listenOnly : Bool
deriving DecidableEq, Repr, Inhabited

/-! ### Position Unit (R9) -/

inductive PosSource where
  | noSource
  | code
  | tach
deriving DecidableEq, Repr, Inhabited

structure Candidate where
  jump : Int
  motion : Nat
deriving DecidableEq, Repr, Inhabited

structure Psu where
  source : PosSource
  anchor : Nat
  p : Int
  motion : Nat
  missing : Nat
  candidate : Option Candidate
  fieldTotal : Int
  speed : Int
deriving DecidableEq, Repr, Inhabited

/-! ### Peer Table (R50, R56) -/

/-- A held entry (R50). -/
structure PeerEntry where
  stamp : Count32
  content : Announcement
  foreign : Bool
deriving DecidableEq, Repr, Inhabited

inductive Presence where
  | absent
  | fresh
  | stale
deriving DecidableEq, Repr, Inhabited

/-- What the blocks that act on peers read of one station at a field start (R56). -/
structure PeerView where
  presence : Presence
  projection : Option Nat
  speed : Int
  transport : Byte
  chaseSummary : Byte
  master : Byte
  refLost : Bool
deriving DecidableEq, Repr, Inhabited

/-- Both lists have 30 places; place `i` is station `i + 1`. -/
structure Ptb where
  entries : List (Option PeerEntry)
  views : List PeerView
deriving DecidableEq, Repr, Inhabited

/-! ### Transport Sequencer (R80, R95, R97) -/

inductive TransportState where
  | unthreaded | stopped | still | playing | shuttling | cueing | chasing | recording | ejecting | faulted
deriving DecidableEq, Repr, Inhabited

inductive ReqMode where
  | noMode | stop | still | play | var | record | eject
deriving DecidableEq, Repr, Inhabited

structure TallyWait where
  settle : Nat
  busy : Nat
deriving DecidableEq, Repr, Inhabited

inductive Recovery where
  | idle
  | offTime (count : Nat)
  | recoveryWait
deriving DecidableEq, Repr, Inhabited

inductive OpKind where
  | cueTo | jog | mode | eject
deriving DecidableEq, Repr, Inhabited

/-- The pending operation record (R95). `lastSign` is +1 or -1. -/
structure PendingOp where
  kind : OpKind
  issuer : Issuer
  seq : Byte
  origin : Origin
  target : Nat
  reversals : Nat
  lastSign : Option Int
deriving DecidableEq, Repr, Inhabited

/-- The directives the deferral slot can hold (R97), with their parameters. -/
inductive Motion where
  | still
  | play
  | shuttle (speed : Int)
  | eject
  | cueTo (frame : Nat)
  | jog (frames : Int)
deriving DecidableEq, Repr, Inhabited

structure Held where
  motion : Motion
  issuer : Issuer
  seq : Byte
  age : Nat
deriving DecidableEq, Repr, Inhabited

/-- A request of the Chase Servo (R100). -/
inductive ChaseReq where
  | still
  | var (speed : Int)
deriving DecidableEq, Repr, Inhabited

structure Tsq where
  state : TransportState
  reqMode : ReqMode
  reqSpeed : Int
  reqTrack : BitVec 5
  matched : Bool
  wait : Option TallyWait
  faultCount : Nat
  recovery : Recovery
  pendingOp : Option PendingOp
  slot : Option Held
  standing : ChaseReq
deriving DecidableEq, Repr, Inhabited

/-! ### Chase Servo (R102, R103) -/

inductive ChaseState where
  | off | waiting | seeking | pulling | locked | followStill | reroll | failed
deriving DecidableEq, Repr, Inhabited

inductive FollowStep where
  | approaching
  | parked
deriving DecidableEq, Repr, Inhabited

/-- The chase record (R103). `pullLimit` is the choice 0..3 for L0..L3; the blanking count and the off-time are held as
counts of fields. -/
structure ChaseRecord where
  master : Nat
  offset : Int
  lockWindow : Nat
  blankingCount : Nat
  pullLimit : Nat
  pullTimeLimit : Nat
  retries : Nat
  rerollOffTime : Nat
deriving DecidableEq, Repr, Inhabited

structure Csv where
  state : ChaseState
  record : Option ChaseRecord
  engagedBy : Origin
  followStep : FollowStep
  pullTimer : Nat
  lockRun : Nat
  blankRun : Nat
  rerolls : Nat
  offTime : Nat
  target : Nat
deriving DecidableEq, Repr, Inhabited

/-! ### Cue List (R121, R122) -/

inductive Guard where
  | strict
  | lenient
deriving DecidableEq, Repr, Inhabited

inductive CueMode where
  | stop
  | still
  | play
deriving DecidableEq, Repr, Inhabited

/-- The action of a cue with the fields that action uses (R122). Track mask bits 0..4 are V, A1, A2, A3, A4. -/
inductive CueAction where
  | recordIn (mask : BitVec 5) (duration : Option Nat) (guardKind : Guard)
  | recordOut
  | transitionStart
  | mode (mode : CueMode)
  | chaseEngage
  | chaseRelease
  | pulse (output : Nat)
deriving DecidableEq, Repr, Inhabited

structure Cue where
  id : Nat
  action : CueAction
  reference : Nat
  trigger : Option Nat
  armed : Bool
  lockList : List Nat
  notify : Option Nat
deriving DecidableEq, Repr, Inhabited

/-- The ROLL slot's start count and mode (R121), with the directive's sequence for the record of R95 and R136, which R121 does not
list (notes/assumptions/39.md, DESIGN CHOICE). -/
structure RollSlot where
  start : Count32
  engage : Bool
  seq : Byte
deriving DecidableEq, Repr, Inhabited

/-- Bit `i` of `pulses` is PULSE(i+1). -/
structure Cul where
  cues : List Cue
  roll : Option RollSlot
  pulses : BitVec 4
deriving DecidableEq, Repr, Inhabited

/-! ### Record Controller (R139, R140, R151) -/

inductive SegState where
  | idle
  | recording
  | gap
deriving DecidableEq, Repr, Inhabited

structure Segment where
  origin : Nat
  inFrame : Nat
  mask : BitVec 5
  duration : Option Nat
  remaining : Option Nat
  lastFrame : Nat
  guardKind : Guard
  lockList : List Nat
  notify : Option Nat
deriving DecidableEq, Repr, Inhabited

/-- The span [start, stop) of positions (R151). -/
structure Zone where
  start : Nat
  stop : Nat
deriving DecidableEq, Repr, Inhabited

/-- `fresh`: RECORDING or GAP was entered since the most recent field start began (notes/assumptions/3.md). -/
structure Rcc where
  state : SegState
  record : Option Segment
  gapCount : Nat
  zones : List Zone
  fresh : Bool
deriving DecidableEq, Repr, Inhabited

/-! ### Transition Engine (R154, R156) -/

inductive TransitionState where
  | atRest | preset | running | paused | lever
deriving DecidableEq, Repr, Inhabited

inductive TransitionKind where
  | cut | mix | dip | wipe
deriving DecidableEq, Repr, Inhabited

inductive Pattern where
  | leftRight | rightLeft | topDown | splitH | boxOut
deriving DecidableEq, Repr, Inhabited

/-- The preset record; the pattern is kept for WIPE only. -/
structure Preset where
  toSource : Nat
  kind : TransitionKind
  duration : Nat
  pattern : Option Pattern
  split : Int
  leverAllowed : Bool
deriving DecidableEq, Repr, Inhabited

/-- `reversed` is the lever direction REVERSED; `fresh`: the transition was taken since the most recent field start
began (notes/assumptions/3.md). -/
structure Ten where
  state : TransitionState
  aSel : Nat
  bSel : Nat
  preset : Option Preset
  k : Nat
  progress : Nat
  audio : Nat
  reversed : Bool
  lastLever : Option Nat
  outK : Nat
  outD : Nat
  gainA : Nat
  gainB : Nat
  edges : List (Nat × Nat)
  fresh : Bool
deriving DecidableEq, Repr, Inhabited

/-! ### Local Port (R171) -/

structure RxMsg where
  bytes : List Byte
  place : Nat
deriving DecidableEq, Repr, Inhabited

inductive SendOutcome where
  | nothing | taken | refused | invalid
deriving DecidableEq, Repr, Inhabited

structure Lpt where
  buffer : List Byte
  overrun : Bool
  rxQueue : List RxMsg
  outcome : SendOutcome
  unread : Bool
  maskRx : Bool
  maskSend : Bool
  readData : Byte
deriving DecidableEq, Repr, Inhabited

/-! ### Pins, orders and the whole -/

/-- The levels of the machine-side inputs that are not events by themselves. -/
structure Pins where
  tally : Tally
  threaded : Bool
  field : FieldPins
deriving DecidableEq, Repr, Inhabited

/-- What the spec leaves open and no register holds. Which of two blocks' field-start work is taken first, where the spec says
either may be (R143, R159): the RCC's before the CUL's, the TEN's before the CUL's (notes/assumptions/3.md). -/
structure FieldOrder where
  rccFirst : Bool
  tenFirst : Bool
deriving DecidableEq, Repr, Inhabited

structure State where
  dhd : Dhd
  ftu : Ftu
  lif : Lif
  psu : Psu
  ptb : Ptb
  tsq : Tsq
  csv : Csv
  cul : Cul
  rcc : Rcc
  ten : Ten
  lpt : Lpt
  pins : Pins
  order : FieldOrder
  pending : List Instr
deriving DecidableEq, Repr

/-! ### The values after power-up reset -/

def FieldPins.reset : FieldPins :=
  { deckBusy := false, deckFault := false, inhibit := false, lever := 0, leverPresent := false }

/-- The straps and line levels of `State.reset` (notes/assumptions/6.md, DESIGN CHOICE). -/
def PowerUpPins.reset : PowerUpPins :=
  { stn := 1, trnFit := true, tenFit := true, threaded := false, stopAsserted := false, tally := .unknown,
    field := FieldPins.reset }

/-- R9. -/
def Psu.reset : Psu :=
  { source := .noSource, anchor := 0, p := 0, motion := 0, missing := 0, candidate := none, fieldTotal := 0, speed := 0 }

/-- R40. -/
def Ftu.reset : Ftu :=
  { now := 0, refState := .lockedRef, counter := 0, parity := .even, firstGiven := false, lastPulse := none,
    lastFieldStart := none, goodPulses := 0, returnStep := .idle, timerRunning := false, pulseSeen := false,
    accepted := none }

/-- The view of a station that is not there. -/
def PeerView.absent : PeerView :=
  { presence := .absent, projection := none, speed := 0, transport := 0, chaseSummary := 0, master := 0,
    refLost := false }

/-- R58: every entry empty. -/
def Ptb.reset : Ptb := { entries := List.replicate 30 none, views := List.replicate 30 PeerView.absent }

/-- R80. -/
def Tsq.reset (threaded : Bool) : Tsq :=
  { state := if threaded then .stopped else .unthreaded, reqMode := .noMode, reqSpeed := 0, reqTrack := 0,
    matched := false, wait := none, faultCount := 0, recovery := .idle, pendingOp := none, slot := none,
    standing := .still }

/-- R102. -/
def Csv.reset : Csv :=
  { state := .off, record := none, engagedBy := .nothing, followStep := .approaching, pullTimer := 0, lockRun := 0,
    blankRun := 0, rerolls := 0, offTime := 0, target := 0 }

/-- R121. -/
def Cul.reset : Cul := { cues := [], roll := none, pulses := 0 }

/-- R139. -/
def Rcc.reset : Rcc := { state := .idle, record := none, gapCount := 0, zones := [], fresh := false }

/-- R154, with the rest values of R155; no line has an edge pair before a standard is in force. -/
def Ten.reset : Ten :=
  { state := .atRest, aSel := 0, bSel := 0, preset := none, k := 0, progress := 0, audio := 0, reversed := false,
    lastLever := none, outK := 0, outD := 0, gainA := 1024, gainB := 0, edges := [], fresh := false }

/-- R171. -/
def Lpt.reset : Lpt :=
  { buffer := [], overrun := false, rxQueue := [], outcome := .nothing, unread := false, maskRx := false,
    maskSend := false, readData := 0 }

/-- R39 and R37: listen-only when the straps give 0 or 31. -/
def Lif.reset (stn : BitVec 5) (stopAsserted : Bool) : Lif :=
  { waiting := [], sending := none, heldAnn := none, watch := .afterReset, idle := false, emitting := false,
    stopLevel := stopAsserted, duplicate := false, listenOnly := stn == 0 || stn == 31 }

/-- R59 and R60. -/
def Dhd.reset (stn : BitVec 5) (trnFit tenFit : Bool) : Dhd :=
  { stn := stn, transportFitted := trnFit, channelFitted := tenFit, config := none, sense := none, events := 0 }

/-- Every block at its power-up value, for given straps and line levels; the queue and the orders are handed in. -/
def State.ofPins (pins : PowerUpPins) (order : FieldOrder) (pending : List Instr) : State :=
  { dhd := Dhd.reset pins.stn pins.trnFit pins.tenFit, ftu := Ftu.reset, lif := Lif.reset pins.stn pins.stopAsserted,
    psu := Psu.reset, ptb := Ptb.reset, tsq := Tsq.reset pins.threaded, csv := Csv.reset, cul := Cul.reset,
    rcc := Rcc.reset, ten := Ten.reset, lpt := Lpt.reset,
    pins := { tally := pins.tally, threaded := pins.threaded, field := pins.field }, order := order,
    pending := pending }

/-- The station right after power-up reset, with an empty queue. -/
def State.reset : State := State.ofPins PowerUpPins.reset { rccFirst := true, tenFirst := true } []

end Sys2Proof.Machine
end

