-- ==== Sys2Proof/Machine/Timecode.lean ====
section
/-! DEFINITION. Frame standards, labels, frame counts, fine units and the signed difference (R1 to R8). -/

namespace Sys2Proof.Machine

/-! ### The standards table (00_scope.md, Frame standards) -/

/-- R, the label rate. -/
def Standard.rate : Standard → Nat
  | .f25 => 25
  | .f30n => 30
  | .f30d => 30

/-- W, the frames in one day. -/
def Standard.framesPerDay : Standard → Nat
  | .f25 => 2160000
  | .f30n => 2592000
  | .f30d => 2589408

/-- V, the day in fine units (R7). -/
def Standard.day (std : Standard) : Nat := std.framesPerDay * 256

/-- Y, the active lines per field. -/
def Standard.lines : Standard → Nat
  | .f25 => 288
  | .f30n => 243
  | .f30d => 243

/-- The nominal field period in microseconds (R44). -/
def Standard.period : Standard → Nat
  | .f25 => 20000
  | .f30n => 16683
  | .f30d => 16683

/-- 1.25 nominal periods in microseconds, as R43 gives them. -/
def Standard.watchPeriod : Standard → Nat
  | .f25 => 25000
  | .f30n => 20854
  | .f30d => 20854

/-- Half a nominal period in microseconds, as R46 gives it. -/
def Standard.halfPeriod : Standard → Nat
  | .f25 => 10000
  | .f30n => 8342
  | .f30d => 8342

/-- T, the seek threshold: the 5-second span in fine units (R103). -/
def Standard.seekThreshold : Standard → Nat
  | .f25 => 32000
  | .f30n => 38400
  | .f30d => 38400

/-- The longest time in fields that a directive may wait in the deferral slot (R97). -/
def Standard.deferralLimit : Standard → Nat
  | .f25 => 250
  | .f30n => 300
  | .f30d => 300

/-- The byte that names a standard in CONFIGURE and in announcements; 0 is none (section 2.9). -/
def Standard.toByte : Standard → Byte
  | .f25 => 1
  | .f30n => 2
  | .f30d => 3

def Standard.ofByte (b : Byte) : Option Standard :=
  if b = 1 then some .f25 else if b = 2 then some .f30n else if b = 3 then some .f30d else none

/-! ### Labels and counts (R2 to R6) -/

/-- The four bounds of R2, with the standard's label rate. -/
def Label.inBounds (std : Standard) (l : Label) : Bool :=
  l.hours.toNat ≤ 23 && l.minutes.toNat ≤ 59 && l.seconds.toNat ≤ 59 && l.frames.toNat < std.rate

/-- The labels F30D drops: the first two of every minute but 00, 10, 20, 30, 40 and 50 (R3). -/
def Label.dropped (l : Label) : Bool :=
  l.seconds.toNat = 0 && l.minutes.toNat % 10 ≠ 0 && l.frames.toNat < 2

def Label.valid (std : Standard) (l : Label) : Bool :=
  Label.inBounds std l && (std != .f30d || !Label.dropped l)

/-- The frame count of a valid label (R2, R3); an invalid label has none. -/
def labelCount (std : Standard) (l : Label) : Option Nat :=
  if Label.valid std l then
    let base := (l.hours.toNat * 3600 + l.minutes.toNat * 60 + l.seconds.toNat) * std.rate + l.frames.toNat
    let minute := 60 * l.hours.toNat + l.minutes.toNat
    if std = .f30d then some (base - 2 * (minute - minute / 10)) else some base
  else none

/-- The count as if no label were dropped: R5's adjustment under F30D, the count itself otherwise. -/
def undropped (std : Standard) (c : Nat) : Nat :=
  if std = .f30d then
    let d := c / 17982
    let r := c % 17982
    c + (if r < 2 then 18 * d else 18 * d + 2 * ((r - 2) / 1798))
  else c

/-- The label of a frame count (R4, R5). -/
def countLabel (std : Standard) (c : Nat) : Label :=
  let n := undropped std c
  let t := n / std.rate
  { hours := byteOf (t / 3600), minutes := byteOf (t / 60 % 60), seconds := byteOf (t % 60),
    frames := byteOf (n % std.rate) }

/-- The four bytes of a label in the order of section 2.9. -/
def Label.toBytes (l : Label) : List Byte := [l.hours, l.minutes, l.seconds, l.frames]

/-- A label read from place `i` of a payload. -/
def labelAt (p : List Byte) (i : Nat) : Label :=
  { hours := byteAt p i, minutes := byteAt p (i + 1), seconds := byteAt p (i + 2), frames := byteAt p (i + 3) }

/-- The five bytes of a position in a report: the label of its frame, then the fine remainder (R6). -/
def positionBytes (std : Standard) (x : Nat) : List Byte :=
  Label.toBytes (countLabel std (x / 256)) ++ [byteOf (x % 256)]

/-! ### Positions (R7, R8) -/

/-- A sum reduced into 0..V-1 (R7). -/
def wrapDay (v : Nat) (x : Int) : Nat := (x % (v : Int)).toNat

/-- The signed difference of two positions over a day of length `v` (R8). -/
def diff (v a b : Nat) : Int :=
  let d := ((a : Int) - (b : Int)) % (v : Int)
  if (v : Int) ≤ 2 * d then d - v else d

/-- The frame of a position (R7). -/
def frameOf (x : Nat) : Nat := x / 256

/-- The frame `n` frames on from frame `c`, over a day of `w` frames. -/
def frameAdd (w c : Nat) (n : Int) : Nat := (((c : Int) + n) % (w : Int)).toNat

end Sys2Proof.Machine
end

