-- ==== Sys2Proof/Machine/Flags.lean ====
section
/-! DEFINITION. The event set, the flag bytes, the codes' values and the bytes that name states (sections 2.9 and 4.10,
R37, R47, R74, R176). -/

namespace Sys2Proof.Machine

/-- The value of a result or reason code (section 4.10). -/
def Code.value : Code → Byte
  | .done => 0x00
  | .notConfigured => 0x01
  | .notPermitted => 0x02
  | .notFitted => 0x03
  | .badParameter => 0x04
  | .badTimecode => 0x05
  | .busy => 0x06
  | .alreadyConfigured => 0x07
  | .badSetting => 0x08
  | .unknownType => 0x09
  | .noTape => 0x10
  | .recordInhibited => 0x11
  | .transportTimeout => 0x12
  | .deckFault => 0x13
  | .chaseActive => 0x14
  | .superseded => 0x15
  | .deferralExpired => 0x16
  | .positionUnknown => 0x17
  | .cueAborted => 0x18
  | .seekFailed => 0x19
  | .deckOverride => 0x1A
  | .transportNotReady => 0x1B
  | .selfMaster => 0x20
  | .chaseFailed => 0x21
  | .recordingActive => 0x22
  | .noChaseRecord => 0x23
  | .listFull => 0x30
  | .cueBusy => 0x31
  | .noSuchCue => 0x32
  | .zoneConflict => 0x33
  | .badZone => 0x34
  | .zoneOverlap => 0x35
  | .zonesFull => 0x36
  | .noPreset => 0x40
  | .transitionActive => 0x41
  | .late => 0x50
  | .refStale => 0x51
  | .notLocked => 0x52
  | .isProtected => 0x53
  | .noCode => 0x54
  | .noReference => 0x55
  | .allStopped => 0x56
  | .aborted => 0x57
  | .segmentBusy => 0x58
  | .notRecording => 0x59
  | .lockLost => 0x5A
  | .codeLost => 0x5B
  | .restarted => 0x5C

/-- The place of an event kind in the latched event set (section 2.9, STATUS page 1). -/
def Event.place : Event → Nat
  | .allStop => 0
  | .refLost => 1
  | .codeLost => 2
  | .codeJump => 3
  | .lockLost => 4
  | .chaseFailed => 5
  | .cueMissed => 6
  | .segmentAborted => 7
  | .transportFault => 8
  | .deckOverride => 9
  | .lineError => 10
  | .txDropped => 11
  | .rxDropped => 12
  | .duplicateStation => 13

/-- The set that holds one event kind. -/
def Event.mask (e : Event) : BitVec 14 := BitVec.ofNat 14 (2 ^ e.place)

/-- Whether the latched event set holds an event kind. -/
def State.holdsEvent (s : State) (e : Event) : Bool := s.dhd.events.getLsbD e.place

/-- An event kind joins the set if it is absent (R74). -/
def State.latch (e : Event) (s : State) : State :=
  { s with dhd := { s.dhd with events := s.dhd.events ||| e.mask } }

/-- The events-pending flag (R49, R74). -/
def State.eventsPending (s : State) : Bool := s.dhd.events != 0

/-- An operation failure replaces the whole sense record (R73). -/
def State.writeSense (r : Sense) (s : State) : State := { s with dhd := { s.dhd with sense := some r } }

/-! ### Bytes that name states (section 2.9) -/

def TransportState.toByte : TransportState → Byte
  | .unthreaded => 0
  | .stopped => 1
  | .still => 2
  | .playing => 3
  | .shuttling => 4
  | .cueing => 5
  | .chasing => 6
  | .recording => 7
  | .ejecting => 8
  | .faulted => 9

def PosSource.toByte : PosSource → Byte
  | .noSource => 0
  | .code => 1
  | .tach => 2

/-- The chase state in full, as page 0 of STATUS gives it. -/
def ChaseState.toByte : ChaseState → Byte
  | .off => 0
  | .waiting => 1
  | .seeking => 2
  | .pulling => 3
  | .locked => 4
  | .followStill => 5
  | .reroll => 6
  | .failed => 7

/-- The chase summary of announcements: OFF, CHASING or LOCKED (R49). -/
def ChaseState.summary : ChaseState → Byte
  | .off => 0
  | .locked => 2
  | .waiting | .seeking | .pulling | .followStill | .reroll | .failed => 1

def SegState.toByte : SegState → Byte
  | .idle => 0
  | .recording => 1
  | .gap => 2

def TransitionState.toByte : TransitionState → Byte
  | .atRest => 0
  | .preset => 1
  | .running => 2
  | .paused => 3
  | .lever => 4

def RefState.toByte : RefState → Byte
  | .lockedRef => 0
  | .fallback => 1

/-- The origin kind and value of the sense record (STATUS page 1). -/
def Origin.toBytes : Origin → List Byte
  | .nothing => [0, 0]
  | .directive type => [1, type]
  | .cue id => [2, byteOf id]

/-! ### Identity, configuration and flag bytes -/

/-- The own number: 1..30, or none for straps of 0 or 31 (R59). -/
def State.ownNumber (s : State) : Option (BitVec 5) :=
  if s.dhd.stn = 0 ∨ s.dhd.stn = 31 then none else some s.dhd.stn

/-- The source field of frames the station sends and of messages for its own port: 0 without a number (R70). -/
def State.sourceNumber (s : State) : BitVec 5 := s.ownNumber.getD 0

/-- Whether `n` is the station's own number. -/
def State.isOwn (s : State) (n : Nat) : Bool :=
  match s.ownNumber with
  | some own => own.toNat == n
  | none => false

/-- The standard in force (R1). -/
def State.standard (s : State) : Option Standard := s.dhd.config.map (·.standard)

/-- The station state byte: READY once CONFIGURE has been accepted (R61). -/
def State.stationByte (s : State) : Byte := byteOfBool s.dhd.config.isSome

def State.standardByte (s : State) : Byte := (s.standard.map Standard.toByte).getD 0

/-- The fitted set: bit 0 transport, bit 1 transition channel. -/
def State.fittedByte (s : State) : Byte :=
  byteOfBool s.dhd.transportFitted ||| (byteOfBool s.dhd.channelFitted <<< 1)

/-- The transport state, 15 without a transport (R49, R80). -/
def State.transportByte (s : State) : Byte :=
  if s.dhd.transportFitted then s.tsq.state.toByte else 15

/-- The recording byte: bit 7 recording, bits 0..4 the segment's track mask (R49). -/
def State.recordingByte (s : State) : Byte :=
  match s.rcc.state, s.rcc.record with
  | .recording, some seg => 0x80#8 ||| seg.mask.setWidth 8
  | .recording, none => 0x80
  | _, _ => 0

/-- The master of the stored chase record while the chase is not OFF, 0 otherwise (R49, R75). -/
def State.masterByte (s : State) : Byte :=
  match s.csv.state, s.csv.record with
  | .off, _ => 0
  | _, some r => byteOf r.master
  | _, none => 0

/-- The flags byte of an announcement: bit 0 REF_LOST, bit 1 events pending (R47, R49). -/
def State.announcementFlags (s : State) : Byte :=
  byteOfBool (s.ftu.refState == .fallback) ||| (byteOfBool s.eventsPending <<< 1)

/-- The line flags of STATUS page 0: bit 0 listen-only, bit 1 duplicate (R75). -/
def State.lineFlags (s : State) : Byte :=
  byteOfBool s.lif.listenOnly ||| (byteOfBool s.lif.duplicate <<< 1)

/-- The local port's status byte (R176). -/
def State.portStatus (s : State) : Byte :=
  byteOfBool (!s.lpt.rxQueue.isEmpty) ||| (byteOfBool (s.lpt.outcome == .taken) <<< 1) |||
    (byteOfBool (s.lpt.outcome == .refused) <<< 2) ||| (byteOfBool (s.lpt.outcome == .invalid) <<< 3) |||
    (byteOfBool s.lif.listenOnly <<< 4)

/-- The INT line (R176). -/
def State.intLine (s : State) : Bool :=
  (s.lpt.maskRx && !s.lpt.rxQueue.isEmpty) || (s.lpt.maskSend && s.lpt.unread)

/-- The interrupt mask as a read of address 3 returns it (R176). -/
def State.maskByte (s : State) : Byte := byteOfBool s.lpt.maskRx ||| (byteOfBool s.lpt.maskSend <<< 1)

end Sys2Proof.Machine
end

