-- ==== Sys2Proof/Machine/Line.lean ====
section
/-! DEFINITION. Frames on the suite line: header bits, stuff bits, the check word, and which received frames are
malformed (R22, R24). A 0 bit is the dominant level and a 1 bit the recessive level (section 2.1). -/

namespace Sys2Proof

def Parity.toBit : Parity → Bool
  | .even => false
  | .odd => true

/-- The 29 header bits in the order sent: class, source, kind, destination, parity, sequence, length (section 2.9). -/
def Frame.headerBits (f : Frame) : List Bool :=
  bitsOf f.cls ++ bitsOf f.source ++ bitsOf f.kind ++ bitsOf f.dest ++ [f.parity.toBit] ++ bitsOf f.seq ++
    bitsOf (BitVec.ofNat 6 f.payload.length)

/-- Every header and payload bit in the order sent, the bits the check word covers (R24). -/
def Frame.coveredBits (f : Frame) : List Bool := f.headerBits ++ f.payload.flatMap bitsOf

/-- One step of the check word register (R24): shift left, and if the bit shifted out differs from the bit taken, XOR
with 0x1021. -/
def crcStep (r : BitVec 16) (bit : Bool) : BitVec 16 :=
  if r.msb = bit then r <<< 1 else (r <<< 1) ^^^ 0x1021#16

/-- The check word of a run of bits, from a register of all ones (R24). -/
def checkWord (bits : List Bool) : BitVec 16 := bits.foldl crcStep 0xFFFF#16

/-- The frame is good when the register over the bits received equals the received check word (R24). -/
def Frame.good (f : Frame) : Bool := checkWord f.coveredBits == f.check

/-- The kinds that belong to a class: DIRECTIVE to 0, ANNOUNCE to 1, REPORT and NOTICE to 2 (R24). -/
def kindBelongs (cls kind : BitVec 2) : Bool :=
  (cls == 0 && kind == 0) || (cls == 1 && kind == 1) || (cls == 2 && (kind == 2 || kind == 3))

/-- A frame whose length field is greater than 32 is abandoned when that field has arrived (R24). -/
def Frame.tooLong (f : Frame) : Bool := 32 < f.payload.length

/-- The frames R24 calls malformed. -/
def Frame.malformed (f : Frame) : Bool :=
  f.cls == 3 || !kindBelongs f.cls f.kind || f.source == 0 || f.source == 31 || f.dest == 31 ||
    (f.cls == 1 && f.dest != 0) || f.tooLong

/-- A frame a station takes: well formed and with a right check word. -/
def Frame.taken (f : Frame) : Bool := !f.malformed && f.good

/-- The frame with the check word of its own bits. -/
def Frame.sealed (f : Frame) : Frame := { f with check := checkWord f.coveredBits }

/-- The bits with a recessive stuff bit after any two consecutive dominant bit periods; `run` counts the dominant
periods just sent (R22). -/
def stuffBits (run : Nat) : List Bool → List Bool
  | [] => []
  | true :: bits => true :: stuffBits 0 bits
  | false :: bits => if run = 0 then false :: stuffBits 1 bits else false :: true :: stuffBits 0 bits

/-- The levels of a whole frame on the line, start bit first (R22). -/
def Frame.lineBits (f : Frame) : List Bool :=
  stuffBits 0 (false :: (f.coveredBits ++ bitsOf f.check))

/-! ### The receiver's side (R22, R23) -/

/-- The bits less the recessive bit after any two consecutive dominant bit periods, by the same count; none where a third dominant
period stands in its place (R22, R23). -/
def unstuffBits : Nat → List Bool → Option (List Bool)
  | _, [] => some []
  | _, true :: bits => (unstuffBits 0 bits).map (true :: ·)
  | 0, false :: bits => (unstuffBits 1 bits).map (false :: ·)
  | _ + 1, false :: true :: bits => (unstuffBits 0 bits).map (false :: ·)
  | _ + 1, false :: _ => none

/-- The field of `w` bits at the front, most significant first, and the bits after it. -/
def takeField (w : Nat) (bits : List Bool) : Option (BitVec w × List Bool) :=
  if w ≤ bits.length then some (BitVec.ofNat w ((bits.take w).foldl (fun n b => 2 * n + b.toNat) 0), bits.drop w) else none

/-- A run of bytes at the front, and the bits after it. -/
def takeBytes : Nat → List Bool → Option (List Byte × List Bool)
  | 0, bits => some ([], bits)
  | n + 1, bits =>
    (takeField 8 bits).bind fun (b, rest) => (takeBytes n rest).map fun (bs, rest) => (b :: bs, rest)

/-- The frame that whole, unstuffed bits spell: a start bit, the header in the order of section 2.9, as many payload bytes as its
length field says, and the check word. -/
def readFrame : List Bool → Option Frame
  | false :: bits => do
    let (cls, bits) ← takeField 2 bits
    let (source, bits) ← takeField 5 bits
    let (kind, bits) ← takeField 2 bits
    let (dest, bits) ← takeField 5 bits
    let (parity, bits) ← takeField 1 bits
    let (seq, bits) ← takeField 8 bits
    let (length, bits) ← takeField 6 bits
    let (payload, bits) ← takeBytes length.toNat bits
    let (check, bits) ← takeField 16 bits
    if bits = [] then
      some { cls := cls, source := source, kind := kind, dest := dest,
             parity := if parity = 0 then .even else .odd, seq := seq, payload := payload, check := check }
    else none
  | _ => none

/-- The frame a receiver takes from the levels on the line (R22). -/
def Frame.ofLineBits (levels : List Bool) : Option Frame := (unstuffBits 0 levels).bind readFrame

end Sys2Proof
end

