-- ==== Sys2Proof/Machine/Ops.lean ====
section
/-! DEFINITION. The named operations the blocks share: the own position, the transmit queue, the receive queue, reports
and notices (R12, R25 to R31, R70, R133, R149, R175). -/

namespace Sys2Proof.Machine

/-! ### The own position (R12) -/

/-- The fine units a signed pulse count contributes at `tpf` pulses a frame. -/
def tachFine (tpf : Nat) (p : Int) : Int := Int.tdiv (p * 256) tpf

/-- The own position: absent while the source is NONE. -/
def State.own (s : State) : Option Nat :=
  match s.psu.source, s.dhd.config with
  | .noSource, _ => none
  | _, none => none
  | _, some c => some (wrapDay c.standard.day ((s.psu.anchor : Int) * 256 + tachFine c.tpf s.psu.p))

/-- The own frame, when the position source is not NONE. -/
def State.ownFrame (s : State) : Option Nat := s.own.map frameOf

/-! ### Moments (R43) -/

/-- The moment of the most recent field start; 0 before the first. -/
def Ftu.lastStart (f : Ftu) : Nat := (f.lastFieldStart.map (·.1)).getD 0

/-- The moment the watch on REF runs from: the later of the last field start and the acceptance of CONFIGURE, which is held only
until the field start after it (R43). -/
def Ftu.watchStart (f : Ftu) : Nat := max f.lastStart (f.accepted.getD 0)

/-! ### The line between frames (R22) -/

/-- A dominant level has been seen or sent: the line is not idle before it has been recessive for 8 bit periods. -/
def State.lineBusy (s : State) : State := { s with lif := { s.lif with idle := false } }

/-- What the way a directive came makes of the line: a frame takes up the line, the port does not. -/
def State.heard (via : Via) (s : State) : State :=
  match via with
  | .line _ _ _ _ => s.lineBusy
  | .port _ => s

/-! ### The transmit queue (R27 to R31) -/

/-- The class of a kind of message (R24). -/
def MsgKind.cls : MsgKind → BitVec 2
  | .directive => 0
  | .announce => 1
  | .report => 2
  | .notice => 2

/-- The kind field of the header (section 2.9). -/
def MsgKind.field : MsgKind → BitVec 2
  | .directive => 0
  | .announce => 1
  | .report => 2
  | .notice => 3

def TxMsg.isAnn (m : TxMsg) : Bool := m.kind == .announce

/-- A message joins behind the messages of its class (R27, R29). -/
def joinBehind (m : TxMsg) : List TxMsg → List TxMsg
  | [] => [m]
  | x :: q => if x.kind.cls ≤ m.kind.cls then x :: joinBehind m q else m :: x :: q

/-- A message that leaves the line unsent takes its place again before the messages of its class (R25). -/
def joinAhead (m : TxMsg) : List TxMsg → List TxMsg
  | [] => [m]
  | x :: q => if x.kind.cls < m.kind.cls then x :: joinAhead m q else m :: x :: q

/-- The non-announcement messages of the TXQ, the one on the line among them (R27). -/
def Lif.nonAnnouncements (l : Lif) : Nat :=
  l.waiting.countP (fun m => !m.isAnn) + (match l.sending with | some x => if x.msg.isAnn then 0 else 1 | none => 0)

/-- The TXQ is full when it holds 7 non-announcement messages (R27). -/
def Lif.full (l : Lif) : Bool := 7 ≤ l.nonAnnouncements

/-- A report or notice handed to the LIF (R29, R38). -/
def State.txJoin (m : TxMsg) (s : State) : State :=
  if s.lif.listenOnly then s
  else if s.lif.full then s.latch .txDropped
  else { s with lif := { s.lif with waiting := joinBehind m s.lif.waiting } }

/-- A new announcement handed to the LIF (R28, R38). -/
def State.txAnnounce (m : TxMsg) (s : State) : State :=
  if s.lif.listenOnly then s
  else
    match s.lif.sending with
    | some x =>
      if x.msg.isAnn then { s with lif := { s.lif with heldAnn := some m } }
      else { s with lif := { s.lif with waiting := joinBehind m (s.lif.waiting.filter (fun w => !w.isAnn)) } }
    | none => { s with lif := { s.lif with waiting := joinBehind m (s.lif.waiting.filter (fun w => !w.isAnn)) } }

/-- The announcement held while the old one was on the line takes the announcement place (R28). -/
def Lif.placeHeld (l : Lif) : Lif :=
  match l.heldAnn with
  | some m => { l with waiting := joinBehind m l.waiting, heldAnn := none }
  | none => l

/-- The message on the line stops before it is sent: it loses arbitration or is cut short (R25, R28, R30, R38, R39). One of age 16 is
discarded, and TX_DROPPED latched, in this same handling, where R30 says only that it is so before the next transmission begins
(notes/assumptions/42.md, DESIGN CHOICE). One that RESTART has taken out of the TXQ leaves without TX_DROPPED at any age, 16 among them (notes/assumptions/37.md, DESIGN CHOICE). -/
def State.cutShort (s : State) : State :=
  match s.lif.sending with
  | none => s
  | some x =>
    let l := { s.lif with sending := none }
    if x.leaves then { s with lif := l.placeHeld }
    else if x.msg.isAnn then
      match l.heldAnn with
      | some _ => { s with lif := l.placeHeld }
      | none => { s with lif := { l with waiting := joinAhead x.msg l.waiting } }
    else if 16 ≤ x.msg.age then ({ s with lif := l }).latch .txDropped
    else { s with lif := { l with waiting := joinAhead x.msg l.waiting } }

/-- The message on the line has been sent and leaves the TXQ (R26, R28). -/
def State.sent (s : State) : State :=
  match s.lif.sending with
  | none => s
  | some _ => { s with lif := { s.lif with sending := none }.placeHeld }

/-- A message one field older; the announcement does not age (R30). -/
def TxMsg.older (m : TxMsg) : TxMsg := if m.isAnn then m else { m with age := m.age + 1 }

/-- Ageing at a field start: messages that reach age 16 are discarded with TX_DROPPED, but for one on the line (R30). -/
def State.ageTxq (s : State) : State :=
  let aged := s.lif.waiting.map TxMsg.older
  let kept := aged.filter (fun m => m.isAnn || m.age < 16)
  let s' := { s with lif := { s.lif with
    waiting := kept, sending := s.lif.sending.map fun x => { x with msg := x.msg.older } } }
  if kept.length < aged.length then s'.latch .txDropped else s'

/-- The messages that stand one field short of age 16 reach it (R30). -/
def State.expireTxq (s : State) : State :=
  let kept := s.lif.waiting.filter (fun m => m.isAnn || m.age < 15)
  let s' := { s with lif := { s.lif with
    waiting := kept,
    sending := s.lif.sending.map fun x => if x.msg.age = 15 then { x with msg := x.msg.older } else x } }
  if kept.length < s.lif.waiting.length then s'.latch .txDropped else s'

/-! ### The receive queue (R32, R175) -/

/-- The bytes the processor sees of a message: source, kind, sequence, length and payload (R171). -/
def rxBytes (source : BitVec 5) (kind : BitVec 2) (seq : Byte) (payload : List Byte) : List Byte :=
  [source.setWidth 8, kind.setWidth 8, seq, byteOf payload.length] ++ payload

/-- A message joins the receive queue, or is discarded with RX_DROPPED when 8 are there. -/
def State.rxJoin (bytes : List Byte) (s : State) : State :=
  if 8 ≤ s.lpt.rxQueue.length then s.latch .rxDropped
  else { s with lpt := { s.lpt with rxQueue := s.lpt.rxQueue ++ [{ bytes := bytes, place := 0 }] } }

/-! ### Reports and notices (R70, R72, R133, R149) -/

/-- A report is composed and routed: to the TXQ for a station, to the receive queue for the local port, nowhere for a
broadcast. -/
def State.answer (issuer : Issuer) (seq : Byte) (type : Byte) (code : Code) (result : List Byte) (s : State) : State :=
  let payload := [type, code.value] ++ result
  match issuer with
  | .nobody => s
  | .port => s.rxJoin (rxBytes s.sourceNumber MsgKind.report.field seq payload)
  | .station n => s.txJoin { kind := .report, dest := BitVec.ofNat 5 n, seq := seq, payload := payload, age := 0 }

/-- A notice to a station, or to the local port when it is the station's own number. Its sequence is the low 8 bits of
the field count of the most recent field start. -/
def State.raiseNotice (dest : Nat) (payload : List Byte) (s : State) : State :=
  let seq := s.ftu.counter.setWidth 8
  if s.isOwn dest then s.rxJoin (rxBytes s.sourceNumber MsgKind.notice.field seq payload)
  else s.txJoin { kind := .notice, dest := BitVec.ofNat 5 dest, seq := seq, payload := payload, age := 0 }

/-- A frame count as the four bytes of its label; zeros while no standard is in force. -/
def State.labelBytes (s : State) (frame : Nat) : List Byte :=
  match s.standard with
  | some std => Label.toBytes (countLabel std frame)
  | none => [0, 0, 0, 0]

/-- The own position as the five bytes of a report, zeros when the source is NONE (R75). -/
def State.ownBytes (s : State) : List Byte :=
  match s.standard, s.own with
  | some std, some x => positionBytes std x
  | _, _ => [0, 0, 0, 0, 0]

/-! ### The result an owner hands back (R69) -/

/-- The owner's answer: a result at once with its result payload, or none while the directive is answered later. -/
abbrev Reply := Option (Code × List Byte)

def replyOf (c : Code) : Reply := some (c, [])

end Sys2Proof.Machine
end

