-- ==== Sys2Proof/Machine/Peers.lean ====
section
/-! DEFINITION. The announcement's payload and the Peer Table: stamping, storing, FOREIGN, ageing, projection and the view
the other blocks read (R48 to R58), and the meaning of PEER_ENTRY_REMOVED. -/

namespace Sys2Proof.Machine

/-! ### The announcement payload (R49) -/

/-- The own position as the announcement carries it: 4 bytes, left out when the source is NONE. -/
def State.announcedPosition (s : State) : List Byte :=
  match s.own with
  | some x => bytes32 x
  | none => []

/-- The payload of the announcement composed from the state (R49). -/
def State.announcementPayload (s : State) : List Byte :=
  [s.stationByte, s.standardByte, s.fittedByte, s.transportByte, s.psu.source.toByte] ++ bytesInt16 s.psu.speed ++
    [s.csv.state.summary, s.masterByte, s.recordingByte, s.ten.state.toByte] ++ bytes16 s.ten.progress ++
    [s.announcementFlags] ++ s.announcedPosition

/-- The announcement the Directive Handler composes at a field start (R48). -/
def State.announcement (s : State) : TxMsg :=
  { kind := .announce, dest := 0, seq := s.ftu.counter.setWidth 8, payload := s.announcementPayload, age := 0 }

/-- The content of a received announcement of 14 or 18 bytes. -/
def announcementFields (p : List Byte) : Announcement :=
  { stationState := byteAt p 0, standard := byteAt p 1, fitted := byteAt p 2, transport := byteAt p 3,
    source := byteAt p 4, speed := intAt16 p 5, chaseSummary := byteAt p 7, master := byteAt p 8,
    recording := byteAt p 9, transition := byteAt p 10, progress := natAt16 p 11, flags := byteAt p 13,
    position := if p.length = 18 then some (natAt32 p 14) else none }

/-- The content the Peer Table stores for a payload; a free value for a length the layout does not give
(notes/assumptions/1.md). -/
def readAnnouncement (p : List Byte) : Announcement :=
  if p.length = 14 ∨ p.length = 18 then announcementFields p else Config.oddAnnouncement p

/-- The REF_LOST flag of an announcement. -/
def announcedRefLost (a : Announcement) : Bool := a.flags.getLsbD 0

/-! ### Entries (R50 to R53) -/

/-- The entry of a station number 1..30. -/
def State.peer (s : State) (station : Nat) : Option PeerEntry :=
  if station = 0 then none else (s.ptb.entries[station - 1]?).join

def State.setPeer (station : Nat) (e : Option PeerEntry) (s : State) : State :=
  if station = 0 then s else { s with ptb := { s.ptb with entries := s.ptb.entries.set (station - 1) e } }

/-- The stamp of a frame by its parity (R51). -/
def State.stamp (s : State) (parity : Parity) : Count32 :=
  if parity = s.ftu.parity then s.ftu.counter else s.ftu.counter - 1

/-- A new stamp is later when the difference, mod 2^32, lies in 1..2,147,483,647 (R52). -/
def laterStamp (new old : Count32) : Bool := 1 ≤ (new - old).toNat && (new - old).toNat ≤ 2147483647

/-- Whether an announced standard makes an entry FOREIGN (R53). -/
def State.isForeign (s : State) (standard : Byte) : Bool :=
  match s.standard with
  | some std => standard != std.toByte
  | none => false

/-- An announcement from a station is stamped and stored, or discarded (R51, R52). -/
def State.storeAnnouncement (station : Nat) (parity : Parity) (payload : List Byte) (s : State) : State :=
  if s.ftu.firstGiven then
    let a := readAnnouncement payload
    let stamp := s.stamp parity
    let e : PeerEntry := { stamp := stamp, content := a, foreign := s.isForeign a.standard }
    match s.peer station with
    | none => s.setPeer station (some e)
    | some old => if laterStamp stamp old.stamp then s.setPeer station (some e) else s
  else s

/-- FOREIGN judged for every held entry at the moment CONFIGURE is accepted (R53). -/
def State.judgeForeign (s : State) : State :=
  { s with ptb := { s.ptb with
    entries := s.ptb.entries.map fun e => e.map fun x => { x with foreign := s.isForeign x.content.standard } } }

/-! ### Ageing, projection and views (R54 to R56) -/

/-- The age of an entry at field count `n` (R50). -/
def PeerEntry.age (e : PeerEntry) (n : Count32) : Nat := (n - e.stamp).toNat

/-- A position carried forward by a speed for `age` fields (R55). -/
def project (v pos : Nat) (speed : Int) (age : Nat) : Nat := wrapDay v ((pos : Int) + Int.tdiv (speed * age) 8)

/-- The projection of a fresh entry that is not FOREIGN and holds a position, once configured (R55, R57). -/
def State.projectionOf (s : State) (e : PeerEntry) (n : Count32) : Option Nat :=
  match s.standard, e.content.position with
  | some std, some pos =>
    if e.age n ≤ 8 ∧ e.foreign = false then some (project std.day pos e.content.speed (e.age n)) else none
  | _, _ => none

/-- The view of one entry at the present field count; `station` is its number (R56). -/
def State.viewOf (s : State) (station : Nat) : Option PeerEntry → PeerView
  | none => PeerView.absent
  | some e =>
    if s.isOwn station || e.foreign then PeerView.absent
    else
      { presence := if e.age s.ftu.counter ≤ 8 then .fresh else .stale, projection := s.projectionOf e s.ftu.counter,
        speed := e.content.speed, transport := e.content.transport, chaseSummary := e.content.chaseSummary,
        master := e.content.master, refLost := announcedRefLost e.content }

/-- The views of a run of entries, the first being station `station`'s. -/
def State.viewsFrom (s : State) (station : Nat) : List (Option PeerEntry) → List PeerView
  | [] => []
  | e :: es => s.viewOf station e :: s.viewsFrom (station + 1) es

/-- Entries of age 251 or more are removed (R54). -/
def removeOld (n : Count32) (e : Option PeerEntry) : Option PeerEntry :=
  match e with
  | some x => if 251 ≤ x.age n then none else some x
  | none => none

/-- The Peer Table's work at a field start: removal, then the views with their projections (R54, R55, R56). -/
def State.agePeers (s : State) : State :=
  let entries := s.ptb.entries.map (removeOld s.ftu.counter)
  { s with ptb := { entries := entries, views := s.viewsFrom 1 entries } }

/-- The view of a station number as the most recent field start left it. -/
def State.view (s : State) (station : Nat) : PeerView :=
  if station = 0 then PeerView.absent else s.ptb.views.getD (station - 1) PeerView.absent

/-- A peer whose view is fresh and announces LOCKED (R129, R145). -/
def PeerView.locked (v : PeerView) : Bool := v.presence == .fresh && v.chaseSummary == 2

/-- A view that a chase or a cue can use: fresh, with a projection, not announcing REF_LOST (R108, R126). -/
def PeerView.usable (v : PeerView) : Bool := v.presence == .fresh && v.projection.isSome && !v.refLost

/-! ### PEER_QUERY (R57) -/

/-- The 12 bytes of the PEER_QUERY result. -/
def State.peerQueryBytes (s : State) (station : Nat) : List Byte :=
  match s.peer station with
  | none => [byteOf station, 0, 0, 0, 0, 0, 0, 0, 0, 0, 0, 0]
  | some e =>
    let n := s.ftu.counter
    if s.isOwn station then [byteOf station, 0, 0, 0, 0, 0, 0, 0, 0, 0, 0, 0]
    else
      let presence : Byte := if e.foreign then 3 else if e.age n ≤ 8 then 1 else 2
      let pos : List Byte :=
        match s.standard, s.projectionOf e n with
        | some std, some x => 1 :: positionBytes std x
        | _, _ => [0, 0, 0, 0, 0, 0]
      [byteOf station, presence, byteOf (e.age n)] ++ pos ++
        [e.content.transport, e.content.chaseSummary, e.content.master]

/-! ### Meaning -/

/-- PEER_ENTRY_REMOVED (R54): an entry that the next field start finds at age 251 or more becomes empty
(notes/assumptions/2.md). -/
def execPeerEntryRemoved (station : Nat) (s : State) : Host.Outcome State Fault Refusal :=
  match s.peer station with
  | some e => if 251 ≤ e.age (s.ftu.counter + 1) then .next (s.setPeer station none) else .next s
  | none => .next s

end Sys2Proof.Machine
end

