-- ==== Sys2Proof/Machine/Operands.lean ====
section
/-! DEFINITION. A directive's payload: the checks 2 to 6 of R65 in their order, and the parameters of each directive
(R65 to R68, the directive payload layouts and the CONFIGURE record of section 2.9). -/

namespace Sys2Proof.Machine

/-- A directive that has passed the parameter check, with its parameters. -/
inductive Directive where
  | configure (record : Option Settings)
  | status (page1 : Bool) (clear : Bool)
  | restart
  | peerQuery (station : Nat)
  | transportStop
  | motion (m : Motion)
  | chaseEnable (r : ChaseRecord)
  | chaseStore (r : ChaseRecord)
  | chaseDisable
  | loadCue (c : Cue)
  | dropCue (id : Nat)
  | roll (delay : Nat) (engage : Bool)
  | loadZone (startFrame stopFrame : Nat)
  | clearZones
  | setTransition (p : Preset)
  | selectA (source : Nat)
  | take
  | pause
  | resume
  | abortTransportOp
  | abortSegment
  | abortTransition (complete : Bool)
  | allStop
deriving DecidableEq, Repr

/-- The outcome of a check: the code that refuses the directive, or what passes. -/
inductive Checked where
  | bad (c : Code)
  | ok (d : Directive)
deriving DecidableEq, Repr

/-! ### The CONFIGURE record (R62) -/

/-- The CONFIGURE record of a payload, or none when a field is outside its range. -/
def readSettings (p : List Byte) : Option Settings :=
  match Standard.ofByte (byteAt p 1) with
  | none => none
  | some std =>
    let control := BitVec.ofNat 32 (natAt32 p 3)
    let c : Settings :=
      { standard := std, tpf := (byteAt p 2).toNat, controlSet := control, settleLimit := (byteAt p 7).toNat,
        busyLimit := natAt16 p 8, shuttleLimit := natAt16 p 10, dropoutWindow := (byteAt p 12).toNat,
        autoRecover := byteAt p 13 == 1, offTimeChoice := (byteAt p 14).toNat, turnaround := (byteAt p 15).toNat }
    if 1 ≤ c.tpf ∧ control.getLsbD 0 = false ∧ control.getLsbD 31 = false ∧ 1 ≤ c.settleLimit ∧ c.busyLimit ≤ 1023 ∧
        1024 ≤ c.shuttleLimit ∧ c.shuttleLimit ≤ 32767 ∧ 1 ≤ c.dropoutWindow ∧ c.dropoutWindow ≤ 30 ∧
        (byteAt p 13).toNat ≤ 1 ∧ c.offTimeChoice ≤ 3 then some c
    else none

/-- The recovery off-time in fields (R87 and the CONFIGURE record of section 2.9). -/
def Settings.recoveryOffTime (c : Settings) : Nat := [25, 50, 100, 250].getD c.offTimeChoice 25

/-! ### Check 5: the fitted functions a directive needs (R67) -/

/-- The entries of a LOAD_CUE lock list. -/
def lockEntries (p : List Byte) : List Byte := (p.drop 15).take (byteAt p 14).toNat

/-- The fields of LOAD_CUE that check 5 needs, action, reference and lock list, are present and in range; otherwise the
directive passes the check. The ranges are those of the layout, 0..6, 0..30 and 0..4: an entry that is the own number or repeats
another is in range here and refused at check 6 (notes/assumptions/12.md, DEDUCED). -/
def cueFieldsReadable (p : List Byte) : Bool :=
  19 ≤ p.length && (byteAt p 2).toNat ≤ 6 && (byteAt p 3).toNat ≤ 30 && (byteAt p 14).toNat ≤ 4 &&
    (lockEntries p).all (fun b => b.toNat ≤ 30)

/-- The actions that need the transport: RECORD_IN, RECORD_OUT, MODE, CHASE_ENGAGE and CHASE_RELEASE. -/
def actionNeedsTransport (action : Byte) : Bool :=
  action == 0 || action == 1 || action == 3 || action == 4 || action == 5

/-- Whether the directive needs the transport. -/
def needsTransport (p : List Byte) : Bool :=
  match (byteAt p 0).toNat with
  | 0x05 | 0x06 | 0x07 | 0x08 | 0x0B | 0x0C | 0x0D => true
  | 0x13 => 2 ≤ p.length && (byteAt p 1).toNat ≤ 1
  | 0x09 =>
    cueFieldsReadable p && (actionNeedsTransport (byteAt p 2) || byteAt p 3 == 0 || (lockEntries p).any (· == 0))
  | _ => false

/-- Whether the directive needs the transition channel. -/
def needsChannel (p : List Byte) : Bool :=
  match (byteAt p 0).toNat with
  | 0x0E | 0x0F | 0x10 | 0x11 | 0x12 => true
  | 0x13 => 2 ≤ p.length && byteAt p 1 == 2
  | 0x09 => cueFieldsReadable p && byteAt p 2 == 2
  | _ => false

/-! ### Check 6: parameters (R68) -/

/-- The payload bytes the directive's type and options require, type byte included. -/
def requiredLength (p : List Byte) : Nat :=
  match (byteAt p 0).toNat with
  | 0x01 => 16
  | 0x02 => if byteAt p 1 = 0 then 2 else 3
  | 0x04 => 2
  | 0x05 => if byteAt p 1 = 3 then 4 else 2
  | 0x06 => 5
  | 0x07 => 2
  | 0x08 => if (byteAt p 1).toNat ≤ 1 then 14 else 2
  | 0x09 => 20
  | 0x0A => 2
  | 0x0B => 3
  | 0x0C => 9
  | 0x0E => 8
  | 0x0F => 2
  | 0x13 => if byteAt p 1 = 2 then 3 else 2
  | _ => 1

/-- STATUS: page and clear (R68); for page 0 the clear byte may be left out (notes/assumptions/11.md). -/
def parseStatus (p : List Byte) : Checked :=
  let page := (byteAt p 1).toNat
  let clear := (byteAt p 2).toNat
  if 1 < page ∨ 1 < clear ∨ (page = 0 ∧ clear = 1) then .bad .badParameter
  else .ok (.status (page == 1) (clear == 1))

/-- TRANSPORT: mode, and the speed of a SHUTTLE. -/
def parseTransport (p : List Byte) : Checked :=
  match (byteAt p 1).toNat with
  | 0 => .ok .transportStop
  | 1 => .ok (.motion .still)
  | 2 => .ok (.motion .play)
  | 3 => if intAt16 p 2 = -32768 then .bad .badParameter else .ok (.motion (.shuttle (intAt16 p 2)))
  | 4 => .ok (.motion .eject)
  | _ => .bad .badParameter

/-- A label at place `i`, or BAD_TIMECODE (R6). -/
def frameAt (std : Standard) (p : List Byte) (i : Nat) : Option Nat := labelCount std (labelAt p i)

def parseJog (p : List Byte) : Checked :=
  let n := intAt8 p 1
  if n = 0 ∨ n < -99 ∨ 99 < n then .bad .badParameter else .ok (.motion (.jog n))

/-- The chase record of ENABLE and STORE, or none when a field is out of range (R68, R103). -/
def readChase (std : Standard) (p : List Byte) : Option ChaseRecord :=
  let master := (byteAt p 2).toNat
  let offset := intAt32 p 3
  let window := (byteAt p 7).toNat
  let blanking := (byteAt p 8).toNat
  let pull := (byteAt p 9).toNat
  let limit := natAt16 p 10
  let retries := (byteAt p 12).toNat
  let off := (byteAt p 13).toNat
  if 1 ≤ master ∧ master ≤ 30 ∧ 2 * offset.natAbs < std.day ∧ 8 ≤ window ∧ window ≤ 128 ∧ blanking ≤ 3 ∧ pull ≤ 3 ∧
      50 ≤ limit ∧ limit ≤ 1000 ∧ retries ≤ 3 ∧ off ≤ 3 then
    some { master := master, offset := offset, lockWindow := window, blankingCount := 2 * 2 ^ blanking,
           pullLimit := pull, pullTimeLimit := limit, retries := retries, rerollOffTime := 25 * 2 ^ off }
  else none

def parseChase (std : Standard) (p : List Byte) : Checked :=
  match (byteAt p 1).toNat, readChase std p with
  | 0, some r => .ok (.chaseEnable r)
  | 1, some r => .ok (.chaseStore r)
  | 2, _ => .ok .chaseDisable
  | _, _ => .bad .badParameter

/-- Whether `n` is the own number. -/
def ownIs (own : Option (BitVec 5)) (n : Nat) : Bool :=
  match own with
  | some o => o.toNat == n
  | none => false

/-- The lock list's entries are 0 or a peer, none the own number, none twice (R68). -/
def goodLockList (own : Option (BitVec 5)) (l : List Nat) : Bool :=
  l.all (fun n => n ≤ 30 && !ownIs own n) && decide l.Nodup

/-- The action of a LOAD_CUE with the fields it uses, or none when one of them is out of range (R68). -/
def readAction (p : List Byte) : Option CueAction :=
  let mask := byteAt p 9
  let present := (byteAt p 4).getLsbD 1
  let duration := natAt16 p 10
  match (byteAt p 2).toNat with
  | 0 =>
    if mask = 0 ∨ 32 ≤ mask.toNat ∨ (present ∧ duration = 0) ∨ 1 < (byteAt p 12).toNat then none
    else some (.recordIn (mask.setWidth 5) (if present then some duration else none)
      (if byteAt p 12 = 0 then .strict else .lenient))
  | 1 => some .recordOut
  | 2 => some .transitionStart
  | 3 =>
    match (byteAt p 13).toNat with
    | 0 => some (.mode .stop)
    | 1 => some (.mode .still)
    | 2 => some (.mode .play)
    | _ => none
  | 4 => some .chaseEngage
  | 5 => some .chaseRelease
  | 6 => if 1 ≤ (byteAt p 13).toNat ∧ (byteAt p 13).toNat ≤ 4 then some (.pulse (byteAt p 13).toNat) else none
  | _ => none

/-- LOAD_CUE: the fields in payload order, the first that fails deciding the code (R68). -/
def parseLoadCue (own : Option (BitVec 5)) (std : Standard) (p : List Byte) : Checked :=
  let id := (byteAt p 1).toNat
  let reference := (byteAt p 3).toNat
  let hasTrigger := (byteAt p 4).getLsbD 0
  let hasNotify := (byteAt p 4).getLsbD 2
  let count := (byteAt p 14).toNat
  let list := (lockEntries p).map (·.toNat)
  let notify := (byteAt p 19).toNat
  if id = 0 ∨ 6 < (byteAt p 2).toNat ∨ 30 < reference ∨
      ownIs own reference = true then .bad .badParameter
  else if hasTrigger ∧ frameAt std p 5 = none then .bad .badTimecode
  else
    match readAction p with
    | none => .bad .badParameter
    | some action =>
      if 4 < count ∨ goodLockList own list = false ∨ (hasNotify ∧ (notify = 0 ∨ 30 < notify)) then .bad .badParameter
      else
        .ok (.loadCue
          { id := id, action := action, reference := reference,
            trigger := if hasTrigger then frameAt std p 5 else none, armed := false, lockList := list,
            notify := if hasNotify then some notify else none })

/-- ROLL: a delay of 1 or more from the line, 2 or more from the port (R68). -/
def parseRoll (fromLine : Bool) (p : List Byte) : Checked :=
  let delay := (byteAt p 1).toNat
  if delay < (if fromLine then 1 else 2) ∨ 1 < (byteAt p 2).toNat then .bad .badParameter
  else .ok (.roll delay (byteAt p 2 == 1))

def parseLoadZone (std : Standard) (p : List Byte) : Checked :=
  match frameAt std p 1, frameAt std p 5 with
  | some a, some b => .ok (.loadZone a b)
  | _, _ => .bad .badTimecode

/-- The kind of a transition, with the pattern a WIPE needs. -/
def readKind (p : List Byte) : Option (TransitionKind × Option Pattern) :=
  match (byteAt p 2).toNat with
  | 0 => some (.cut, none)
  | 1 => some (.mix, none)
  | 2 => some (.dip, none)
  | 3 =>
    match (byteAt p 5).toNat with
    | 0 => some (.wipe, some .leftRight)
    | 1 => some (.wipe, some .rightLeft)
    | 2 => some (.wipe, some .topDown)
    | 3 => some (.wipe, some .splitH)
    | 4 => some (.wipe, some .boxOut)
    | _ => none
  | _ => none

def parseSetTransition (p : List Byte) : Checked :=
  let toSource := (byteAt p 1).toNat
  let duration := natAt16 p 3
  let split := intAt8 p 6
  match readKind p with
  | some (kind, pattern) =>
    if 7 < toSource ∨ 999 < duration ∨ split < -60 ∨ 60 < split ∨ 1 < (byteAt p 7).toNat then .bad .badParameter
    else .ok (.setTransition
      { toSource := toSource, kind := kind, duration := duration, pattern := pattern, split := split,
        leverAllowed := byteAt p 7 == 1 })
  | none => .bad .badParameter

def parseAbort (p : List Byte) : Checked :=
  match (byteAt p 1).toNat with
  | 0 => .ok .abortTransportOp
  | 1 => .ok .abortSegment
  | 2 => if 1 < (byteAt p 2).toNat then .bad .badParameter else .ok (.abortTransition (byteAt p 2 == 0))
  | _ => .bad .badParameter

/-- The parameter check of a directive that needs a standard in force. -/
def parseConfigured (own : Option (BitVec 5)) (std : Standard) (fromLine : Bool) (p : List Byte) : Checked :=
  match (byteAt p 0).toNat with
  | 0x05 => parseTransport p
  | 0x06 => match frameAt std p 1 with | some f => .ok (.motion (.cueTo f)) | none => .bad .badTimecode
  | 0x07 => parseJog p
  | 0x08 => parseChase std p
  | 0x09 => parseLoadCue own std p
  | 0x0A => .ok (.dropCue (byteAt p 1).toNat)
  | 0x0B => parseRoll fromLine p
  | 0x0C => parseLoadZone std p
  | 0x0D => .ok .clearZones
  | 0x0E => parseSetTransition p
  | 0x0F => if 7 < (byteAt p 1).toNat then .bad .badParameter else .ok (.selectA (byteAt p 1).toNat)
  | 0x10 => .ok .take
  | 0x11 => .ok .pause
  | 0x12 => .ok .resume
  | 0x13 => parseAbort p
  | 0x14 => if fromLine then .bad .badParameter else .ok .allStop
  | _ => .bad .unknownType

/-- The parameter check (R68). A payload that is too short is refused first (notes/assumptions/10.md). -/
def parseParams (own : Option (BitVec 5)) (standard : Option Standard) (fromLine : Bool) (p : List Byte) : Checked :=
  if p.length < requiredLength p then .bad .badParameter
  else
    match (byteAt p 0).toNat, standard with
    | 0x01, _ => .ok (.configure (readSettings p))
    | 0x02, _ => parseStatus p
    | 0x03, _ => .ok .restart
    | 0x04, _ =>
      if byteAt p 1 = 0 ∨ 30 < (byteAt p 1).toNat then .bad .badParameter else .ok (.peerQuery (byteAt p 1).toNat)
    | _, some std => parseConfigured own std fromLine p
    | _, none => .bad .notConfigured

/-! ### The checks in order (R65) -/

def Via.fromLine : Via → Bool
  | .line _ _ _ _ => true
  | .port _ => false

/-- Check 2: the payload is empty or its first byte is not one of 0x01..0x14. -/
def typeUnknown : List Byte → Bool
  | [] => true
  | type :: _ => type.toNat = 0 || 0x14 < type.toNat

/-- Check 3: the types an UNCONFIGURED station takes are CONFIGURE, STATUS, RESTART and PEER_QUERY. -/
def takenUnconfigured (p : List Byte) : Bool := (byteAt p 0).toNat ≤ 4

/-- The control set: empty until CONFIGURE is accepted (R66). -/
def State.controlSet (s : State) : BitVec 32 := (s.dhd.config.map (·.controlSet)).getD 0

/-- Check 4: the control-set test (R66). -/
def State.permits (s : State) (via : Via) (p : List Byte) : Bool :=
  match via with
  | .port _ => true
  | .line source _ _ _ =>
    byteAt p 0 == 0x02 || byteAt p 0 == 0x04 || s.controlSet == 0 || s.controlSet.getLsbD source.toNat

/-- Checks 2 to 6 of R65: the first that the directive fails decides. -/
def State.checkDirective (s : State) (via : Via) (p : List Byte) : Checked :=
  if typeUnknown p then .bad .unknownType
  else if s.dhd.config.isNone && !takenUnconfigured p then .bad .notConfigured
  else if !s.permits via p then .bad .notPermitted
  else if (needsTransport p && !s.dhd.transportFitted) || (needsChannel p && !s.dhd.channelFitted) then .bad .notFitted
  else parseParams s.ownNumber s.standard (Via.fromLine via) p

end Sys2Proof.Machine
end

