-- ==== Sys2Proof/Machine/Requests.lean ====
section
/-! DEFINITION. Requests to the deck and their tally waits: making a request, the moment a wait is satisfied, and what that
moment completes (R81, R83, R90, R94, R117). -/

namespace Sys2Proof.Machine

/-- The mode a tally shows; NONE matches no request (R83). -/
def Tally.mode : Tally → Option ReqMode
  | .stop => some .stop
  | .still => some .still
  | .play => some .play
  | .var => some .var
  | .record => some .record
  | .eject => some .eject
  | .unknown => none

/-- Whether the tally shows a mode at present. -/
def State.tallyShows (s : State) (m : ReqMode) : Bool := Tally.mode s.pins.tally == some m

/-- The shuttle limit of the CONFIGURE record. -/
def State.shuttleLimit (s : State) : Nat := (s.dhd.config.map (·.shuttleLimit)).getD 0

/-- A speed word clamped to plus or minus the shuttle limit (R81). -/
def State.clampSpeed (s : State) (v : Int) : Int := clampInt (-(s.shuttleLimit : Int)) s.shuttleLimit v

/-- What the MODE request lines show: the mode, the speed word for VAR and RECORD, the track mask for RECORD (R81). -/
def State.modeLines (s : State) : ReqMode × Int × BitVec 5 :=
  (s.tsq.reqMode,
   if s.tsq.reqMode = .var ∨ s.tsq.reqMode = .record then s.tsq.reqSpeed else 0,
   if s.tsq.reqMode = .record then s.tsq.reqTrack else 0)

/-- The type byte of the directive a motion came in, echoed in its report (section 2.9). -/
def Motion.typeByte : Motion → Byte
  | .still | .play | .shuttle _ | .eject => 0x05
  | .cueTo _ => 0x06
  | .jog _ => 0x07

/-- The type byte a pending operation is reported with. -/
def OpKind.typeByte : OpKind → Byte
  | .mode | .eject => 0x05
  | .cueTo => 0x06
  | .jog => 0x07

def State.setPending (o : Option PendingOp) (s : State) : State := { s with tsq := { s.tsq with pendingOp := o } }

def State.setTransport (t : TransportState) (s : State) : State := { s with tsq := { s.tsq with state := t } }

/-- A CUE_TO or JOG whose STILL is matched completes when the error is within 256 (R94). -/
def State.judgeRest (o : PendingOp) (s : State) : State :=
  match s.standard, s.own with
  | some std, some x =>
    if (diff std.day (o.target * 256) x).natAbs ≤ 256 then
      ((s.setPending none).setTransport .still).answer o.issuer o.seq o.kind.typeByte .done s.ownBytes
    else s
  | _, _ => s

/-- What a pending operation does when the present request is matched (R90, R91, R94). -/
def State.matchPending (s : State) : State :=
  match s.tsq.pendingOp with
  | none => s
  | some o =>
    match o.kind with
    | .mode => s.setPending none
    | .eject =>
      if s.tsq.reqMode = .eject then (s.setPending none).answer o.issuer o.seq o.kind.typeByte .done [] else s
    | .cueTo | .jog =>
      if s.tsq.state = .cueing ∧ s.tsq.reqMode = .still then s.judgeRest o else s

/-- The recovery STOP is matched: the state becomes STOPPED and recovery NONE (R87). -/
def State.matchRecovery (s : State) : State :=
  if s.tsq.recovery = .recoveryWait then { s with tsq := { s.tsq with state := .stopped, recovery := .idle } } else s

/-- In FOLLOW_STILL, a matched STILL with the error within 256 parks the chase (R117). -/
def State.matchFollow (s : State) : State :=
  if s.tsq.state = .chasing ∧ s.tsq.reqMode = .still ∧ s.csv.state = .followStill ∧ s.csv.followStep = .approaching then
    match s.standard, s.own with
    | some std, some x =>
      if (diff std.day s.csv.target x).natAbs ≤ 256 then { s with csv := { s.csv with followStep := .parked } } else s
    | _, _ => s
  else s

/-- The request is matched: its wait is over, and what waited for it comes about (R83). -/
def State.onMatched (s : State) : State :=
  ({ s with tsq := { s.tsq with matched := true, wait := none } }).matchRecovery.matchPending.matchFollow

/-- A request for a mode, with its speed word and track mask (R81, R83). The mode requested already is a speed change, and
when it is matched its wait is satisfied at once (R91). -/
def State.drive (m : ReqMode) (speed : Int) (track : BitVec 5) (s : State) : State :=
  let v := if m = .var ∨ m = .record then s.clampSpeed speed else 0
  if s.tsq.reqMode = m then
    let s1 := { s with tsq := { s.tsq with reqSpeed := v } }
    if s1.tsq.matched then s1.onMatched else s1
  else
    let s1 := { s with tsq := { s.tsq with
      reqMode := m, reqSpeed := v, reqTrack := if m = ReqMode.record then track else 0, matched := false,
      wait := some { settle := 0, busy := 0 } } }
    if s1.tallyShows m then s1.onMatched else s1

/-- A tally wait started for the mode already requested (R87, R90, R99). -/
def State.startWait (s : State) : State :=
  let s1 := { s with tsq := { s.tsq with matched := false, wait := some { settle := 0, busy := 0 } } }
  if s1.tallyShows s1.tsq.reqMode then s1.onMatched else s1

/-- The present request set matched with no tally wait, as an adoption sets it (R88). -/
def State.adoptRequest (m : ReqMode) (speed : Int) (s : State) : State :=
  { s with tsq := { s.tsq with
    reqMode := m, reqSpeed := if m = .var then s.clampSpeed speed else 0, reqTrack := 0, matched := true,
    wait := none } }

/-- A mode requested with no tally wait (R85, R88, R89, R90). The request is not matched from then on, also where it stood matched
for that mode before (notes/assumptions/38.md, DESIGN CHOICE). -/
def State.setRequest (m : ReqMode) (s : State) : State :=
  { s with tsq := { s.tsq with reqMode := m, reqSpeed := 0, reqTrack := 0, matched := false, wait := none } }

end Sys2Proof.Machine
end

