-- ==== Sys2Proof/Machine/Endings.lean ====
section
/-! DEFINITION. How a chase turns OFF and how a record segment ends, normally or by emergency out, since faults, stops and
guards of several blocks end both (R120, R140, R146 to R151). -/

namespace Sys2Proof.Machine

/-! ### The chase turns OFF (R106, R120) -/

/-- State OFF, engaged by none, every count 0, follow step APPROACHING; the stored record is kept. -/
def State.chaseOff (s : State) : State :=
  { s with csv := { s.csv with
    state := .off, engagedBy := .nothing, followStep := .approaching, pullTimer := 0, lockRun := 0, blankRun := 0,
    rerolls := 0, offTime := 0 } }

/-- The chase's standing request is driven (R82, R146). -/
def State.driveStanding (s : State) : State :=
  match s.tsq.standing with
  | .still => s.drive .still 0 0
  | .var v => s.drive .var v 0

/-! ### Zones (R151) -/

/-- A position lies in a zone. -/
def Zone.contains (z : Zone) (x : Nat) : Bool := z.start ≤ x && x < z.stop

/-- A position lies in a zone of the table. -/
def State.inZone (s : State) (x : Nat) : Bool := s.rcc.zones.any (·.contains x)

/-! ### Segment arithmetic (R140) -/

/-- The remaining of a segment whose last recorded frame is `last`. -/
def Segment.remainingAt (g : Segment) (w last : Nat) : Option Nat :=
  g.duration.map fun d => d - frameAdd w (frameAdd w last 1) (-(g.inFrame : Int))

/-- The segment with a new last recorded frame, its remaining computed afresh. -/
def Segment.atFrame (g : Segment) (w last : Nat) : Segment :=
  { g with lastFrame := last, remaining := g.remainingAt w last }

/-- W of the standard in force. -/
def State.dayFrames (s : State) : Nat := (s.standard.map Standard.framesPerDay).getD 1

/-- The segment brought to the own frame, when the position source is not NONE (R143, R146, R148). -/
def State.atOwnFrame (s : State) (g : Segment) : Segment :=
  match s.ownFrame with
  | some f => g.atFrame s.dayFrames f
  | none => g

/-! ### Ends (R146, R148 to R150) -/

/-- The turnaround gap in field starts (R150). -/
def State.gapFields (s : State) : Nat := 2 * ((s.dhd.config.map (·.turnaround)).getD 0)

/-- The segment record leaves and the segment enters GAP, or IDLE when the turnaround gap is 0 (R150). -/
def State.enterGap (s : State) : State :=
  { s with rcc := { s.rcc with
    state := if s.gapFields = 0 then .idle else .gap, record := none, gapCount := s.gapFields, fresh := true } }

/-- The 14 bytes of a SEGMENT_NOTICE (R149 and section 2.9). -/
def State.segmentNoticeBytes (s : State) (g : Segment) (reason : Code) : List Byte :=
  [2, byteOfBool (reason != .done), reason.value] ++ s.labelBytes g.inFrame ++ s.labelBytes g.lastFrame ++
    (match g.remaining with | some r => 1 :: bytes16 r | none => [0, 0, 0])

/-- The SEGMENT_NOTICE of an ended segment, when it has a notify station (R149). -/
def State.segmentNotice (g : Segment) (reason : Code) (s : State) : State :=
  match g.notify with
  | some n => s.raiseNotice n (s.segmentNoticeBytes g reason)
  | none => s

/-- The ending mode: PLAY in transport state RECORDING, the chase's standing request in CHASING (R146). -/
def State.driveEndingMode (s : State) : State :=
  match s.tsq.state with
  | .recording => (s.setTransport .playing).drive .play 0 0
  | .chasing => s.driveStanding
  | _ => s

/-- A normal end: the ending mode, the notice, the gap (R146). -/
def State.endNormally (g : Segment) (s : State) : State := (s.driveEndingMode.segmentNotice g .done).enterGap

/-- The sense record of an emergency out (R148, step 3). -/
def Segment.senseRecord (g : Segment) (w : Nat) (reason : Code) : Sense :=
  { code := reason, origin := .cue g.origin, address := some g.lastFrame, nextFrame := some (frameAdd w g.lastFrame 1),
    remaining := g.remaining }

/-- Steps 2 to 6 of an emergency out for a segment whose last recorded frame is set; the ending mode is driven only where
the cause leaves the request to the RCC (R147, R148). -/
def State.abortSegmentAt (g : Segment) (reason : Code) (drives : Bool) (s : State) : State :=
  let s1 := if drives then s.driveEndingMode else s
  (((s1.writeSense (g.senseRecord s.dayFrames reason)).latch .segmentAborted).segmentNotice g reason).enterGap

/-- A RECORDING segment ends by emergency out at the own frame; in any other segment state nothing happens (R147, R148). -/
def State.emergencyOut (reason : Code) (drives : Bool) (s : State) : State :=
  match s.rcc.state, s.rcc.record with
  | .recording, some g => s.abortSegmentAt (s.atOwnFrame g) reason drives
  | _, _ => s

end Sys2Proof.Machine
end

