-- ==== Sys2Proof/Machine/Position.lean ====
section
/-! DEFINITION. The Position Unit: tach pulses, code words, dropout and measured speed (R9 to R21), and the meanings of the
commands TACH_PULSE, CODE_WORD, JUMP_CANDIDATE_EXPIRES and CODE_LOST. -/

namespace Sys2Proof.Machine

/-- The PSU is active when CONFIGURE has been accepted, a transport is fitted and THREADED is asserted (R10). -/
def State.psuActive (s : State) : Bool :=
  s.dhd.config.isSome && s.dhd.transportFitted && s.pins.threaded

/-- The last pulse count of motion a jump candidate stands for (R17). -/
def candidateLife (tpf : Nat) : Nat := 3 * tpf / 2

/-- The missing count reaches dropout window + 1: the source becomes TACH and CODE_LOST is latched (R18). -/
def State.loseCode (window : Nat) (s : State) : State :=
  ({ s with psu := { s.psu with source := .tach, missing := window + 1 } }).latch .codeLost

/-- One whole frame of motion is complete (R18). -/
def State.frameOfMotion (window : Nat) (s : State) : State :=
  if s.psu.source = .code then
    if window ≤ s.psu.missing then s.loseCode window
    else { s with psu := { s.psu with missing := s.psu.missing + 1 } }
  else s

/-- The pulse count and anchor after one pulse of direction `d`, rebased at a whole frame (R11, step 2). -/
def rebase (std : Standard) (tpf : Nat) (d : Int) (u : Psu) : Psu :=
  let p := u.p + d
  if p = tpf then { u with p := 0, anchor := frameAdd std.framesPerDay u.anchor 1 }
  else if p = -(tpf : Int) then { u with p := 0, anchor := frameAdd std.framesPerDay u.anchor (-1) }
  else { u with p := p }

/-- A jump candidate after one more pulse: gone when its motion exceeds its life (R17). -/
def ageCandidate (tpf : Nat) : Option Candidate → Option Candidate
  | none => none
  | some c => if candidateLife tpf < c.motion + 1 then none else some { c with motion := c.motion + 1 }

/-- The pulse's part in an active PSU with a position (R11, steps 2 and 3). -/
def State.countPulse (c : Settings) (d : Int) (s : State) : State :=
  let u := rebase c.standard c.tpf d s.psu
  let u := { u with candidate := ageCandidate c.tpf u.candidate }
  if u.motion + 1 < c.tpf then { s with psu := { u with motion := u.motion + 1 } }
  else ({ s with psu := { u with motion := 0 } }).frameOfMotion c.dropoutWindow

/-- A tach pulse (R11). -/
def State.tach (forward : Bool) (s : State) : State :=
  let d : Int := if forward then 1 else -1
  let s1 := { s with psu := { s.psu with fieldTotal := s.psu.fieldTotal + d } }
  match s1.dhd.config with
  | some c => if s1.psuActive && s1.psu.source != .noSource then s1.countPulse c d else s1
  | none => s1

/-- A word is adopted (R13, R14, R16). -/
def State.adoptWord (c : Nat) (s : State) : State :=
  { s with psu := { s.psu with
    anchor := c, p := 0, motion := 0, missing := 0, candidate := none, source := .code } }

/-- A word becomes the jump candidate (R15, R16). -/
def State.takeCandidate (j : Int) (s : State) : State :=
  { s with psu := { s.psu with candidate := some { jump := j, motion := 0 } } }

/-- A valid word of frame count `c`, judged by its jump `j` (R14, R15, R16). -/
def State.judgeWord (c : Nat) (j : Int) (s : State) : State :=
  if j.natAbs ≤ 384 then s.adoptWord c
  else
    match s.psu.candidate with
    | none => s.takeCandidate j
    | some k => if (j - k.jump).natAbs ≤ 256 then (s.adoptWord c).latch .codeJump else s.takeCandidate j

/-- A code word from the reader (R13). -/
def State.readWord (label : Label) (s : State) : State :=
  match s.dhd.config with
  | some cfg =>
    if s.psuActive then
      match labelCount cfg.standard label with
      | none => s
      | some c =>
        match s.own with
        | none => s.adoptWord c
        | some x => s.judgeWord c (diff cfg.standard.day (c * 256) x)
    else s
  | none => s

/-- The measured speed at a field start; the field pulse total begins again (R19). -/
def State.measureSpeed (s : State) : State :=
  let v : Int :=
    match s.dhd.config with
    | some c => clampInt (-32767) 32767 (Int.tdiv (s.psu.fieldTotal * 2048) c.tpf)
    | none => 0
  { s with psu := { s.psu with speed := v, fieldTotal := 0 } }

/-- THREADED falls: the PSU becomes inactive (R20). -/
def State.losePosition (s : State) : State :=
  { s with psu := { s.psu with
    source := .noSource, anchor := 0, p := 0, motion := 0, missing := 0, candidate := none } }

/-! ### Meanings -/

/-- TACH_PULSE (R11). -/
def execTachPulse (forward : Bool) (s : State) : Host.Outcome State Fault Refusal := .next (s.tach forward)

/-- CODE_WORD (R13 to R16). -/
def execCodeWord (label : Label) (s : State) : Host.Outcome State Fault Refusal := .next (s.readWord label)

/-- JUMP_CANDIDATE_EXPIRES (R17): a candidate whose motion is at its life's end is discarded (notes/assumptions/2.md). -/
def execJumpCandidateExpires (s : State) : Host.Outcome State Fault Refusal :=
  match s.dhd.config, s.psu.candidate with
  | some c, some k =>
    if candidateLife c.tpf ≤ k.motion then .next { s with psu := { s.psu with candidate := none } } else .next s
  | _, _ => .next s

/-- CODE_LOST (R18): the frame of motion that takes a missing count at the window past it (notes/assumptions/2.md). -/
def execCodeLost (s : State) : Host.Outcome State Fault Refusal :=
  match s.dhd.config with
  | some c =>
    if s.psu.source = .code ∧ c.dropoutWindow ≤ s.psu.missing then .next (s.loseCode c.dropoutWindow) else .next s
  | none => .next s

end Sys2Proof.Machine
end

