-- ==== Sys2Proof/Machine/Transport.lean ====
section
/-! DEFINITION. The Transport Sequencer: faults and recovery, tally changes, threading, the TRANSPORT, CUE_TO and JOG laws,
the deferral slot, and the meanings of the deck's commands (R80 to R101). -/

namespace Sys2Proof.Machine

/-! ### Settling and the deferral slot (R83, R97) -/

/-- The transport is settled (R83). -/
def State.settled (s : State) : Bool :=
  s.tsq.state != .cueing && s.tsq.state != .ejecting && s.tsq.wait.isNone && s.tsq.recovery == .idle

/-- An owner's answer to a directive is reported; no report while it is answered later (R70, R71). -/
def State.reply (issuer : Issuer) (seq type : Byte) (r : Reply) (s : State) : State :=
  match r with
  | some (c, result) => s.answer issuer seq type c result
  | none => s

/-- The held directive leaves the slot unrun, answered with a code (R92, R96, R97, R98). -/
def State.emptySlot (c : Code) (s : State) : State :=
  match s.tsq.slot with
  | some h => ({ s with tsq := { s.tsq with slot := none } }).answer h.issuer h.seq h.motion.typeByte c []
  | none => s

/-! ### Pending operations (R95, R96) -/

/-- The origin a failure of the present request is written with (R85). -/
def State.opOrigin (s : State) : Origin :=
  match s.tsq.pendingOp with
  | some o => o.origin
  | none => .nothing

/-- The pending operation ends with a result for a cue and a result for an EJECT; a MODE record is cleared with no report. -/
def State.endPending (cueCode ejectCode : Code) (s : State) : State :=
  match s.tsq.pendingOp with
  | none => s
  | some o =>
    match o.kind with
    | .mode => s.setPending none
    | .eject => (s.setPending none).answer o.issuer o.seq o.kind.typeByte ejectCode []
    | .cueTo | .jog => (s.setPending none).answer o.issuer o.seq o.kind.typeByte cueCode []

/-! ### The approach law (R94) -/

/-- Steps 2 and 3: hold a STILL whose wait is not satisfied, otherwise request STILL or VAR by the error. -/
def State.approach (e : Int) (s : State) : State :=
  if s.tsq.reqMode = .still ∧ s.tsq.matched = false then s
  else if e.natAbs ≤ 128 then s.drive .still 0 0
  else s.drive .var (signOf e * clampInt 128 s.shuttleLimit (e.natAbs / 8 : Nat)) 0

/-- The cue's error at present, when a cue is pending and the position is known. -/
def State.cueError (o : PendingOp) (s : State) : Option Int :=
  match s.standard, s.own with
  | some std, some x => some (diff std.day (o.target * 256) x)
  | _, _ => none

/-- Step 1: the reversal count and the last sign. -/
def PendingOp.countReversal (o : PendingOp) (e : Int) : PendingOp :=
  if e = 0 then o
  else
    { o with
      reversals := if o.lastSign.isSome ∧ o.lastSign ≠ some (signOf e) then o.reversals + 1 else o.reversals,
      lastSign := some (signOf e) }

/-! ### Taking motions (R91, R93) -/

inductive Verdict where
  | refuse (c : Code)
  | hold
  | take
deriving DecidableEq, Repr

def Motion.isSeek : Motion → Bool
  | .cueTo _ | .jog _ => true
  | .still | .play | .shuttle _ | .eject => false

/-- The first line of R91 or R93 that applies. -/
def State.motionVerdict (m : Motion) (s : State) : Verdict :=
  if s.tsq.state = .unthreaded then .refuse .noTape
  else if s.csv.state ≠ .off then .refuse .chaseActive
  else if s.tsq.state = .recording then .refuse .transportNotReady
  else if s.tsq.state = .faulted ∧ s.tsq.recovery = .idle then .refuse .transportNotReady
  else if m.isSeek ∧ s.psu.source = .noSource then .refuse .positionUnknown
  else if s.settled then .take else .hold

/-- A pending record of a kind, with no cue progress. -/
def pendingOf (kind : OpKind) (issuer : Issuer) (seq : Byte) (origin : Origin) (target : Nat) : PendingOp :=
  { kind := kind, issuer := issuer, seq := seq, origin := origin, target := target, reversals := 0, lastSign := none }

/-- A STILL, PLAY or SHUTTLE taken: the state changes at the request, and a MODE record stands until the wait ends (R91). -/
def State.takeMode (t : TransportState) (m : ReqMode) (speed : Int) (issuer : Issuer) (seq : Byte) (origin : Origin)
    (s : State) : State :=
  ((s.setTransport t).setPending (some (pendingOf .mode issuer seq origin 0))).drive m speed 0

/-- A CUE_TO or JOG taken: the target is fixed and the approach law applied at once (R93). -/
def State.takeSeek (kind : OpKind) (target : Nat) (issuer : Issuer) (seq : Byte) (s : State) : State :=
  let o := pendingOf kind issuer seq (.directive kind.typeByte) target
  let s1 := (s.setTransport .cueing).setPending (some o)
  match s1.cueError o with
  | some e => s1.approach e
  | none => s1

/-- A motion that passes its guards is taken (R91, R93). -/
def State.takeMotion (m : Motion) (issuer : Issuer) (seq : Byte) (s : State) : State × Reply :=
  match m with
  | .still => (s.takeMode .still .still 0 issuer seq (.directive 0x05), replyOf .done)
  | .play => (s.takeMode .playing .play 0 issuer seq (.directive 0x05), replyOf .done)
  | .shuttle v => (s.takeMode .shuttling .var v issuer seq (.directive 0x05), replyOf .done)
  | .eject =>
    (((s.setTransport .ejecting).setPending (some (pendingOf .eject issuer seq (.directive 0x05) 0))).drive .eject 0 0,
     none)
  | .cueTo f => (s.takeSeek .cueTo f issuer seq, none)
  | .jog n => (s.takeSeek .jog (frameAdd s.dayFrames (s.ownFrame.getD 0) n) issuer seq, none)

/-- A motion is refused, held in the slot, refused with BUSY, or taken (R91, R93, R97). -/
def State.requestMotion (m : Motion) (issuer : Issuer) (seq : Byte) (s : State) : State × Reply :=
  match s.motionVerdict m with
  | .refuse c => (s, replyOf c)
  | .hold =>
    if s.tsq.slot.isSome then (s, replyOf .busy)
    else ({ s with tsq := { s.tsq with slot := some { motion := m, issuer := issuer, seq := seq, age := 0 } } }, none)
  | .take => s.takeMotion m issuer seq

/-- Where the transport is settled, a held directive is released, judged again and answered (R97). -/
def State.settle (s : State) : State :=
  match s.tsq.slot with
  | some h =>
    if s.settled then
      let r := ({ s with tsq := { s.tsq with slot := none } }).requestMotion h.motion h.issuer h.seq
      r.1.reply h.issuer h.seq h.motion.typeByte r.2
    else s
  | none => s

/-! ### STOP (R87, R92, R98, R99) -/

/-- In FAULTED, STOP is tried: recovery becomes RECOVERY_WAIT and a tally wait for STOP starts (R87). -/
def State.tryStop (s : State) : State := ({ s with tsq := { s.tsq with recovery := .recoveryWait } }).startWait

/-- TRANSPORT STOP or a MODE STOP cue, by R92. The MODE record it leaves has no issuer, and the directive's sequence (R95); a cue
gives 0 for it (notes/assumptions/39.md, DESIGN CHOICE). -/
def State.transportStop (seq : Byte) (origin : Origin) (s : State) : State × Reply :=
  if s.tsq.state = .unthreaded then (s, replyOf .noTape)
  else
    let s1 := ((s.endPending .cueAborted .aborted).emptySlot .superseded).chaseOff.emergencyOut .aborted false
    let s2 :=
      if s1.tsq.state = .faulted then s1.tryStop
      else ((s1.setTransport .stopped).setPending (some (pendingOf .mode .nobody seq origin 0))).drive .stop 0 0
    (s2.settle, replyOf .done)

/-- The TSQ's part of a stop event (R98). -/
def State.stopTransport (s : State) : State :=
  if s.dhd.transportFitted = false ∨ s.tsq.state = .unthreaded then s
  else
    let s1 := (s.emptySlot .superseded).endPending .allStopped .allStopped
    if s1.dhd.config.isNone then s1
    else if s1.tsq.state = .faulted then s1.tryStop
    else (s1.setTransport .stopped).drive .stop 0 0

/-- The TSQ's STOP at RESTART: a fresh tally wait for STOP (R80, R99). In FAULTED, STOP is tried and recovery is RECOVERY_WAIT by R87
and R99, where R80's table gives NONE (notes/assumptions/35.md, DEDUCED). -/
def State.restartTransport (s : State) : State :=
  let s1 := { s with tsq := { s.tsq with slot := none, pendingOp := none } }
  if s1.dhd.transportFitted = false ∨ s1.tsq.state = .unthreaded ∨ s1.dhd.config.isNone then
    { s1 with tsq := { s1.tsq with recovery := .idle } }
  else if s1.tsq.state = .faulted then s1.tryStop
  else ((s1.setTransport .stopped).setRequest .stop).startWait

/-- ABORT with target TRANSPORT_OP (R96). -/
def State.abortOp (s : State) : State :=
  let s1 :=
    match s.tsq.pendingOp with
    | some o =>
      match o.kind with
      | .cueTo | .jog => ((s.endPending .cueAborted .aborted).setTransport .still).drive .still 0 0
      | .eject => ((s.endPending .cueAborted .aborted).setTransport .stopped).drive .stop 0 0
      | .mode => s
    | none => s
  (s1.emptySlot .superseded).settle

/-! ### Faults and recovery (R85 to R87) -/

/-- The transport enters FAULTED with a cause (R85, R86). -/
def State.enterFaulted (cause : Code) (s : State) : State :=
  let sense : Sense := { code := cause, origin := s.opOrigin, address := none, nextFrame := none, remaining := none }
  let auto := (s.dhd.config.map (·.autoRecover)).getD false
  let s1 := (((s.setTransport .faulted).setRequest .stop).latch .transportFault).writeSense sense
  let s2 := (s1.endPending cause cause).chaseOff.emergencyOut cause false
  { s2 with tsq := { s2.tsq with recovery := if auto then .offTime 0 else .idle } }

/-- The recovery STOP's wait runs out: the state stays FAULTED with recovery NONE (R87). -/
def State.recoveryFails (s : State) : State :=
  (({ s with tsq := { s.tsq with recovery := .idle, wait := none, matched := false } }).latch .transportFault).writeSense
    { code := .transportTimeout, origin := .nothing, address := none, nextFrame := none, remaining := none }

/-- A tally wait runs out (R85, R87). -/
def State.waitRunsOut (s : State) : State :=
  if s.tsq.recovery = .recoveryWait then s.recoveryFails.settle else (s.enterFaulted .transportTimeout).settle

/-- DECK_FAULT is qualified (R86). -/
def State.faultQualified (s : State) : State :=
  (({ s with tsq := { s.tsq with faultCount := 0 } }).enterFaulted .deckFault).settle

/-- The off-time count reaches its limit (R87, step 1). -/
def State.offTimeEnds (s : State) : State :=
  if s.pins.field.deckFault then { s with tsq := { s.tsq with recovery := .offTime 0 } }
  else s.tryStop.settle

/-! ### The TSQ's work at a field start (R84, R86, R87, R94, R97) -/

/-- DECK_FAULT read at a field start (R86). -/
def State.faultStep (s : State) : State :=
  if s.tsq.state = .unthreaded ∨ s.tsq.state = .faulted then s
  else if s.pins.field.deckFault then
    if 1 ≤ s.tsq.faultCount then s.faultQualified
    else { s with tsq := { s.tsq with faultCount := s.tsq.faultCount + 1 } }
  else { s with tsq := { s.tsq with faultCount := 0 } }

/-- A running tally wait at a field start (R84). -/
def State.waitStep (c : Settings) (s : State) : State :=
  match s.tsq.wait with
  | none => s
  | some w =>
    if s.pins.field.deckBusy ∧ w.busy < c.busyLimit then
      { s with tsq := { s.tsq with wait := some { w with busy := w.busy + 1 } } }
    else if c.settleLimit ≤ w.settle + 1 then s.waitRunsOut
    else { s with tsq := { s.tsq with wait := some { w with settle := w.settle + 1 } } }

/-- Recovery's off-time, or a running tally wait, at a field start (R84, R87). -/
def State.recoveryStep (c : Settings) (s : State) : State :=
  match s.tsq.recovery with
  | .offTime n =>
    if c.recoveryOffTime ≤ n + 1 then s.offTimeEnds
    else { s with tsq := { s.tsq with recovery := .offTime (n + 1) } }
  | _ => s.waitStep c

/-- A cue's reversals exceed 8: it fails with SEEK_FAILED (R94, R96). -/
def State.failSeek (o : PendingOp) (s : State) : State :=
  let s1 := (s.setPending none).setTransport .still
  let s2 := s1.writeSense
    { code := .seekFailed, origin := o.origin, address := s.ownFrame, nextFrame := none, remaining := none }
  ((s2.answer o.issuer o.seq o.kind.typeByte .seekFailed []).drive .still 0 0).settle

/-- The cue's judgement at a field start (R94). -/
def State.cueStep (s : State) : State :=
  match s.tsq.pendingOp with
  | some o =>
    match s.cueError o with
    | some e =>
      let o' := o.countReversal e
      let s1 := s.setPending (some o')
      if 8 < o'.reversals then s1.failSeek o' else (s1.approach e).settle
    | none => s
  | none => s

/-- The held directive reaches the deferral limit and leaves the slot unrun (R97). -/
def State.expireSlot (h : Held) (s : State) : State :=
  (s.writeSense { code := .deferralExpired, origin := .directive h.motion.typeByte, address := none, nextFrame := none,
                  remaining := none }).emptySlot .deferralExpired

/-- The held directive ages (R97). -/
def State.slotStep (c : Settings) (s : State) : State :=
  match s.tsq.slot with
  | some h =>
    if c.standard.deferralLimit ≤ h.age + 1 then s.expireSlot h
    else { s with tsq := { s.tsq with slot := some { h with age := h.age + 1 } } }
  | none => s

/-- The TSQ's work at a field start, in the model's own order (notes/assumptions/36.md, DESIGN CHOICE): the deck fault, then the
off-time or tally wait, then the cue law, the slot's age last. A fault qualified here interrupts a running wait; a recovery entered
here is not counted here; a CUE_TO or JOG released and taken here, as the recovery's STOP is matched, is judged at its taking alone
and from the next field start on by the cue law. -/
def State.transportFieldStart (s : State) : State :=
  match s.dhd.config with
  | some c =>
    if s.dhd.transportFitted then
      let s1 := s.faultStep
      let s2 := if s1.tsq.state = .faulted ∧ s.tsq.state ≠ .faulted then s1 else s1.recoveryStep c
      let s3 := if s.tsq.state = .cueing ∧ s2.tsq.state = .cueing then s2.cueStep else s2
      s3.slotStep c
    else s
  | none => s

/-! ### Tally changes (R83, R88) -/

/-- The state and request an unsolicited tally is adopted as (R88). -/
def State.adopt (t : Tally) (s : State) : State :=
  match t with
  | .stop => (s.setTransport .stopped).adoptRequest .stop 0
  | .still => (s.setTransport .still).adoptRequest .still 0
  | .play => (s.setTransport .playing).adoptRequest .play 0
  | .var => (s.setTransport .shuttling).adoptRequest .var s.psu.speed
  | .record => ((s.setTransport .playing).setRequest .play).startWait
  | .eject => (s.setTransport .ejecting).adoptRequest .eject 0
  | .unknown => s

/-- An unsolicited tally change (R88). -/
def State.overridden (t : Tally) (s : State) : State :=
  let sense : Sense :=
    { code := .deckOverride, origin := s.opOrigin, address := s.ownFrame, nextFrame := none, remaining := none }
  let pending := s.tsq.pendingOp
  let s1 := ({ s with tsq := { s.tsq with pendingOp := none } }).adopt t
  let s2 := (s1.setPending pending).endPending .deckOverride .deckOverride
  let s3 := if pending.isSome then s2.writeSense sense else s2
  ((s3.chaseOff.emergencyOut .deckOverride false).latch .deckOverride).settle

/-- Whether a tally change is unsolicited (R88). -/
def State.unsolicited (s : State) (t : Tally) : Bool :=
  s.tsq.matched && t != .unknown && !s.tallyShows s.tsq.reqMode && s.tsq.state != .unthreaded &&
    s.tsq.state != .faulted && s.tsq.state != .ejecting

/-- The tally lines change (R83, R88). Before CONFIGURE the tally is not judged (R80). -/
def State.changeTally (t : Tally) (s : State) : State :=
  let s1 := { s with pins := { s.pins with tally := t } }
  if t = s.pins.tally ∨ s.dhd.transportFitted = false ∨ s.dhd.config.isNone then s1
  else if s1.tsq.wait.isSome then
    if s1.tallyShows s1.tsq.reqMode then s1.onMatched.settle else s1
  else if s1.unsolicited t then s1.overridden t
  else s1

/-! ### Threading (R20, R89, R90) -/

/-- A pending operation when the tape goes: a cue fails with NO_TAPE, an EJECT completes (R89). -/
def State.loseTape (s : State) : State :=
  match s.tsq.pendingOp with
  | some o =>
    match o.kind with
    | .cueTo | .jog =>
      (s.writeSense { code := .noTape, origin := o.origin, address := none, nextFrame := none,
                      remaining := none }).endPending .noTape .done
    | .mode | .eject => s.endPending .noTape .done
  | none => s

/-- THREADED falls (R20, R89). -/
def State.unthread (s : State) : State :=
  if s.pins.threaded then
    let s1 := ({ s with pins := { s.pins with threaded := false } }).losePosition
    if s1.dhd.transportFitted then
      let s2 := (s1.setTransport .unthreaded).setRequest (if s1.dhd.config.isSome then .stop else .noMode)
      let s3 := { s2 with tsq := { s2.tsq with faultCount := 0, recovery := .idle } }
      (s3.loseTape.chaseOff.emergencyOut .noTape false).settle
    else s1
  else s

/-- THREADED rises (R90). -/
def State.thread (s : State) : State :=
  if s.pins.threaded then s
  else
    let s1 := { s with pins := { s.pins with threaded := true } }
    if s1.dhd.transportFitted then
      let s2 := s1.setTransport .stopped
      if s2.dhd.config.isSome then s2.startWait.settle else s2
    else s1

/-- What CONFIGURE acceptance gives the TSQ (R90). -/
def State.configureTransport (s : State) : State :=
  if s.dhd.transportFitted then
    if s.pins.threaded then (s.setTransport .stopped).drive .stop 0 0 else s.setRequest .stop
  else s

/-! ### Requests from the other blocks (R100, R101) -/

/-- The Chase Servo's request: driven, or while the segment is RECORDING a speed change within RECORD for VAR and a
standing request for STILL (R82, R100). -/
def State.chaseRequest (r : ChaseReq) (s : State) : State :=
  let s1 := { s with tsq := { s.tsq with standing := r } }
  match s.rcc.state, r with
  | .recording, .var v => { s1 with tsq := { s1.tsq with reqSpeed := s1.clampSpeed v } }
  | .recording, .still => s1
  | _, _ => s1.driveStanding

/-- The engagement is taken: a pending CUE_TO or JOG ends with CHASE_ACTIVE, a MODE record is cleared, and the state
becomes CHASING (R100). -/
def State.engageTransport (s : State) : State :=
  (s.endPending .chaseActive .chaseActive).setTransport .chasing

/-- The Record Controller's request for RECORD from PLAYING or from CHASING (R101, R142). -/
def State.requestRecord (mask : BitVec 5) (s : State) : State :=
  let s1 := s.setPending none
  if s1.tsq.state = .chasing then s1.drive .record s1.tsq.reqSpeed mask
  else (s1.setTransport .recording).drive .record 1024 mask

/-- A MODE cue's STILL or PLAY: as a TRANSPORT directive, but refused where that would be held (R101). The record's sequence is 0
(notes/assumptions/39.md, DESIGN CHOICE). -/
def State.cueMotion (m : Motion) (t : TransportState) (r : ReqMode) (id : Nat) (s : State) : State × Option Code :=
  match s.motionVerdict m with
  | .refuse c => (s, some c)
  | .hold => (s, some .transportNotReady)
  | .take => (s.takeMode t r 0 .nobody 0 (.cue id), none)

/-- A ROLL's PLAY: taken in STILL and STOPPED, a running wait included (R101, R136). The record has no
issuer, and the sequence of the ROLL directive (R95). -/
def State.rollPlay (seq : Byte) (s : State) : State × Option Code :=
  match s.tsq.state with
  | .unthreaded => (s, some .noTape)
  | .still | .stopped => (s.takeMode .playing .play 0 .nobody seq (.directive 0x0B), none)
  | _ => (s, some .transportNotReady)

/-! ### Meanings -/

/-- TALLY_CHANGE (R83, R88). -/
def execTallyChange (t : Tally) (s : State) : Host.Outcome State Fault Refusal := .next (s.changeTally t)

/-- THREADED_FALLS (R20, R89). -/
def execThreadedFalls (s : State) : Host.Outcome State Fault Refusal := .next s.unthread

/-- THREADED_RISES (R90). -/
def execThreadedRises (s : State) : Host.Outcome State Fault Refusal := .next s.thread

/-- TALLY_WAIT_RUNS_OUT (R84, R85): the last count of a wait that no recovery governs (notes/assumptions/2.md). -/
def execTallyWaitRunsOut (s : State) : Host.Outcome State Fault Refusal :=
  match s.dhd.config, s.tsq.wait with
  | some c, some w =>
    if s.tsq.recovery ≠ .recoveryWait ∧ c.settleLimit ≤ w.settle + 1 then .next s.waitRunsOut else .next s
  | _, _ => .next s

/-- DECK_FAULT_QUALIFIED (R86): the deck fault count goes from 1 to 2 (notes/assumptions/2.md). -/
def execDeckFaultQualified (s : State) : Host.Outcome State Fault Refusal :=
  if s.dhd.config.isSome ∧ s.tsq.state ≠ .unthreaded ∧ s.tsq.state ≠ .faulted ∧ 1 ≤ s.tsq.faultCount then
    .next s.faultQualified
  else .next s

/-- RECOVERY_OFF_TIME_ENDS (R87): the last count of the off-time (notes/assumptions/2.md). -/
def execRecoveryOffTimeEnds (s : State) : Host.Outcome State Fault Refusal :=
  match s.dhd.config, s.tsq.recovery with
  | some c, .offTime n => if c.recoveryOffTime ≤ n + 1 then .next s.offTimeEnds else .next s
  | _, _ => .next s

/-- RECOVERY_WAIT_RUNS_OUT (R87): the last count of the recovery STOP's wait (notes/assumptions/2.md). -/
def execRecoveryWaitRunsOut (s : State) : Host.Outcome State Fault Refusal :=
  match s.dhd.config, s.tsq.wait with
  | some c, some w =>
    if s.tsq.recovery = .recoveryWait ∧ c.settleLimit ≤ w.settle + 1 then .next s.waitRunsOut else .next s
  | _, _ => .next s

/-- DEFERRAL_EXPIRED (R97): the last count of a held directive's age (notes/assumptions/2.md). -/
def execDeferralExpired (s : State) : Host.Outcome State Fault Refusal :=
  match s.dhd.config, s.tsq.slot with
  | some c, some h => if c.standard.deferralLimit ≤ h.age + 1 then .next (s.expireSlot h) else .next s
  | _, _ => .next s

/-- SEEK_FAILED (R94): the reversal past the eighth (notes/assumptions/2.md). -/
def execSeekFailed (s : State) : Host.Outcome State Fault Refusal :=
  match s.tsq.pendingOp with
  | some o => if s.tsq.state = .cueing ∧ 8 ≤ o.reversals then .next (s.failSeek o) else .next s
  | none => .next s

end Sys2Proof.Machine
end

