-- ==== Sys2Proof/Machine/Chase.lean ====
section
/-! DEFINITION. The Chase Servo: engagement, the choice of state and the three laws, lock, rerolls and failure, and the
meanings of the commands whose step is the servo's own (R102 to R120). -/

namespace Sys2Proof.Machine

/-! ### The master, the target and the laws (R108, R109, R113, R114, R117) -/

/-- L, the pull limit in speed units (R103). -/
def ChaseRecord.pullSpeed (r : ChaseRecord) : Int := [51, 102, 154, 256].getD r.pullLimit 51

/-- A master is moving when its announced speed is 32 or more either way (R108). -/
def masterMoving (speed : Int) : Bool := 32 ≤ speed.natAbs

/-- The target of the chase: the master's projection plus the offset (R109). -/
def chaseTarget (std : Standard) (offset : Int) (projection : Nat) : Nat := wrapDay std.day ((projection : Int) + offset)

/-- The speed word of the seek law (R113). -/
def seekSpeed (limit : Nat) (master e : Int) : Int := master + signOf e * (min (e.natAbs / 8) limit : Nat)

/-- The speed word of the pull law (R114). -/
def pullSpeedWord (l master e : Int) : Int := master + clampInt (-l) l (Int.tdiv e 4)

/-- The approach law in FOLLOW_STILL: a STILL whose wait is not satisfied is held (R117). -/
def State.followApproach (e : Int) (s : State) : State :=
  if s.tsq.reqMode = .still ∧ s.tsq.matched = false then s
  else if e.natAbs ≤ 128 then s.chaseRequest .still
  else s.chaseRequest (.var (signOf e * clampInt 128 s.shuttleLimit (e.natAbs / 8 : Nat)))

def State.setFollow (f : FollowStep) (s : State) : State := { s with csv := { s.csv with followStep := f } }

/-- The law of FOLLOW_STILL (R117). -/
def State.followLaw (e : Int) (s : State) : State :=
  match s.csv.followStep with
  | .approaching => s.followApproach e
  | .parked => if 256 < e.natAbs then (s.setFollow .approaching).followApproach e else s

/-- The law of the state the chase is in (R113, R114, R117). -/
def State.chaseLaw (r : ChaseRecord) (master e : Int) (s : State) : State :=
  match s.csv.state with
  | .seeking => s.chaseRequest (.var (seekSpeed s.shuttleLimit master e))
  | .pulling | .locked => s.chaseRequest (.var (pullSpeedWord r.pullSpeed master e))
  | .followStill => s.followLaw e
  | .off | .waiting | .reroll | .failed => s

/-! ### The choice of state (R112) -/

/-- The table of R112, for an error of magnitude `e` and seek threshold `t`. -/
def chooseState (before : ChaseState) (moving : Bool) (e t : Nat) : ChaseState :=
  if moving then
    match before with
    | .locked => .locked
    | .pulling => if 2 * t < e then .seeking else .pulling
    | .waiting | .seeking | .followStill | .off | .reroll | .failed => if t < e then .seeking else .pulling
  else .followStill

/-- Entering a state sets the counts R112 names. -/
def Csv.enter (c : Csv) (n : ChaseState) : Csv :=
  match n with
  | .pulling => if c.state = .pulling then c else { c with state := .pulling, pullTimer := 0, lockRun := 0 }
  | .locked => { c with state := .locked }
  | .followStill =>
    { c with
      state := .followStill, followStep := if c.state = .followStill then c.followStep else .approaching, pullTimer := 0,
      lockRun := 0, blankRun := 0 }
  | n => { c with state := n, pullTimer := 0, lockRun := 0, blankRun := 0 }

/-- Leaving LOCKED: LOCK_LOST is latched, and a RECORDING segment ends by emergency out with LOCK_LOST before the chase makes
its own request (R110, R112, R119, R147). -/
def State.leaveLock (s : State) : State :=
  if s.csv.state = .locked then (s.latch .lockLost).emergencyOut .lockLost false else s

/-! ### The counts after the law (R115, R116, R118) -/

/-- Lock is declared (R115). -/
def State.declareLock (s : State) : State :=
  { s with csv := { s.csv with state := .locked, lockRun := 0, blankRun := 0, pullTimer := 0, rerolls := 0 } }

/-- Lock is lost by the blanking run: the speed requested stands (R116). -/
def State.loseLock (s : State) : State :=
  ((({ s with csv := { s.csv with state := .pulling, blankRun := 0, lockRun := 0, pullTimer := 0 } }).latch
    .lockLost).emergencyOut .lockLost true)

/-- The pull time is exceeded: a reroll while retries are left, failure otherwise (R118). -/
def State.stopPulling (r : ChaseRecord) (s : State) : State :=
  if s.csv.rerolls < r.retries then
    ({ s with csv := { s.csv with
      state := .reroll, pullTimer := 0, lockRun := 0, rerolls := s.csv.rerolls + 1, offTime := 0 } }).chaseRequest .still
  else
    ((({ s with csv := { s.csv with state := .failed, pullTimer := 0, lockRun := 0 } }).chaseRequest .still).latch
      .chaseFailed).writeSense
      { code := .chaseFailed, origin := s.csv.engagedBy, address := s.ownFrame, nextFrame := none, remaining := none }

/-- The pull timer at a field start that leaves the chase in PULLING (R118). -/
def State.pullStep (r : ChaseRecord) (s : State) : State :=
  if r.pullTimeLimit < s.csv.pullTimer + 1 then s.stopPulling r
  else { s with csv := { s.csv with pullTimer := s.csv.pullTimer + 1 } }

/-- The lock run, then the pull timer unless lock is declared (R115, R118). -/
def State.lockStep (r : ChaseRecord) (e : Int) (s : State) : State :=
  if r.lockWindow < e.natAbs then ({ s with csv := { s.csv with lockRun := 0 } }).pullStep r
  else if 8 ≤ s.csv.lockRun + 1 then s.declareLock
  else ({ s with csv := { s.csv with lockRun := s.csv.lockRun + 1 } }).pullStep r

/-- The blanking run (R116). -/
def State.blankStep (r : ChaseRecord) (e : Int) (s : State) : State :=
  if r.lockWindow < e.natAbs then
    if r.blankingCount ≤ s.csv.blankRun + 1 then s.loseLock
    else { s with csv := { s.csv with blankRun := s.csv.blankRun + 1 } }
  else { s with csv := { s.csv with blankRun := 0 } }

/-- The counts that follow from the state R112 left (R115, R116, R118). -/
def State.chaseCounts (r : ChaseRecord) (e : Int) (s : State) : State :=
  match s.csv.state with
  | .pulling => s.lockStep r e
  | .locked => s.blankStep r e
  | .off | .waiting | .seeking | .followStill | .reroll | .failed => s

/-! ### The field start (R110 to R112) -/

/-- The master is not usable (R110). -/
def State.chaseWaits (s : State) : State :=
  let s1 := s.leaveLock
  ({ s1 with csv := { s1.csv with
    state := .waiting, pullTimer := 0, lockRun := 0, blankRun := 0, offTime := 0,
    followStep := .approaching } }).chaseRequest .still

/-- The choice of state and the law of the state chosen (R112 to R114, R117). -/
def State.chaseServo (std : Standard) (r : ChaseRecord) (master e : Int) (s : State) : State :=
  let n := chooseState s.csv.state (masterMoving master) e.natAbs std.seekThreshold
  let s1 := if n = .locked then s else s.leaveLock
  ({ s1 with csv := s1.csv.enter n }).chaseLaw r master e

/-- The end of a reroll: SEEKING, with the seek law at once (R111). -/
def State.endReroll (r : ChaseRecord) (master e : Int) (s : State) : State :=
  ({ s with csv := { s.csv with offTime := 0, state := .seeking } }).chaseLaw r master e

/-- The servo's work with a usable master (R111, R112). -/
def State.chaseStep (std : Standard) (r : ChaseRecord) (master e : Int) (s : State) : State :=
  if s.csv.state = .reroll then
    if r.rerollOffTime ≤ s.csv.offTime + 1 then s.endReroll r master e
    else { s with csv := { s.csv with offTime := s.csv.offTime + 1 } }
  else (s.chaseServo std r master e).chaseCounts r e

def State.setTarget (x : Nat) (s : State) : State := { s with csv := { s.csv with target := x } }

/-- What the servo reads: the standard, the target of a usable master, and the error (R108, R109). -/
def State.chaseAim (r : ChaseRecord) (s : State) : Option (Standard × Nat × Int) :=
  let v := s.view r.master
  match s.standard, v.projection, s.own with
  | some std, some x, some own =>
    if v.usable then
      let target := chaseTarget std r.offset x
      some (std, target, diff std.day target own)
    else none
  | _, _, _ => none

/-- The CSV's work at a field start (R110 to R118). -/
def State.chaseFieldStart (s : State) : State :=
  match s.csv.state, s.csv.record with
  | .off, _ | .failed, _ | _, none => s
  | _, some r =>
    match s.chaseAim r with
    | none => s.chaseWaits.settle
    | some (std, target, e) => ((s.setTarget target).chaseStep std r (s.view r.master).speed e).settle

/-! ### Engaging and releasing (R104 to R107) -/

/-- The chase begins with a record, from WAITING with fresh counts: it chooses its state and makes its first request, from the
view of the most recent field start. Nothing is counted (R104). -/
def State.startChase (r : ChaseRecord) (by_ : Origin) (s : State) : State :=
  let s1 := if s.csv.state = .off then s.engageTransport else s.leaveLock
  let s2 := { s1 with csv := { s1.csv with
    state := .waiting, record := some r, engagedBy := by_, followStep := .approaching, pullTimer := 0, lockRun := 0,
    blankRun := 0, rerolls := 0, offTime := 0 } }
  match s2.chaseAim r with
  | none => (s2.chaseRequest .still).settle
  | some (std, target, e) => ((s2.setTarget target).chaseServo std r (s.view r.master).speed e).settle

/-- CHASE ENABLE (R104). -/
def State.enableChase (r : ChaseRecord) (s : State) : State × Reply :=
  if s.isOwn r.master then (s, replyOf .selfMaster)
  else if s.tsq.state = .unthreaded then (s, replyOf .noTape)
  else if s.psu.source = .noSource then (s, replyOf .positionUnknown)
  else if s.csv.state = .off ∧ s.tsq.state = .recording then (s, replyOf .recordingActive)
  else if s.csv.state = .off ∧ (s.tsq.state = .ejecting ∨ s.tsq.state = .faulted) then (s, replyOf .transportNotReady)
  else (s.startChase r (.directive 0x08), replyOf .done)

/-- CHASE STORE (R105). -/
def State.storeChase (r : ChaseRecord) (s : State) : State × Reply :=
  if s.isOwn r.master then (s, replyOf .selfMaster)
  else if s.csv.state ≠ .off then (s, replyOf .chaseActive)
  else ({ s with csv := { s.csv with record := some r } }, replyOf .done)

/-- CHASE DISABLE, or the release of a CHASE_RELEASE cue (R106, R107). A segment that is RECORDING ends with LOCK_LOST. -/
def State.disableChase (s : State) : State :=
  if s.csv.state = .off then s
  else (((s.emergencyOut .lockLost false).chaseOff.setTransport .still).drive .still 0 0).settle

/-- An engagement for a cue or a ROLL: the code that refuses it, or none when it is taken (R107). -/
def State.engageStored (by_ : Origin) (s : State) : State × Option Code :=
  match s.csv.record with
  | none => (s, some .noChaseRecord)
  | some r =>
    if s.csv.state ≠ .off then (s, some .chaseActive)
    else if s.tsq.state = .unthreaded then (s, some .noTape)
    else if s.psu.source = .noSource then (s, some .positionUnknown)
    else if s.tsq.state = .recording then (s, some .recordingActive)
    else if s.tsq.state = .ejecting ∨ s.tsq.state = .faulted then (s, some .transportNotReady)
    else (s.startChase r by_, none)

/-! ### Meanings -/

/-- LOCK_DECLARED (R115): the eighth of the lock run (notes/assumptions/2.md). -/
def execLockDeclared (s : State) : Host.Outcome State Fault Refusal :=
  if s.csv.state = .pulling ∧ 7 ≤ s.csv.lockRun then .next s.declareLock else .next s

/-- LOCK_LOST (R116): the last of the blanking run (notes/assumptions/2.md). -/
def execLockLost (s : State) : Host.Outcome State Fault Refusal :=
  match s.csv.record with
  | some r =>
    if s.csv.state = .locked ∧ r.blankingCount ≤ s.csv.blankRun + 1 then .next s.loseLock.settle else .next s
  | none => .next s

/-- PULL_TIME_EXCEEDED (R118): the pull timer passes its limit (notes/assumptions/2.md). -/
def execPullTimeExceeded (s : State) : Host.Outcome State Fault Refusal :=
  match s.csv.record with
  | some r =>
    if s.csv.state = .pulling ∧ r.pullTimeLimit ≤ s.csv.pullTimer then .next (s.stopPulling r).settle else .next s
  | none => .next s

/-- REROLL_OFF_TIME_ENDS (R111): the last count of the off-time, with a usable master (notes/assumptions/2.md). -/
def execRerollOffTimeEnds (s : State) : Host.Outcome State Fault Refusal :=
  match s.csv.record with
  | some r =>
    match s.chaseAim r with
    | some (_, target, e) =>
      if s.csv.state = .reroll ∧ r.rerollOffTime ≤ s.csv.offTime + 1 then
        .next ((s.setTarget target).endReroll r (s.view r.master).speed e).settle
      else .next s
    | none => .next s
  | none => .next s

end Sys2Proof.Machine
end

