-- ==== Sys2Proof/Machine/Record.lean ====
section
/-! DEFINITION. The Record Controller: entering record, its work at a field start, RECORD_OUT, the protect zone table, and the
meaning of GAP_ENDS (R139 to R153). -/

namespace Sys2Proof.Machine

/-! ### The zone table (R151, R152) -/

/-- Two zones overlap: some position lies in both (R151). -/
def Zone.overlaps (a b : Zone) : Bool := a.start < b.stop && b.start < a.stop

/-- A zone placed by the order of its start (R152). -/
def insertZone (z : Zone) : List Zone → List Zone
  | [] => [z]
  | x :: zs => if z.start ≤ x.start then z :: x :: zs else x :: insertZone z zs

/-- The segment is RECORDING and the own position lies in the zone (R152). -/
def State.recordingIn (s : State) (z : Zone) : Bool :=
  s.rcc.state == .recording && (match s.own with | some x => z.contains x | none => false)

def State.setZones (zs : List Zone) (s : State) : State := { s with rcc := { s.rcc with zones := zs } }

/-- LOAD_ZONE with two frame counts (R152). -/
def State.loadZone (startFrame stopFrame : Nat) (s : State) : State × Reply :=
  let z : Zone := { start := startFrame * 256, stop := stopFrame * 256 }
  if z.stop ≤ z.start then (s, replyOf .badZone)
  else if s.rcc.zones.any z.overlaps then (s, replyOf .zoneOverlap)
  else if 8 ≤ s.rcc.zones.length then (s, replyOf .zonesFull)
  else if s.recordingIn z then (s, replyOf .zoneConflict)
  else (s.setZones (insertZone z s.rcc.zones), replyOf .done)

/-- CLEAR_ZONES (R153). -/
def State.clearZones (s : State) : State × Reply := (s.setZones [], replyOf .done)

/-! ### Entering record (R141, R142) -/

/-- V of the standard in force. -/
def State.dayLength (s : State) : Nat := (s.standard.map Standard.day).getD 1

/-- The position 128 fine units ahead, one field of play motion (R141, R144). -/
def State.ahead (s : State) (x : Nat) : Nat := wrapDay s.dayLength ((x : Int) + 128)

/-- The own position or the position 128 ahead lies in a zone (R141, R144). -/
def State.nearZone (s : State) : Bool :=
  match s.own with
  | some x => s.inZone x || s.inZone (s.ahead x)
  | none => false

/-- The first line of R141 that applies, or none when the RECORD_IN is accepted. -/
def State.recordRefusal (s : State) : Option Code :=
  if s.pins.threaded = false then some .noTape
  else if s.rcc.state ≠ .idle then some .segmentBusy
  else if s.tsq.state ≠ .playing ∧ ¬(s.tsq.state = .chasing ∧ s.csv.state = .locked) then some .transportNotReady
  else if s.pins.field.inhibit then some .recordInhibited
  else if s.psu.source ≠ .code then some .noCode
  else if s.nearZone then some .isProtected
  else none

/-- The segment record of an accepted RECORD_IN (R140). -/
def newSegment (w frame id : Nat) (mask : BitVec 5) (duration : Option Nat) (g : Guard) (lockList : List Nat)
    (notify : Option Nat) : Segment :=
  { origin := id, inFrame := frame, mask := mask, duration := duration, remaining := duration,
    lastFrame := frameAdd w frame (-1), guardKind := g, lockList := lockList, notify := notify }

/-- The segment becomes RECORDING, and RECORD is requested in the same handling (R142). -/
def State.beginSegment (g : Segment) (s : State) : State :=
  (({ s with rcc := { s.rcc with state := .recording, record := some g, fresh := true } }).requestRecord g.mask).settle

/-- A RECORD_IN cue handed to the RCC: the code that refuses it, or none when it is accepted (R141, R142). -/
def State.recordIn (id : Nat) (mask : BitVec 5) (duration : Option Nat) (g : Guard) (lockList : List Nat)
    (notify : Option Nat) (s : State) : State × Option Code :=
  match s.recordRefusal with
  | some c => (s, some c)
  | none =>
    (s.beginSegment (newSegment s.dayFrames (s.ownFrame.getD 0) id mask duration g lockList notify), none)

/-- A RECORD_OUT cue handed to the RCC (R146). -/
def State.recordOut (s : State) : State × Option Code :=
  match s.rcc.state, s.rcc.record with
  | .recording, some g => ((s.endNormally (s.atOwnFrame g)).settle, none)
  | _, _ => (s, some .notRecording)

/-- ABORT with target SEGMENT (R147). -/
def State.abortSegment (s : State) : State := (s.emergencyOut .aborted true).settle

/-! ### The work at a field start (R143 to R145, R150) -/

/-- The first zone in ascending order that contains the own position or the position ahead (R144). -/
def State.zoneAhead (s : State) : Option Zone :=
  match s.own with
  | some x => s.rcc.zones.find? fun z => z.contains x || z.contains (s.ahead x)
  | none => none

/-- The reason a peer of the lock list fails a STRICT guard, if it does; the entry 0 is not tested (R145). -/
def State.peerFails (s : State) (station : Nat) : Option Code :=
  if station = 0 then none
  else if (s.view station).presence ≠ .fresh then some .refStale
  else if (s.view station).chaseSummary ≠ 2 then some .notLocked
  else none

/-- The first condition of R145 that holds for a STRICT segment. -/
def State.guardFails (g : Segment) (s : State) : Option Code :=
  match g.guardKind with
  | .lenient => none
  | .strict =>
    if s.ftu.refState = .fallback then some .noReference
    else if s.psu.source ≠ .code then some .codeLost
    else g.lockList.findSome? s.peerFails

/-- The segment's planned end has been reached: its end frame E, when there is a duration (R143, step 2). -/
def State.endReached (g : Segment) (s : State) : Option Nat :=
  match g.duration, s.standard, s.own with
  | some d, some std, some x =>
    let e := frameAdd std.framesPerDay g.inFrame d
    if 0 ≤ diff std.day x (e * 256) then some e else none
  | _, _, _ => none

/-- The steps of R143 for a segment that was RECORDING before this field start. -/
def State.segmentStep (g : Segment) (s : State) : State :=
  let w := s.dayFrames
  match s.zoneAhead with
  | some z => (s.abortSegmentAt (g.atFrame w (frameAdd w (frameOf z.start) (-1))) .isProtected true).settle
  | none =>
    match s.endReached g with
    | some e => (s.endNormally { g with lastFrame := frameAdd w e (-1), remaining := some 0 }).settle
    | none =>
      match s.guardFails g with
      | some c => (s.abortSegmentAt (s.atOwnFrame g) c true).settle
      | none => { s with rcc := { s.rcc with record := some (s.atOwnFrame g) } }

/-- The gap is over (R150). -/
def State.endGap (s : State) : State := { s with rcc := { s.rcc with state := .idle, gapCount := 0 } }

/-- The RCC's work at a field start; what was entered at this field start is not judged or counted (R142, R143, R150). -/
def State.recordFieldStart (s : State) : State :=
  if s.rcc.fresh then s
  else
    match s.rcc.state, s.rcc.record with
    | .recording, some g => s.segmentStep g
    | .gap, _ =>
      if s.rcc.gapCount ≤ 1 then s.endGap else { s with rcc := { s.rcc with gapCount := s.rcc.gapCount - 1 } }
    | _, _ => s

/-! ### Meaning -/

/-- GAP_ENDS (R150): the last count of the gap (notes/assumptions/2.md). -/
def execGapEnds (s : State) : Host.Outcome State Fault Refusal :=
  if s.rcc.state = .gap ∧ s.rcc.gapCount ≤ 1 then .next s.endGap else .next s

end Sys2Proof.Machine
end

