-- ==== Sys2Proof/Machine/Transition.lean ====
section
/-! DEFINITION. The Transition Engine: preset, progress, the picture, wipe and audio laws, pause and abort, the lever, and the
meaning of TRANSITION_COMPLETES (R154 to R170). -/

namespace Sys2Proof.Machine

/-! ### Length, progress and levels (R156, R159, R160, R162) -/

/-- N, the length of the picture transition in fields (R156). -/
def Preset.fields (p : Preset) : Nat := if p.kind = .cut then 0 else 2 * p.duration

/-- P at field index `k` (R159). -/
def Preset.progressAt (p : Preset) (k : Nat) : Nat := if p.fields ≤ k then 1024 else k * 1024 / p.fields

/-- Pa at field index `k` (R159). -/
def Preset.audioAt (p : Preset) (k : Nat) : Nat :=
  (clampInt 0 p.fields ((k : Int) - p.split)).toNat * 1024 / p.fields

/-- K by R160; 0 for a WIPE (R161) and for a CUT, which completes at its take. -/
def levelK (kind : TransitionKind) (p : Nat) : Nat :=
  match kind with
  | .mix => p
  | .dip => if p < 512 then 0 else 1024
  | .cut | .wipe => 0

/-- D by R160. -/
def levelD (kind : TransitionKind) (p : Nat) : Nat :=
  match kind with
  | .dip => if p < 512 then 2 * p else 2048 - 2 * p
  | .cut | .mix | .wipe => 0

/-! ### Wipe edges (R161) -/

/-- n, the number of samples with 1024x < 720P. -/
def edgeCount (p : Nat) : Nat := (720 * p + 1023) / 1024

/-- The edge pair of the run about the centre, the samples with 1024|2x + 1 - 720| < 720P. -/
def centreEdge (p : Nat) : Nat × Nat :=
  let m := if p = 0 then 0 else ((720 * p - 1) / 1024 + 1) / 2
  if m = 0 then (0, 0) else (360 - m, 360 + m)

/-- The vertical condition of TOP_DOWN and BOX_OUT for line `y` of `lines`; the other patterns have none. -/
def lineShows (pattern : Pattern) (lines p y : Nat) : Bool :=
  match pattern with
  | .topDown => 1024 * y < p * lines
  | .boxOut => 1024 * (2 * (y : Int) + 1 - lines).natAbs < p * lines
  | .leftRight | .rightLeft | .splitH => true

/-- The edge pair on the lines that show B. -/
def patternEdge (pattern : Pattern) (p : Nat) : Nat × Nat :=
  match pattern with
  | .leftRight => if edgeCount p = 0 then (0, 0) else (0, edgeCount p)
  | .rightLeft => if edgeCount p = 0 then (0, 0) else (720 - edgeCount p, 720)
  | .topDown => (0, 720)
  | .splitH | .boxOut => centreEdge p

/-- The edge pair (L, R) of line `y` at progress `p`. -/
def lineEdge (pattern : Pattern) (lines p y : Nat) : Nat × Nat :=
  if lineShows pattern lines p y then patternEdge pattern p else (0, 0)

/-- The edge table with every pair (0, 0). -/
def restEdges (lines : Nat) : List (Nat × Nat) := List.replicate lines (0, 0)

/-- The edge table at progress `p`: a WIPE's pairs, (0, 0) for every other kind (R160, R161). -/
def edgeTable (pattern : Option Pattern) (lines p : Nat) : List (Nat × Nat) :=
  match pattern with
  | some w => (List.range lines).map (lineEdge w lines p)
  | none => restEdges lines

/-! ### Outputs (R155) -/

/-- Y of the standard in force; no line before there is one. -/
def State.lineCount (s : State) : Nat := (s.standard.map Standard.lines).getD 0

/-- The rest values (R155). -/
def Ten.atRestValues (t : Ten) (lines : Nat) : Ten :=
  { t with outK := 0, outD := 0, gainA := 1024, gainB := 0, edges := restEdges lines }

/-- P and Pa, with the outputs set from them (R160 to R162). -/
def Ten.withProgress (t : Ten) (p : Preset) (lines progress audio : Nat) : Ten :=
  { t with
    progress := progress, audio := audio, outK := levelK p.kind progress, outD := levelD p.kind progress,
    edges := edgeTable p.pattern lines progress, gainA := 1024 - audio, gainB := audio }

/-- Completion (R163). -/
def Ten.complete (t : Ten) (p : Preset) (lines : Nat) : Ten :=
  ({ t with state := .atRest, aSel := p.toSource, preset := none, k := 0, progress := 0, audio := 0 }).atRestValues lines

/-- The transition returns to PRESET with the rest values, its preset kept (R165, R168). -/
def Ten.revert (t : Ten) (lines : Nat) : Ten :=
  ({ t with state := .preset, k := 0, progress := 0, audio := 0 }).atRestValues lines

/-- The test of completion at field index `k` (R159). -/
def Preset.finishedAt (p : Preset) (k : Nat) : Bool := p.fields ≤ k && (p.fields : Int) ≤ (k : Int) - p.split

/-- The picture and sound of a RUNNING transition at field index `k`, and completion where it is due (R159). -/
def Ten.stepTo (t : Ten) (p : Preset) (lines k : Nat) : Ten :=
  if p.finishedAt k then t.complete p lines
  else ({ t with k := k }).withProgress p lines (p.progressAt k) (p.audioAt k)

def State.setTen (t : Ten) (s : State) : State := { s with ten := t }

/-! ### Directives (R156 to R158, R164, R165) -/

/-- The transition is on air in the blend: RUNNING, PAUSED or LEVER. -/
def TransitionState.onAir : TransitionState → Bool
  | .running | .paused | .lever => true
  | .atRest | .preset => false

/-- SET_TRANSITION (R156). -/
def State.setTransition (p : Preset) (s : State) : State × Reply :=
  if s.ten.state.onAir then (s, replyOf .transitionActive)
  else (s.setTen { s.ten with preset := some p, bSel := p.toSource, state := .preset }, replyOf .done)

/-- SELECT_A (R157). -/
def State.selectSource (source : Nat) (s : State) : State × Reply :=
  if s.ten.state.onAir then (s, replyOf .transitionActive)
  else (s.setTen { s.ten with aSel := source }, replyOf .done)

/-- The transition is taken: RUNNING with k = 0, its values computed at once; one with N = 0 completes in this handling
(R158). -/
def State.beginTransition (p : Preset) (s : State) : State :=
  let t := { s.ten with state := .running, k := 0, fresh := true }
  if p.fields = 0 then s.setTen (t.complete p s.lineCount)
  else s.setTen (t.withProgress p s.lineCount (p.progressAt 0) (p.audioAt 0))

/-- A TAKE, or a TRANSITION_START cue: the code that refuses it, or none when it is taken (R158). -/
def State.takeTransition (s : State) : State × Option Code :=
  match s.ten.state, s.ten.preset with
  | .preset, some p => (s.beginTransition p, none)
  | .atRest, _ | .preset, none => (s, some .noPreset)
  | .running, _ | .paused, _ | .lever, _ => (s, some .transitionActive)

/-- PAUSE (R164). -/
def State.pauseTransition (s : State) : State × Reply :=
  match s.ten.state with
  | .atRest => (s, replyOf .noPreset)
  | .preset | .paused => (s, replyOf .done)
  | .running => (s.setTen { s.ten with state := .paused }, replyOf .done)
  | .lever => (s, replyOf .transitionActive)

/-- RESUME (R164). -/
def State.resumeTransition (s : State) : State × Reply :=
  match s.ten.state with
  | .atRest => (s, replyOf .noPreset)
  | .preset | .running => (s, replyOf .done)
  | .paused => (s.setTen { s.ten with state := .running }, replyOf .done)
  | .lever => (s, replyOf .transitionActive)

/-- ABORT with target TRANSITION: option COMPLETE or REVERT (R165). -/
def State.abortTransition (complete : Bool) (s : State) : State :=
  match s.ten.state.onAir, s.ten.preset with
  | true, some p =>
    if complete then s.setTen (s.ten.complete p s.lineCount) else s.setTen (s.ten.revert s.lineCount)
  | _, _ => s

/-! ### The lever (R166 to R168) -/

/-- Pl, the lever position of a reading in the present direction (R166). -/
def leverPosition (reversed : Bool) (u : Nat) : Nat := (if reversed then 1023 - u else u) * 1024 / 1023

/-- The lever has moved: the reading differs from the last one, if there is one (R166). -/
def leverMoved (last : Option Nat) (u : Nat) : Bool := last.isSome && last != some u

/-- The conditions of pick-up (R167). -/
def Ten.picksUp (t : Ten) (p : Preset) (present : Bool) (u : Nat) : Bool :=
  (t.state == .preset || t.state == .paused) && p.leverAllowed && p.fields != 0 && present &&
    leverMoved t.lastLever u &&
    ((leverPosition t.reversed u : Int) - (if t.state = .preset then 0 else t.progress : Nat)).natAbs ≤ 16

/-- The lever judged in state LEVER (R168). -/
def Ten.judgeLever (t : Ten) (p : Preset) (lines : Nat) (present : Bool) (u : Nat) : Ten :=
  let pl := leverPosition t.reversed u
  if present = false then { t with state := .paused, k := t.progress * p.fields / 1024 }
  else if pl = 1024 then { t.complete p lines with reversed := !t.reversed }
  else if pl = 0 then t.revert lines
  else t.withProgress p lines pl pl

/-- Pick-up, then the judgement of a lever in hand (R167, R168). -/
def Ten.leverStep (t : Ten) (lines : Nat) (present : Bool) (u : Nat) : Ten :=
  match t.preset with
  | some p =>
    if t.state = .lever then t.judgeLever p lines present u
    else if t.picksUp p present u then ({ t with state := .lever }).judgeLever p lines present u
    else t
  | none => t

/-! ### Field start, stop and RESTART (R159, R169, R170) -/

/-- A transition RUNNING since before this field start moves on by one field (R159). -/
def Ten.runStep (t : Ten) (lines : Nat) : Ten :=
  match t.state, t.preset with
  | .running, some p => if t.fresh then t else t.stepTo p lines (t.k + 1)
  | _, _ => t

/-- The TEN's work at a field start, with the lever reading `u`. -/
def Ten.fieldStart (t : Ten) (lines : Nat) (present : Bool) (u : Nat) : Ten :=
  { (t.runStep lines).leverStep lines present u with lastLever := some u }

/-- The TEN's work at a field start, where a transition channel is fitted (R154). -/
def State.transitionFieldStart (s : State) : State :=
  if s.dhd.channelFitted then
    s.setTen (s.ten.fieldStart s.lineCount s.pins.field.leverPresent s.pins.field.lever.toNat)
  else s

/-- The stop event at the TEN (R169). -/
def State.stopTransition (s : State) : State :=
  if s.ten.state = .running then s.setTen { s.ten with state := .paused } else s

/-- The engine dropped to AT_REST with no preset; the selects, the lever direction and the last reading are kept (R170). -/
def Ten.restarted (t : Ten) (lines : Nat) : Ten :=
  ({ t with state := .atRest, preset := none, k := 0, progress := 0, audio := 0 }).atRestValues lines

/-- RESTART at the TEN, where a transition channel is fitted (R154, R170). -/
def State.restartTransition (s : State) : State :=
  if s.dhd.channelFitted then s.setTen (s.ten.restarted s.lineCount) else s

/-! ### Meaning -/

/-- TRANSITION_COMPLETES (R159, R163): the last field of a RUNNING transition (notes/assumptions/2.md). -/
def execTransitionCompletes (s : State) : Host.Outcome State Fault Refusal :=
  match s.ten.state, s.ten.preset with
  | .running, some p =>
    if p.finishedAt (s.ten.k + 1) then .next (s.setTen (s.ten.complete p s.lineCount)) else .next s
  | _, _ => .next s

end Sys2Proof.Machine
end

