-- ==== Sys2Proof/Machine/Cues.lean ====
section
/-! DEFINITION. The Cue List: loading and dropping, references and arming, firing and missing, timed starts, and the meaning
of ROLL_START (R121 to R138). -/

namespace Sys2Proof.Machine

/-! ### The list (R123 to R125) -/

def State.setCues (cs : List Cue) (s : State) : State := { s with cul := { s.cul with cues := cs } }

def State.setRoll (r : Option RollSlot) (s : State) : State := { s with cul := { s.cul with roll := r } }

/-- The cue with an id. -/
def State.findCue (s : State) (id : Nat) : Option Cue := s.cul.cues.find? (·.id == id)

/-- A RECORD_IN cue on the own tape whose trigger lies in a zone (R124). -/
def State.triggerInZone (s : State) (c : Cue) : Bool :=
  match c.action, c.trigger with
  | .recordIn _ _ _, some t => c.reference == 0 && s.inZone (t * 256)
  | _, _ => false

/-- The new cue takes the place of the one with its id (R123, R124). -/
def replaceCue (c : Cue) (cs : List Cue) : List Cue := cs.map fun x => if x.id = c.id then c else x

/-- LOAD_CUE (R124). -/
def State.loadCue (c : Cue) (s : State) : State × Reply :=
  if (s.findCue c.id).any (·.armed) then (s, replyOf .cueBusy)
  else if s.triggerInZone c then (s, replyOf .zoneConflict)
  else if (s.findCue c.id).isSome then (s.setCues (replaceCue c s.cul.cues), replyOf .done)
  else if 32 ≤ s.cul.cues.length then (s, replyOf .listFull)
  else (s.setCues (s.cul.cues ++ [c]), replyOf .done)

/-- DROP_CUE (R125). -/
def State.dropCue (id : Nat) (s : State) : State × Reply :=
  if id = 0 then (s.setCues [], replyOf .done)
  else if (s.findCue id).isSome then (s.setCues (s.cul.cues.filter (·.id != id)), replyOf .done)
  else (s, replyOf .noSuchCue)

/-! ### The reference and the judgement (R126, R127) -/

/-- H, the arm horizon, 250 frames. -/
def armHorizon : Int := 64000

/-- C, the capture window, 2 frames. -/
def captureWindow : Int := 512

/-- X, the position of a usable reference; none when the reference is not usable (R126). -/
def State.referenceX (s : State) (reference : Nat) : Option Nat :=
  if reference = 0 then s.own
  else if (s.view reference).usable then (s.view reference).projection else none

/-- The reference is moving forward (R126). -/
def State.referenceForward (s : State) (reference : Nat) : Bool :=
  if reference = 0 then 0 < s.psu.speed else 0 < (s.view reference).speed

/-- What a field start makes of a cue (R127). -/
inductive CueVerdict where
  | stay (armed : Bool)
  | fire
  | miss (c : Code)
deriving DecidableEq, Repr

/-- The table of R127 for a usable reference, by whether it moves forward and by d. -/
def judgeUsable (armed forward : Bool) (d : Int) : CueVerdict :=
  if forward = false then .stay false
  else if d < -armHorizon then .stay false
  else if d < 0 then .stay true
  else if d < captureWindow then .fire
  else if armed then .miss .late else .stay false

/-- The judgement of a cue at a field start; one with no trigger comes to fire (R127, R128). -/
def State.judgeCue (c : Cue) (s : State) : CueVerdict :=
  match c.trigger with
  | none => .fire
  | some t =>
    match s.referenceX c.reference with
    | none => if c.armed then .miss .refStale else .stay false
    | some x => judgeUsable c.armed (s.referenceForward c.reference) (diff s.dayLength x (t * 256))

/-! ### Notices and misses (R132, R133) -/

/-- The CUE_NOTICE of a cue that fires (DONE) or is missed (R133). -/
def State.cueNotice (c : Cue) (reason : Code) (s : State) : State :=
  match c.notify with
  | some n => s.raiseNotice n [1, byteOf c.id, byteOfBool (reason != .done), reason.value]
  | none => s

/-- A cue is missed at a field start (R132). -/
def State.missCue (c : Cue) (reason : Code) (s : State) : State :=
  ((s.latch .cueMissed).writeSense
    { code := reason, origin := .cue c.id, address := (s.referenceX c.reference).map frameOf, nextFrame := none,
      remaining := none }).cueNotice c reason

/-! ### Firing (R129, R130) -/

/-- A lock-list entry is LOCKED; 0 stands for the own chase (R129, step 1). -/
def State.entryLocked (s : State) (station : Nat) : Bool :=
  if station = 0 then s.csv.state == .locked else (s.view station).locked

/-- A PULSE cue's output is asserted (R131). -/
def State.assertPulse (output : Nat) (s : State) : State :=
  { s with cul := { s.cul with pulses := s.cul.pulses ||| BitVec.ofNat 4 (2 ^ (output - 1)) } }

/-- The code an owner's reply refuses with, or none for DONE. -/
def Reply.refusal : Reply → Option Code
  | some (.done, _) | none => none
  | some (c, _) => some c

/-- The action is handed to its owner, which takes it or refuses it with a code (R130). -/
def State.handOver (c : Cue) (s : State) : State × Option Code :=
  match c.action with
  | .recordIn mask duration g => s.recordIn c.id mask duration g c.lockList c.notify
  | .recordOut => s.recordOut
  | .transitionStart => s.takeTransition
  | .mode .stop => let r := s.transportStop 0 (.cue c.id); (r.1, Reply.refusal r.2)
  | .mode .still => let r := s.cueMotion .still .still .still c.id; (r.1.settle, r.2)
  | .mode .play => let r := s.cueMotion .play .playing .play c.id; (r.1.settle, r.2)
  | .chaseEngage => s.engageStored (.cue c.id)
  | .chaseRelease => (s.disableChase, none)
  | .pulse output => (s.assertPulse output, none)

/-- Whether the action is RECORD_IN. -/
def CueAction.isRecordIn : CueAction → Bool
  | .recordIn _ _ _ => true
  | _ => false

/-- A cue that comes to fire: lock list, reference, owner (R129). What the owner's part releases or ends is reported before the cue's
own CUE_NOTICE (notes/assumptions/40.md, DESIGN CHOICE). -/
def State.fireCue (c : Cue) (s : State) : State :=
  if !c.lockList.all s.entryLocked then s.missCue c .notLocked
  else if c.action.isRecordIn && s.ftu.refState == .fallback then s.missCue c .noReference
  else
    let r := s.handOver c
    match r.2 with
    | some reason => r.1.missCue c reason
    | none => r.1.cueNotice c .done

/-- The cues judged in list order, each taken whole before the next; with the cues that stay (R127, R134). -/
def State.judgeCues : List Cue → State → State × List Cue
  | [], s => (s, [])
  | c :: cs, s =>
    match s.judgeCue c with
    | .stay armed => let r := State.judgeCues cs s; (r.1, { c with armed := armed } :: r.2)
    | .fire => State.judgeCues cs (s.fireCue c)
    | .miss reason => State.judgeCues cs (s.missCue c reason)

/-! ### Timed starts (R135, R136) -/

/-- The roll is carried out by its mode; a refusal writes the sense record (R136). -/
def State.carryRoll (roll : RollSlot) (s : State) : State :=
  let r := if roll.engage then s.engageStored (.directive 0x0B) else s.rollPlay roll.seq
  match r.2 with
  | some c =>
    r.1.writeSense { code := c, origin := .directive 0x0B, address := s.ownFrame, nextFrame := none, remaining := none }
  | none => r.1.settle

/-- The ROLL slot is emptied and its roll carried out when its start count is `n` (R136). -/
def State.rollDue (n : Count32) (s : State) : State :=
  match s.cul.roll with
  | some r => if r.start = n then (s.setRoll none).carryRoll r else s
  | none => s

/-- ROLL with the stamp of its field (R135). -/
def State.setRollStart (stamp : Count32) (delay : Nat) (engage : Bool) (seq : Byte) (s : State) : State × Reply :=
  let slot : RollSlot := { start := stamp + BitVec.ofNat 32 delay, engage := engage, seq := seq }
  ((s.setRoll (some slot)).rollDue s.ftu.counter, replyOf .done)

/-! ### Field start, stop and RESTART (R131, R134, R137, R138) -/

/-- The CUL's work at a field start: pulses end, a due roll is carried out, then the cues in list order
(notes/assumptions/21.md). -/
def State.cueFieldStart (s : State) : State :=
  let s1 := ({ s with cul := { s.cul with pulses := 0 } }).rollDue s.ftu.counter
  let r := State.judgeCues s1.cul.cues s1
  r.1.setCues r.2

/-- The notices of the cues a stop event misses, in list order (R137). -/
def State.stopNotices : List Cue → State → State
  | [], s => s
  | c :: cs, s => State.stopNotices cs (s.cueNotice c .allStopped)

/-- The stop event at the CUL (R137). -/
def State.stopCues (s : State) : State := State.stopNotices s.cul.cues ((s.setCues []).setRoll none)

/-! ### Meaning -/

/-- ROLL_START (R136): the slot's start count is the next field count (notes/assumptions/2.md). -/
def execRollStart (s : State) : Host.Outcome State Fault Refusal := .next (s.rollDue (s.ftu.counter + 1))

end Sys2Proof.Machine
end

