-- ==== Sys2Proof/Machine/Station.lean ====
section
/-! DEFINITION. What the station does as a whole: the STATUS pages, CONFIGURE acceptance, RESTART, the stop event and the field
start (R34, R42, R48, R62, R63, R75 to R79). -/

namespace Sys2Proof.Machine

/-! ### STATUS (R75, R76) -/

/-- The 23 bytes of STATUS page 0. -/
def State.page0Bytes (s : State) : List Byte :=
  [s.stationByte, s.standardByte, s.fittedByte, s.transportByte, s.psu.source.toByte] ++ s.ownBytes ++
    bytesInt16 s.psu.speed ++
    [s.csv.state.toByte, s.masterByte, s.rcc.state.toByte, s.ten.state.toByte] ++ bytes16 s.ten.progress ++
    [s.ftu.refState.toByte, s.lineFlags, byteOf s.cul.cues.length, byteOf s.rcc.zones.length,
     byteOfBool s.tsq.slot.isSome]

/-- A label of an optional frame count, zeros when it is absent. -/
def State.optLabelBytes (s : State) : Option Nat → List Byte
  | some f => s.labelBytes f
  | none => [0, 0, 0, 0]

/-- The sense record's part of page 1: an empty record reads as DONE with origin kind 0 and every field absent (R73). -/
def State.senseBytes (s : State) : List Byte :=
  match s.dhd.sense with
  | none => Code.done.value :: (Origin.toBytes .nothing ++ [0, 0, 0, 0, 0, 0, 0, 0, 0, 0, 0])
  | some r =>
    r.code.value :: (r.origin.toBytes ++
      [byteOfBool r.address.isSome ||| (byteOfBool r.nextFrame.isSome <<< 1) |||
        (byteOfBool r.remaining.isSome <<< 2)] ++
      s.optLabelBytes r.address ++ s.optLabelBytes r.nextFrame ++ bytes16 (r.remaining.getD 0))

/-- The 16 bytes of STATUS page 1. -/
def State.page1Bytes (s : State) : List Byte := s.senseBytes ++ bytes16 s.dhd.events.toNat

/-- The sense record and the latched event set are emptied (R76, R78). -/
def State.clearRecords (s : State) : State := { s with dhd := { s.dhd with sense := none, events := 0 } }

/-- STATUS: the payload is composed before the records are emptied (R76). -/
def State.status (page1 clear : Bool) (s : State) : State × Reply :=
  if page1 then (if clear then s.clearRecords else s, some (.done, s.page1Bytes)) else (s, some (.done, s.page0Bytes))

/-! ### CONFIGURE (R62, R63) -/

/-- The rest edge pairs of every active line, once a standard is in force and a channel is fitted (R155). -/
def State.restEdgeTable (s : State) : State :=
  if s.dhd.channelFitted then s.setTen { s.ten with edges := restEdges s.lineCount } else s

/-- The moment of acceptance is the moment of handling, and the watch on REF begins from it (R43, R63). -/
def State.markAcceptance (s : State) : State := { s with ftu := { s.ftu with accepted := some s.ftu.now } }

def State.setConfig (c : Settings) (s : State) : State := { s with dhd := { s.dhd with config := some c } }

/-- A CONFIGURE record is accepted (R63). -/
def State.acceptConfig (c : Settings) (s : State) : State :=
  (((s.markAcceptance.setConfig c).judgeForeign).configureTransport).restEdgeTable

/-- CONFIGURE: refused when READY or when a field is out of range, accepted otherwise (R62). -/
def State.configure (record : Option Settings) (s : State) : State × Reply :=
  if s.dhd.config.isSome then (s, replyOf .alreadyConfigured)
  else
    match record with
    | none => (s, replyOf .badSetting)
    | some c => (s.acceptConfig c, replyOf .done)

/-! ### RESTART (R39, R78) -/

/-- Step 1: the queues. A non-announcement on the line leaves the TXQ however it ends (R39). -/
def State.restartQueues (s : State) : State :=
  { s with
    lif := { s.lif with
      waiting := s.lif.waiting.filter (·.isAnn),
      sending := s.lif.sending.map fun x => if x.msg.isAnn then x else { x with leaves := true } },
    lpt := { s.lpt with rxQueue := [] } }

/-- The segment goes to IDLE with no gap, and the zone table is emptied (R78, R150, R153). -/
def State.restartRecord (s : State) : State :=
  { s with rcc := { s.rcc with state := .idle, record := none, gapCount := 0, zones := [] } }

/-- Steps 1 to 3 of R78. -/
def State.quiet (s : State) : State :=
  ((((s.restartQueues.restartTransport.chaseOff).setCues []).setRoll none).restartRecord.restartTransition).clearRecords

/-- The report of an operation that RESTART ended; a MODE operation is reported to no one (R78, R96). -/
def State.reportEnded (o : Option PendingOp) (s : State) : State :=
  match o with
  | some x => if x.kind = .mode then s else s.answer x.issuer x.seq x.kind.typeByte .restarted []
  | none => s

/-- The notice of a segment that RESTART ended, with its continuation (R78, R148, R149). -/
def State.noticeEnded (st : SegState) (g : Option Segment) (s : State) : State :=
  match st, g with
  | .recording, some x => s.segmentNotice (s.atOwnFrame x) .restarted
  | _, _ => s

/-- RESTART (R78): quiet, its report, then the endings. -/
def State.restart (issuer : Issuer) (seq : Byte) (s : State) : State :=
  ((s.quiet.answer issuer seq 0x03 .done []).reportEnded s.tsq.pendingOp).noticeEnded s.rcc.state s.rcc.record

/-! ### The stop event (R34, R38, R79) -/

/-- The blocks' responses, in the order R34 names them (notes/assumptions/18.md). -/
def State.stopBlocks (s : State) : State :=
  ((s.stopTransport.chaseOff.stopCues.emergencyOut .allStopped false).stopTransition).settle

/-- The station's own stop event while it is listen-only (R38). -/
def State.localStop (s : State) : State := (s.latch .allStop).stopBlocks

/-- The stop event of a signal on the line: an own frame is cut short, and the signal lasts until the line is idle (R34). -/
def State.lineStop (s : State) : State :=
  let s1 := s.cutShort
  ({ s1 with lif := { s1.lif with watch := .stopSignal, idle := false } }).localStop

/-! ### The field start (R42, R48) -/

/-- The FTU's account of a field start, with the lines read at it (R42). Time has come to its moment; the watch on REF runs from it
alone, since an acceptance of CONFIGURE was before it (R43). -/
def State.markField (parity : Parity) (moment : Nat) (source : FieldSource) (pins : FieldPins) (s : State) : State :=
  { s with
    ftu := { s.ftu with
      now := max s.ftu.now moment, counter := s.ftu.counter + 1, parity := parity, firstGiven := true, lastFieldStart := some (moment, source),
      accepted := none },
    pins := { s.pins with field := pins }, rcc := { s.rcc with fresh := false }, ten := { s.ten with fresh := false } }

/-- The work of the RCC, the TEN and the CUL in the orders the state holds (R143, R159; notes/assumptions/3.md). -/
def State.recordCueTransition (s : State) : State :=
  let s1 := if s.order.rccFirst then s.recordFieldStart else s
  let s2 := if s.order.tenFirst then s1.transitionFieldStart else s1
  let s3 := s2.cueFieldStart
  let s4 := if s.order.rccFirst then s3 else s3.recordFieldStart
  if s.order.tenFirst then s4 else s4.transitionFieldStart

/-- The announcement of this field start is handed to the LIF (R48). -/
def State.announceField (s : State) : State := s.txAnnounce s.announcement

/-- The work of every block at a field start, the announcement last (R42, R48). -/
def State.fieldWork (s : State) : State :=
  s.measureSpeed.agePeers.ageTxq.transportFieldStart.chaseFieldStart.recordCueTransition.announceField

/-- A field start (R42). -/
def State.fieldStart (parity : Parity) (moment : Nat) (source : FieldSource) (pins : FieldPins) (s : State) : State :=
  (s.markField parity moment source pins).fieldWork

end Sys2Proof.Machine
end

