-- ==== Sys2Proof/Machine/FieldTiming.lean ====
section
/-! DEFINITION. The Field Timing Unit, and the meanings of power-up reset and of the four commands that can give a field start
(R40 to R47, R59), and what an idle step does. Moments are microseconds (notes/assumptions/4.md). -/

namespace Sys2Proof.Machine

def State.setFtu (f : Ftu) (s : State) : State := { s with ftu := f }

/-- A field start given by a REF pulse (R42). -/
def State.pulseField (parity : Parity) (moment : Nat) (pins : FieldPins) (s : State) : State :=
  s.fieldStart parity moment .pulse pins

/-- A field start given by the internal timer, of the opposite parity (R44). -/
def State.internalField (moment : Nat) (pins : FieldPins) (s : State) : State :=
  s.fieldStart s.ftu.parity.opposite moment .internal pins

/-- A pulse that arrives within 1.25 nominal periods of the pulse before it (R45, R46). -/
def Ftu.soonAfter (f : Ftu) (std : Standard) (moment : Nat) : Bool :=
  match f.lastPulse with
  | some t => moment - t ≤ std.watchPeriod
  | none => false

/-- FALLBACK ends: LOCKED_REF, the internal timer stopped, the counts of the return cleared (R46). -/
def Ftu.returned (f : Ftu) (moment : Nat) : Ftu :=
  { f with
    refState := .lockedRef, timerRunning := false, goodPulses := 0, returnStep := .idle, lastPulse := some moment }

/-- The return pulse: a field start, or skipped when it comes less than half a period after the last internal one (R46). -/
def State.returnPulse (std : Standard) (parity : Parity) (moment : Nat) (pins : FieldPins) (s : State) : State :=
  if std.halfPeriod ≤ moment - s.ftu.lastStart then
    (s.setFtu (s.ftu.returned moment)).pulseField parity moment pins
  else
    s.setFtu { s.ftu with timerRunning := false, returnStep := .skipped, lastPulse := some moment, pulseSeen := true }

/-- A pulse that is not good: the count is 0 and a new run starts (R45). -/
def Ftu.newRun (f : Ftu) (moment : Nat) : Ftu :=
  { f with goodPulses := 0, lastPulse := some moment, pulseSeen := true }

/-- A pulse in FALLBACK (R45, R46). One that finds the return wait still open came 1.25 nominal periods or less after the skipped
pulse, since a wait that ended before it has given its field start. -/
def State.fallbackPulse (std : Standard) (parity : Parity) (moment : Nat) (pins : FieldPins) (s : State) : State :=
  match s.ftu.returnStep with
  | .skipped => (s.setFtu (s.ftu.returned moment)).pulseField parity moment pins
  | .idle =>
    if s.ftu.pulseSeen && s.ftu.soonAfter std moment then
      if 8 ≤ s.ftu.goodPulses then s.returnPulse std parity moment pins
      else s.setFtu { s.ftu with goodPulses := s.ftu.goodPulses + 1, lastPulse := some moment }
    else s.setFtu (s.ftu.newRun moment)

/-- A REF pulse at the present moment: a field start before CONFIGURE and in LOCKED_REF, counted in FALLBACK (R41, R43, R45). -/
def State.refPulseTaken (parity : Parity) (pins : FieldPins) (s : State) : State :=
  match s.standard, s.ftu.refState with
  | some std, .fallback => s.fallbackPulse std parity s.ftu.now pins
  | _, _ => (s.setFtu { s.ftu with lastPulse := some s.ftu.now }).pulseField parity s.ftu.now pins

/-! ### The three timers (R43, R44, R46) -/

/-- The moment at which the watch on REF runs out (R43). -/
def Ftu.watchEnd (f : Ftu) (std : Standard) : Nat := f.watchStart + std.watchPeriod

/-- The moment of the internal timer's next field start (R44). -/
def Ftu.timerEnd (f : Ftu) (std : Standard) : Nat := f.lastStart + std.period

/-- The moment at which the wait after a skipped pulse runs out (R46). -/
def Ftu.returnEnd (f : Ftu) (std : Standard) : Nat := f.lastPulse.getD 0 + std.watchPeriod

/-- The FTU entering FALLBACK (R43). -/
def Ftu.fallen (f : Ftu) : Ftu :=
  { f with refState := .fallback, timerRunning := true, goodPulses := 0, returnStep := .idle, pulseSeen := false }

/-- The watch runs out: FALLBACK with REF_LOST, and a field start at that moment (R43). -/
def State.watchRunsOut (std : Standard) (pins : FieldPins) (s : State) : State :=
  ((s.setFtu s.ftu.fallen).latch .refLost).internalField (s.ftu.watchEnd std) pins

/-- The internal timer gives its next field start (R44). -/
def State.timerRunsOut (std : Standard) (pins : FieldPins) (s : State) : State :=
  s.internalField (s.ftu.timerEnd std) pins

/-- The wait after a skipped pulse runs out: a field start, the timer runs again, and FALLBACK stays (R46). -/
def State.returnWaitRunsOut (std : Standard) (pins : FieldPins) (s : State) : State :=
  (s.setFtu { s.ftu with timerRunning := true, returnStep := .idle, goodPulses := 0 }).internalField
    (s.ftu.returnEnd std) pins

/-- The end of the timer that runs: the watch in LOCKED_REF, the internal timer in FALLBACK, the return wait in SKIPPED; none
before CONFIGURE (R43, R44, R46). -/
def State.timerDue (s : State) : Option Nat :=
  match s.standard, s.ftu.refState, s.ftu.returnStep with
  | none, _, _ => none
  | some std, .lockedRef, _ => some (s.ftu.watchEnd std)
  | some std, .fallback, .idle => if s.ftu.timerRunning then some (s.ftu.timerEnd std) else none
  | some std, .fallback, .skipped => some (s.ftu.returnEnd std)

/-- The timer that runs comes to its end, with the lines as they stand (notes/assumptions/5.md, DESIGN CHOICE). -/
def State.timerFires (s : State) : State :=
  match s.standard, s.ftu.refState, s.ftu.returnStep with
  | none, _, _ => s
  | some std, .lockedRef, _ => s.watchRunsOut std s.pins.field
  | some std, .fallback, .idle => s.timerRunsOut std s.pins.field
  | some std, .fallback, .skipped => s.returnWaitRunsOut std s.pins.field

/-! ### Time passes -/

/-- The timers that end before a moment come to their ends, one after another and at most so many (R43, R44, R46). -/
def State.runTimers (most moment : Nat) (s : State) : State :=
  match most with
  | 0 => s
  | n + 1 =>
    match s.timerDue with
    | some ends => if ends < moment then s.timerFires.runTimers n moment else s
    | none => s

/-- Time comes to a moment; one gone by leaves the present (notes/assumptions/4.md, DESIGN CHOICE). -/
def State.reachMoment (moment : Nat) (s : State) : State := s.setFtu { s.ftu with now := max s.ftu.now moment }

/-- Time passes to a moment, and each timer that ends before it gives its field start first; a timer that ends with it does not, so
that what comes at that moment is taken first (R43, R46). No more timers end before a moment than there are microseconds. -/
def State.passTo (moment : Nat) (s : State) : State :=
  (s.runTimers (max s.ftu.now moment) (max s.ftu.now moment)).reachMoment moment

/-! ### Meanings -/

/-- POWER_UP_RESET (R59): every block takes its power-up values for the straps and levels at the release. The queue of
commands and the open orders are the model's own and stay. -/
def execPowerUpReset (pins : PowerUpPins) (s : State) : Host.Outcome State Fault Refusal :=
  .next (State.ofPins pins s.order s.pending)

/-- REF_PULSE, after every timer that ends before its moment (R41, R43 to R46). -/
def execRefPulse (parity : Parity) (moment : Nat) (pins : FieldPins) (s : State) : Host.Outcome State Fault Refusal :=
  .next ((s.passTo moment).refPulseTaken parity pins)

/-- REF_WATCH_EXPIRES (R43): in LOCKED_REF, once configured, the watch has run out by a moment with no pulse, and its end is the field
start, whenever after it the row is taken. -/
def execRefWatchExpires (moment : Nat) (pins : FieldPins) (s : State) : Host.Outcome State Fault Refusal :=
  match s.standard with
  | some std =>
    if s.ftu.refState = .lockedRef ∧ s.ftu.watchEnd std ≤ max s.ftu.now moment then .next (s.watchRunsOut std pins)
    else .next s
  | none => .next s

/-- INTERNAL_FIELD_START (R44): one nominal period after the last field start, while the internal timer runs. -/
def execInternalFieldStart (pins : FieldPins) (s : State) : Host.Outcome State Fault Refusal :=
  match s.standard with
  | some std => if s.ftu.timerRunning then .next (s.timerRunsOut std pins) else .next s
  | none => .next s

/-- RETURN_WAIT_EXPIRES (R46): 1.25 nominal periods after a skipped pulse with no REF pulse. -/
def execReturnWaitExpires (pins : FieldPins) (s : State) : Host.Outcome State Fault Refusal :=
  match s.standard with
  | some std =>
    if s.ftu.refState = .fallback ∧ s.ftu.returnStep = .skipped then .next (s.returnWaitRunsOut std pins) else .next s
  | none => .next s

/-! ### An idle step -/

/-- A microsecond passes with nothing arriving. -/
def State.tick (s : State) : State := s.setFtu { s.ftu with now := s.ftu.now + 1 }

/-- What the block does with no command waiting (notes/assumptions/4.md and 7.md, DESIGN CHOICE): the timer that runs gives its field
start when its moment has come, with the lines as they stand, and a microsecond passes otherwise (R43, R44, R46). -/
def State.idle (s : State) : Host.Outcome State Fault Refusal :=
  match s.timerDue with
  | some ends => if ends ≤ s.ftu.now then .next s.timerFires else .next s.tick
  | none => .next s.tick

end Sys2Proof.Machine
end

