-- ==== Sys2Proof/Machine/Directives.lean ====
section
/-! DEFINITION. Taking a directive: from the line or the port, through the checks, to its owner and its report, and the
meanings of the directive rows (R32, R33, R64 to R72, R174). -/

namespace Sys2Proof.Machine

/-! ### The stop emission (R33, R38) -/

/-- The LIF drives the line dominant for 48 bit periods: a frame of its own is cut short, and no frame is taken before the
line has been idle (R33). -/
def State.emitStop (s : State) : State :=
  let s1 := s.cutShort
  { s1 with lif := { s1.lif with
    emitting := true, idle := false, watch := if s1.lif.watch = .steady then .abandoned else s1.lif.watch } }

/-- A request for the stop signal: emitted, or the station's own stop event when it is listen-only (R33, R38). -/
def State.requestStop (s : State) : State := if s.lif.listenOnly then s.localStop else s.emitStop

/-! ### The owners (R69) -/

/-- Who is answered: nobody for a broadcast (R70, R72). -/
def Via.issuer : Via → Issuer
  | .line source dest _ _ => if dest = 0 then .nobody else .station source.toNat
  | .port _ => .port

def Via.seq : Via → Byte
  | .line _ _ seq _ => seq
  | .port seq => seq

/-- The stamp of a ROLL: by the frame's parity, or the current field count from the port (R135). -/
def State.rollStamp (s : State) : Via → Count32
  | .line _ _ _ parity => s.stamp parity
  | .port _ => s.ftu.counter

/-- A taken transition's reply (R158). -/
def takeReply (r : State × Option Code) : State × Reply := (r.1, replyOf (r.2.getD .done))

/-- The owner's effect and its result; none where the directive is answered later or has been answered inside its effect. -/
def State.runOwner (d : Directive) (via : Via) (s : State) : State × Reply :=
  match d with
  | .configure r => s.configure r
  | .status page1 clear => s.status page1 clear
  | .restart => (s.restart (Via.issuer via) (Via.seq via), none)
  | .peerQuery n => (s, some (.done, s.peerQueryBytes n))
  | .transportStop => s.transportStop (Via.seq via) (.directive 0x05)
  | .motion m => s.requestMotion m (Via.issuer via) (Via.seq via)
  | .chaseEnable r => s.enableChase r
  | .chaseStore r => s.storeChase r
  | .chaseDisable => (s.disableChase, replyOf .done)
  | .loadCue c => s.loadCue c
  | .dropCue id => s.dropCue id
  | .roll delay engage => s.setRollStart (s.rollStamp via) delay engage (Via.seq via)
  | .loadZone a b => s.loadZone a b
  | .clearZones => s.clearZones
  | .setTransition p => s.setTransition p
  | .selectA n => s.selectSource n
  | .take => takeReply s.takeTransition
  | .pause => s.pauseTransition
  | .resume => s.resumeTransition
  | .abortTransportOp => (s.abortOp, replyOf .done)
  | .abortSegment => (s.abortSegment, replyOf .done)
  | .abortTransition complete => (s.abortTransition complete, replyOf .done)
  | .allStop => ((s.answer (Via.issuer via) (Via.seq via) 0x14 .done []).requestStop, none)

/-! ### Handling (R64, R65, R70) -/

/-- A directive is matched by the own number, or by 0 at a station that has a number (R32). -/
def State.addressed (s : State) : Via → Bool
  | .line _ dest _ _ =>
    match s.ownNumber with
    | some own => dest == own || dest == 0
    | none => false
  | .port _ => true

/-- Check 1: from the line, with the listen-only flag set (R65). -/
def State.ignores (s : State) (via : Via) : Bool := Via.fromLine via && s.lif.listenOnly

/-- A directive handed to the DHD: the checks in order, the owner, the report (R65, R69, R70). -/
def State.handDirective (via : Via) (payload : List Byte) (s : State) : State :=
  if !s.addressed via || s.ignores via then s
  else
    match s.checkDirective via payload with
    | .bad c => s.answer (Via.issuer via) (Via.seq via) (byteAt payload 0) c []
    | .ok d =>
      let r := s.runOwner d via
      r.1.reply (Via.issuer via) (Via.seq via) (byteAt payload 0) r.2

/-- A frame that R24 calls malformed is discarded with LINE_ERROR; one whose length field is too great is abandoned until the
line is idle. -/
def State.discardMalformed (tooLong : Bool) (s : State) : State :=
  let s1 := s.latch .lineError
  if tooLong then { s1 with lif := { s1.lif with watch := .abandoned } } else s1

/-- A directive arrives: from the line as a frame with its check word right, taken while the line watch takes frames, or from
the port (R22, R24, R64). A directive row commanded by itself with the port as its way is the DHD's part of R174 alone: outcome, unread
and the buffer are SEND's (notes/assumptions/41.md, DESIGN CHOICE). -/
def State.takeDirective (via : Via) (payload : List Byte) (s : State) : State :=
  match via with
  | .port _ => s.handDirective via payload
  | .line source dest _ _ =>
    if s.lif.watch ≠ .steady then s.lineBusy
    else if source = 0 ∨ source = 31 ∨ dest = 31 ∨ 32 < payload.length then
      s.lineBusy.discardMalformed (32 < payload.length)
    else s.lineBusy.handDirective via payload

/-! ### Meanings -/

/-- UNKNOWN_TYPE (R65, check 2). -/
def execUnknownType (via : Via) (payload : List Byte) (s : State) : Host.Outcome State Fault Refusal :=
  .next (s.takeDirective via payload)

/-- CONFIGURE (R62, R63). -/
def execConfigure (via : Via) (params : List Byte) (s : State) : Host.Outcome State Fault Refusal :=
  .next (s.takeDirective via (0x01 :: params))

/-- STATUS_PAGE_0 (R75). -/
def execStatusPage0 (via : Via) (params : List Byte) (s : State) : Host.Outcome State Fault Refusal :=
  .next (s.takeDirective via (0x02 :: 0 :: params))

/-- STATUS_PAGE_1 (R76). -/
def execStatusPage1 (via : Via) (params : List Byte) (s : State) : Host.Outcome State Fault Refusal :=
  .next (s.takeDirective via (0x02 :: 1 :: 0 :: params))

/-- STATUS_PAGE_1_CLEAR (R76). -/
def execStatusPage1Clear (via : Via) (params : List Byte) (s : State) : Host.Outcome State Fault Refusal :=
  .next (s.takeDirective via (0x02 :: 1 :: 1 :: params))

/-- RESTART (R77, R78). -/
def execRestart (via : Via) (params : List Byte) (s : State) : Host.Outcome State Fault Refusal :=
  .next (s.takeDirective via (0x03 :: params))

/-- PEER_QUERY (R57). -/
def execPeerQuery (via : Via) (params : List Byte) (s : State) : Host.Outcome State Fault Refusal :=
  .next (s.takeDirective via (0x04 :: params))

/-- TRANSPORT_STOP (R92). -/
def execTransportStop (via : Via) (params : List Byte) (s : State) : Host.Outcome State Fault Refusal :=
  .next (s.takeDirective via (0x05 :: 0 :: params))

/-- TRANSPORT_STILL (R91). -/
def execTransportStill (via : Via) (params : List Byte) (s : State) : Host.Outcome State Fault Refusal :=
  .next (s.takeDirective via (0x05 :: 1 :: params))

/-- TRANSPORT_PLAY (R91). -/
def execTransportPlay (via : Via) (params : List Byte) (s : State) : Host.Outcome State Fault Refusal :=
  .next (s.takeDirective via (0x05 :: 2 :: params))

/-- TRANSPORT_SHUTTLE (R91). -/
def execTransportShuttle (via : Via) (params : List Byte) (s : State) : Host.Outcome State Fault Refusal :=
  .next (s.takeDirective via (0x05 :: 3 :: params))

/-- TRANSPORT_EJECT (R90, R91). -/
def execTransportEject (via : Via) (params : List Byte) (s : State) : Host.Outcome State Fault Refusal :=
  .next (s.takeDirective via (0x05 :: 4 :: params))

/-- CUE_TO (R93). -/
def execCueTo (via : Via) (params : List Byte) (s : State) : Host.Outcome State Fault Refusal :=
  .next (s.takeDirective via (0x06 :: params))

/-- JOG (R93). -/
def execJog (via : Via) (params : List Byte) (s : State) : Host.Outcome State Fault Refusal :=
  .next (s.takeDirective via (0x07 :: params))

/-- CHASE_ENABLE (R104). -/
def execChaseEnable (via : Via) (params : List Byte) (s : State) : Host.Outcome State Fault Refusal :=
  .next (s.takeDirective via (0x08 :: 0 :: params))

/-- CHASE_STORE (R105). -/
def execChaseStore (via : Via) (params : List Byte) (s : State) : Host.Outcome State Fault Refusal :=
  .next (s.takeDirective via (0x08 :: 1 :: params))

/-- CHASE_DISABLE (R106). -/
def execChaseDisable (via : Via) (params : List Byte) (s : State) : Host.Outcome State Fault Refusal :=
  .next (s.takeDirective via (0x08 :: 2 :: params))

/-- LOAD_CUE (R124). -/
def execLoadCue (via : Via) (params : List Byte) (s : State) : Host.Outcome State Fault Refusal :=
  .next (s.takeDirective via (0x09 :: params))

/-- DROP_CUE (R125). -/
def execDropCue (via : Via) (params : List Byte) (s : State) : Host.Outcome State Fault Refusal :=
  .next (s.takeDirective via (0x0A :: params))

/-- ROLL (R135). -/
def execRoll (via : Via) (params : List Byte) (s : State) : Host.Outcome State Fault Refusal :=
  .next (s.takeDirective via (0x0B :: params))

/-- LOAD_ZONE (R152). -/
def execLoadZone (via : Via) (params : List Byte) (s : State) : Host.Outcome State Fault Refusal :=
  .next (s.takeDirective via (0x0C :: params))

/-- CLEAR_ZONES (R153). -/
def execClearZones (via : Via) (params : List Byte) (s : State) : Host.Outcome State Fault Refusal :=
  .next (s.takeDirective via (0x0D :: params))

/-- SET_TRANSITION (R156). -/
def execSetTransition (via : Via) (params : List Byte) (s : State) : Host.Outcome State Fault Refusal :=
  .next (s.takeDirective via (0x0E :: params))

/-- SELECT_A (R157). -/
def execSelectA (via : Via) (params : List Byte) (s : State) : Host.Outcome State Fault Refusal :=
  .next (s.takeDirective via (0x0F :: params))

/-- TAKE (R158). -/
def execTake (via : Via) (params : List Byte) (s : State) : Host.Outcome State Fault Refusal :=
  .next (s.takeDirective via (0x10 :: params))

/-- PAUSE (R164). -/
def execPause (via : Via) (params : List Byte) (s : State) : Host.Outcome State Fault Refusal :=
  .next (s.takeDirective via (0x11 :: params))

/-- RESUME (R164). -/
def execResume (via : Via) (params : List Byte) (s : State) : Host.Outcome State Fault Refusal :=
  .next (s.takeDirective via (0x12 :: params))

/-- ABORT_TRANSPORT_OP (R96). -/
def execAbortTransportOp (via : Via) (params : List Byte) (s : State) : Host.Outcome State Fault Refusal :=
  .next (s.takeDirective via (0x13 :: 0 :: params))

/-- ABORT_SEGMENT (R147). -/
def execAbortSegment (via : Via) (params : List Byte) (s : State) : Host.Outcome State Fault Refusal :=
  .next (s.takeDirective via (0x13 :: 1 :: params))

/-- ABORT_TRANSITION_COMPLETE (R165). -/
def execAbortTransitionComplete (via : Via) (params : List Byte) (s : State) : Host.Outcome State Fault Refusal :=
  .next (s.takeDirective via (0x13 :: 2 :: 0 :: params))

/-- ABORT_TRANSITION_REVERT (R165). -/
def execAbortTransitionRevert (via : Via) (params : List Byte) (s : State) : Host.Outcome State Fault Refusal :=
  .next (s.takeDirective via (0x13 :: 2 :: 1 :: params))

/-- ALL_STOP (R33, R38, R174). -/
def execAllStop (via : Via) (params : List Byte) (s : State) : Host.Outcome State Fault Refusal :=
  .next (s.takeDirective via (0x14 :: params))

end Sys2Proof.Machine
end

