-- ==== Sys2Proof/Machine/LineEvents.lean ====
section
/-! DEFINITION. The Line Interface: sending, receiving, the stop signal and duplicate stations, and the meanings of the suite
line's commands (R22 to R38). The line is modelled by frames, runs and idle moments (notes/assumptions/8.md). -/

namespace Sys2Proof.Machine

def State.setWatch (w : LineWatch) (s : State) : State := { s with lif := { s.lif with watch := w } }

/-! ### Sending (R25, R26, R31) -/

/-- The delay of a ROLL directive and what follows it, if the message is one (R31). -/
def TxMsg.rollDelay (m : TxMsg) : Option Nat :=
  match m.kind, m.payload with
  | .directive, type :: delay :: _ => if type = 0x0B then some delay.toNat else none
  | _, _ => none

/-- The payload of a ROLL with its delay replaced. -/
def withDelay (delay : Nat) : List Byte → List Byte
  | type :: _ :: rest => type :: byteOf delay :: rest
  | p => p

/-- The payload as the frame carries it: a ROLL's delay is less the message's age (R31). -/
def TxMsg.linePayload (m : TxMsg) : List Byte :=
  match m.rollDelay with
  | some d => withDelay (d - m.age) m.payload
  | none => m.payload

/-- A ROLL whose reduced delay would be less than 1 is not begun (R31). -/
def TxMsg.tooOld (m : TxMsg) : Bool :=
  match m.rollDelay with
  | some d => d < m.age + 1
  | none => false

/-- The frame of a message, with the parity of the field now running (R24, R26). -/
def State.frameOfMsg (s : State) (m : TxMsg) : Frame :=
  Frame.sealed
    { cls := m.kind.cls, source := s.sourceNumber, kind := m.kind.field, dest := m.dest, parity := s.ftu.parity,
      seq := m.seq, payload := m.linePayload, check := 0 }

/-- The first message that can be begun goes on the line, which its start bit makes busy; ROLLs too old before it are discarded
with TX_DROPPED (R22, R25, R31). -/
def State.beginHead : List TxMsg → State → State
  | [], s => { s with lif := { s.lif with waiting := [] } }
  | m :: q, s =>
    if m.tooOld then State.beginHead q (s.latch .txDropped)
    else { s with lif := { s.lif with
      waiting := q, sending := some { msg := m, frame := s.frameOfMsg m, leaves := false }, idle := false } }

/-- The station can begin a frame: the line is idle, nothing of its own is on it, and it is not listen-only (R22, R38). -/
def Lif.canBegin (l : Lif) : Bool :=
  l.idle && l.watch == .steady && !l.emitting && !l.listenOnly && l.sending.isNone

/-! ### Receiving (R32, R35 to R38) -/

/-- The listen-only flag is set on a duplicate: the TXQ is emptied without TX_DROPPED, and an announcement on the line is let
finish where `lets` (R37, R38). DUPLICATE_STATION is latched when the flag was clear (notes/assumptions/25.md). -/
def State.becomeDuplicate (lets : Bool) (s : State) : State :=
  let s1 := if s.lif.duplicate then s else s.latch .duplicateStation
  { s1 with lif := { s1.lif with
    duplicate := true, listenOnly := true, waiting := [], heldAnn := none,
    sending := match s1.lif.sending with
      | some x => if lets && x.msg.isAnn then some { x with leaves := true } else none
      | none => none } }

/-- A frame's source is the own number. -/
def State.isTwin (s : State) (f : Frame) : Bool := s.isOwn f.source.toNat

/-- A good, well-formed frame is handed on by its class and destination (R32, R36). -/
def State.handFrame (f : Frame) (s : State) : State :=
  if f.cls = 0 then s.handDirective (.line f.source f.dest f.seq f.parity) f.payload
  else if f.cls = 1 then
    if s.isTwin f then s.becomeDuplicate true else s.storeAnnouncement f.source.toNat f.parity f.payload
  else if s.isOwn f.dest.toNat then s.rxJoin (rxBytes f.source f.kind f.seq f.payload)
  else s

/-- A frame arrives whole and takes up the line: it is discarded with LINE_ERROR or handed on, while the line watch takes frames
(R22, R24, R32). -/
def State.receiveFrame (f : Frame) (s : State) : State :=
  if s.lif.watch ≠ .steady then s.lineBusy
  else if f.taken then s.lineBusy.handFrame f
  else s.lineBusy.discardMalformed f.tooLong

/-- A dominant run that ends before 40 bit periods cuts the frame: LINE_ERROR, and no frame before the line is idle (R23). -/
def State.violation (s : State) : State := (s.lineBusy.cutShort.latch .lineError).setWatch .abandoned

/-- The station takes the stop event of a run of 40 dominant bit periods, unless it is still waiting for its first idle line or
the run belongs to a signal whose event has been taken (R34, R39). -/
def State.stopRun (s : State) : State :=
  match s.lif.watch with
  | .afterReset | .stopSignal => s.lineBusy
  | .steady | .abandoned => s.lineStop

/-- A dominant run of `run` bit periods (R22, R23, R34). -/
def State.dominantRun (run : Nat) (s : State) : State :=
  if run = 0 then s
  else if run ≤ 2 then s.lineBusy
  else if 40 ≤ run then s.stopRun
  else if s.lif.watch = .steady then s.violation
  else s.lineBusy

/-- What becomes of the own message and of the frame that met it (R35). -/
def State.collide (ending : CollisionEnd) (s : State) : State :=
  match ending with
  | .frame f => if f.taken && s.isTwin f then s.lineBusy.becomeDuplicate false else s.cutShort.receiveFrame f
  | .codingViolation => s.violation
  | .stopSignal => s.lineBusy.cutShort.setWatch .abandoned

/-! ### Meanings -/

/-- STOP_INPUT (R33, R38): a change of the input from not asserted to asserted. -/
def execStopInput (s : State) : Host.Outcome State Fault Refusal :=
  if s.lif.stopLevel then .next s else .next ({ s with lif := { s.lif with stopLevel := true } }).requestStop

/-- STOP_INPUT_RELEASED (R33). -/
def execStopInputReleased (s : State) : Host.Outcome State Fault Refusal :=
  .next { s with lif := { s.lif with stopLevel := false } }

/-- STOP_EMISSION_ENDS (R33). -/
def execStopEmissionEnds (s : State) : Host.Outcome State Fault Refusal :=
  .next { s with lif := { s.lif with emitting := false } }

/-- STOP_EVENT (R34). -/
def execStopEvent (s : State) : Host.Outcome State Fault Refusal := .next s.stopRun

/-- CODING_VIOLATION (R23). -/
def execCodingViolation (run : Nat) (s : State) : Host.Outcome State Fault Refusal := .next (s.dominantRun run)

/-- MALFORMED_FRAME (R24). -/
def execMalformedFrame (f : Frame) (s : State) : Host.Outcome State Fault Refusal := .next (s.receiveFrame f)

/-- FRAME_TRANSMIT_START (R22, R25, R26, R31): at an idle line the head of the TXQ is begun; a station that finds the line not
idle waits. -/
def execFrameTransmitStart (s : State) : Host.Outcome State Fault Refusal :=
  if s.lif.canBegin then .next (State.beginHead s.lif.waiting s) else .next s

/-- ARBITRATION_LOST (R25): the own message stays in the TXQ. -/
def execArbitrationLost (s : State) : Host.Outcome State Fault Refusal := .next s.cutShort

/-- OWN_FRAME_COLLISION (R35), while a frame of the station's own is on the line. -/
def execOwnFrameCollision (ending : CollisionEnd) (s : State) : Host.Outcome State Fault Refusal :=
  if s.lif.sending.isSome then .next (s.collide ending) else .next s

/-- FRAME_SENT (R26, R28). -/
def execFrameSent (s : State) : Host.Outcome State Fault Refusal := .next s.sent

/-- TXQ_MESSAGE_EXPIRES (R30): the messages one field short of age 16 reach it (notes/assumptions/2.md). -/
def execTxqMessageExpires (s : State) : Host.Outcome State Fault Refusal := .next s.expireTxq

/-- ANNOUNCEMENT_RECEIVED (R36, R51, R52). -/
def execAnnouncementReceived (f : Frame) (s : State) : Host.Outcome State Fault Refusal := .next (s.receiveFrame f)

/-- REPORT_OR_NOTICE_RECEIVED (R32, R175). -/
def execReportOrNoticeReceived (f : Frame) (s : State) : Host.Outcome State Fault Refusal := .next (s.receiveFrame f)

/-- LINE_IDLE (R22, R23, R34, R39): the line has been recessive for 8 bit periods, which it is not while the station holds it
dominant or has a frame on it (notes/assumptions/30.md). -/
def execLineIdle (s : State) : Host.Outcome State Fault Refusal :=
  if s.lif.emitting || s.lif.sending.isSome then .next s
  else .next { s with lif := { s.lif with watch := .steady, idle := true } }

end Sys2Proof.Machine
end

