-- ==== Sys2Proof/Machine/Port.lean ====
section
/-! DEFINITION. The Local Port: the assembly buffer, SEND and its outcomes, the receive queue's reads, status and interrupt mask,
and the meanings of the port's commands (R171 to R176). -/

namespace Sys2Proof.Machine

/-! ### Handing over a directive (R172 to R174) -/

/-- A byte written to address 0 (R172). -/
def Lpt.assemble (l : Lpt) (byte : Byte) : Lpt :=
  if 35 ≤ l.buffer.length then { l with overrun := true } else { l with buffer := l.buffer ++ [byte] }

/-- The written payload of the buffer. -/
def Lpt.payload (l : Lpt) : List Byte := l.buffer.drop 3

/-- The directive is executed at the own station: ALL_STOP, the own number as destination, or 0 at a station with no number
(R172). -/
def State.sendsToSelf (s : State) : Bool :=
  s.lpt.payload.head? == some 0x14 || s.isOwn (byteAt s.lpt.buffer 0).toNat ||
    (byteAt s.lpt.buffer 0 == 0 && s.ownNumber.isNone)

/-- A ROLL for the line that holds no delay byte or a delay below 2 (R172). -/
def rollUnfit : List Byte → Bool
  | type :: rest => type == 0x0B && (match rest with | delay :: _ => delay.toNat < 2 | [] => true)
  | [] => false

/-- The SEND is invalid (R172). -/
def State.sendInvalid (s : State) : Bool :=
  s.lpt.overrun || s.lpt.buffer.length < 3 || 31 ≤ (byteAt s.lpt.buffer 0).toNat ||
    32 < (byteAt s.lpt.buffer 2).toNat || s.lpt.payload.length != (byteAt s.lpt.buffer 2).toNat ||
    (!s.sendsToSelf && rollUnfit s.lpt.payload)

/-- The SEND outcome is set, with outcome unread; a TAKEN directive empties the buffer (R172 to R174). -/
def Lpt.withOutcome (l : Lpt) (o : SendOutcome) : Lpt :=
  { l with outcome := o, unread := true, buffer := if o = .taken then [] else l.buffer }

def State.setLpt (l : Lpt) (s : State) : State := { s with lpt := l }

/-- The directive joins the TXQ with an age of 0 (R173). -/
def State.txDirective (dest : BitVec 5) (seq : Byte) (payload : List Byte) (s : State) : State :=
  { s with lif := { s.lif with
    waiting := joinBehind { kind := .directive, dest := dest, seq := seq, payload := payload, age := 0 }
      s.lif.waiting } }

/-- A SEND routed to the line: REFUSED while listen-only or with a full TXQ, TAKEN otherwise (R173). -/
def State.sendToLine (s : State) : State :=
  if s.lif.listenOnly || s.lif.full then s.setLpt (s.lpt.withOutcome .refused)
  else
    (s.txDirective ((byteAt s.lpt.buffer 0).setWidth 5) (byteAt s.lpt.buffer 1) s.lpt.payload).setLpt
      (s.lpt.withOutcome .taken)

/-- A SEND executed at the own station (R174). -/
def State.sendToSelf (s : State) : State :=
  (s.setLpt (s.lpt.withOutcome .taken)).handDirective (.port (byteAt s.lpt.buffer 1)) s.lpt.payload

/-- The command SEND (R172). -/
def State.sendCommand (s : State) : State :=
  if s.sendInvalid then s.setLpt (s.lpt.withOutcome .invalid)
  else if s.sendsToSelf then s.sendToSelf
  else s.sendToLine

/-- The command CLEAR (R172). -/
def Lpt.cleared (l : Lpt) : Lpt := { l with buffer := [], overrun := false }

/-! ### The receive queue (R175) -/

/-- The byte a read of address 0 returns: 0 when the queue is empty or the head has been read to its end. -/
def Lpt.nextByte (l : Lpt) : Byte :=
  match l.rxQueue with
  | m :: _ => m.bytes.getD m.place 0
  | [] => 0

/-- The bytes of the head message not yet read, as a read of address 2 returns them. -/
def Lpt.unreadBytes (l : Lpt) : Byte :=
  match l.rxQueue with
  | m :: _ => byteOf (m.bytes.length - m.place)
  | [] => 0

/-- The head message after one read. -/
def RxMsg.advanced (m : RxMsg) : RxMsg := if m.place < m.bytes.length then { m with place := m.place + 1 } else m

/-- A read of address 0 (R175). -/
def Lpt.readHead (l : Lpt) : Lpt :=
  { l with
    readData := l.nextByte,
    rxQueue := match l.rxQueue with
      | m :: q => m.advanced :: q
      | [] => [] }

/-- The command NEXT (R175). -/
def Lpt.dropHead (l : Lpt) : Lpt := { l with rxQueue := l.rxQueue.drop 1 }

/-! ### Status and mask (R176) -/

/-- A read of address 1. -/
def State.readStatus (s : State) : State := s.setLpt { s.lpt with readData := s.portStatus, unread := false }

/-- A write of address 3. -/
def Lpt.withMask (l : Lpt) (byte : Byte) : Lpt :=
  { l with maskRx := byte.getLsbD 0, maskSend := byte.getLsbD 1 }

/-- A write of any address: the bytes and commands of section 2.9, and nothing for the rest (R172, R176). -/
def State.portWrite (address : BitVec 2) (byte : Byte) (s : State) : State :=
  match address.toNat with
  | 0 => s.setLpt (s.lpt.assemble byte)
  | 1 =>
    match byte.toNat with
    | 1 => s.sendCommand
    | 2 => s.setLpt s.lpt.cleared
    | 3 => s.setLpt s.lpt.dropHead
    | _ => s
  | 3 => s.setLpt (s.lpt.withMask byte)
  | _ => s

/-! ### Meanings -/

/-- ASSEMBLY_BYTE_WRITE (R172). -/
def execAssemblyByteWrite (byte : Byte) (s : State) : Host.Outcome State Fault Refusal :=
  .next (s.setLpt (s.lpt.assemble byte))

/-- SEND (R172 to R174). -/
def execSend (s : State) : Host.Outcome State Fault Refusal := .next s.sendCommand

/-- CLEAR (R172). -/
def execClear (s : State) : Host.Outcome State Fault Refusal := .next (s.setLpt s.lpt.cleared)

/-- NEXT (R175). -/
def execNext (s : State) : Host.Outcome State Fault Refusal := .next (s.setLpt s.lpt.dropHead)

/-- RECEIVE_BYTE_READ (R175). -/
def execReceiveByteRead (s : State) : Host.Outcome State Fault Refusal := .next (s.setLpt s.lpt.readHead)

/-- STATUS_BYTE_READ (R176). -/
def execStatusByteRead (s : State) : Host.Outcome State Fault Refusal := .next s.readStatus

/-- INTERRUPT_MASK_WRITE (R176). -/
def execInterruptMaskWrite (byte : Byte) (s : State) : Host.Outcome State Fault Refusal :=
  .next (s.setLpt (s.lpt.withMask byte))

/-- PORT_WRITE_NO_EFFECT (R172): a write of address 2, or of a command byte at address 1 that names no command. -/
def execPortWriteNoEffect (address : BitVec 2) (byte : Byte) (s : State) : Host.Outcome State Fault Refusal :=
  .next (s.portWrite address byte)

end Sys2Proof.Machine
end

