-- ==== Sys2Proof/Machine/Dispatch.lean ====
section
/-! DEFINITION. One arm for each command of the table, each one call of its meaning. -/

namespace Sys2Proof.Machine

def exec (i : Instr) (s : State) : Host.Outcome State Fault Refusal :=
  match i with
  | .powerUpReset pins => Sys2Proof.Machine.execPowerUpReset pins s
  | .refPulse parity moment pins => Sys2Proof.Machine.execRefPulse parity moment pins s
  | .refWatchExpires moment pins => Sys2Proof.Machine.execRefWatchExpires moment pins s
  | .internalFieldStart pins => Sys2Proof.Machine.execInternalFieldStart pins s
  | .returnWaitExpires pins => Sys2Proof.Machine.execReturnWaitExpires pins s
  | .stopInput => Sys2Proof.Machine.execStopInput s
  | .stopEmissionEnds => Sys2Proof.Machine.execStopEmissionEnds s
  | .stopEvent => Sys2Proof.Machine.execStopEvent s
  | .codingViolation run => Sys2Proof.Machine.execCodingViolation run s
  | .malformedFrame f => Sys2Proof.Machine.execMalformedFrame f s
  | .frameTransmitStart => Sys2Proof.Machine.execFrameTransmitStart s
  | .arbitrationLost => Sys2Proof.Machine.execArbitrationLost s
  | .ownFrameCollision ending => Sys2Proof.Machine.execOwnFrameCollision ending s
  | .frameSent => Sys2Proof.Machine.execFrameSent s
  | .txqMessageExpires => Sys2Proof.Machine.execTxqMessageExpires s
  | .announcementReceived f => Sys2Proof.Machine.execAnnouncementReceived f s
  | .reportOrNoticeReceived f => Sys2Proof.Machine.execReportOrNoticeReceived f s
  | .peerEntryRemoved station => Sys2Proof.Machine.execPeerEntryRemoved station s
  | .tachPulse forward => Sys2Proof.Machine.execTachPulse forward s
  | .codeWord label => Sys2Proof.Machine.execCodeWord label s
  | .jumpCandidateExpires => Sys2Proof.Machine.execJumpCandidateExpires s
  | .codeLost => Sys2Proof.Machine.execCodeLost s
  | .tallyChange tally => Sys2Proof.Machine.execTallyChange tally s
  | .threadedFalls => Sys2Proof.Machine.execThreadedFalls s
  | .threadedRises => Sys2Proof.Machine.execThreadedRises s
  | .tallyWaitRunsOut => Sys2Proof.Machine.execTallyWaitRunsOut s
  | .deckFaultQualified => Sys2Proof.Machine.execDeckFaultQualified s
  | .recoveryOffTimeEnds => Sys2Proof.Machine.execRecoveryOffTimeEnds s
  | .recoveryWaitRunsOut => Sys2Proof.Machine.execRecoveryWaitRunsOut s
  | .deferralExpired => Sys2Proof.Machine.execDeferralExpired s
  | .seekFailed => Sys2Proof.Machine.execSeekFailed s
  | .lockDeclared => Sys2Proof.Machine.execLockDeclared s
  | .lockLost => Sys2Proof.Machine.execLockLost s
  | .pullTimeExceeded => Sys2Proof.Machine.execPullTimeExceeded s
  | .rerollOffTimeEnds => Sys2Proof.Machine.execRerollOffTimeEnds s
  | .gapEnds => Sys2Proof.Machine.execGapEnds s
  | .rollStart => Sys2Proof.Machine.execRollStart s
  | .transitionCompletes => Sys2Proof.Machine.execTransitionCompletes s
  | .unknownType via payload => Sys2Proof.Machine.execUnknownType via payload s
  | .configure via params => Sys2Proof.Machine.execConfigure via params s
  | .statusPage0 via params => Sys2Proof.Machine.execStatusPage0 via params s
  | .statusPage1 via params => Sys2Proof.Machine.execStatusPage1 via params s
  | .statusPage1Clear via params => Sys2Proof.Machine.execStatusPage1Clear via params s
  | .restart via params => Sys2Proof.Machine.execRestart via params s
  | .peerQuery via params => Sys2Proof.Machine.execPeerQuery via params s
  | .transportStop via params => Sys2Proof.Machine.execTransportStop via params s
  | .transportStill via params => Sys2Proof.Machine.execTransportStill via params s
  | .transportPlay via params => Sys2Proof.Machine.execTransportPlay via params s
  | .transportShuttle via params => Sys2Proof.Machine.execTransportShuttle via params s
  | .transportEject via params => Sys2Proof.Machine.execTransportEject via params s
  | .cueTo via params => Sys2Proof.Machine.execCueTo via params s
  | .jog via params => Sys2Proof.Machine.execJog via params s
  | .chaseEnable via params => Sys2Proof.Machine.execChaseEnable via params s
  | .chaseStore via params => Sys2Proof.Machine.execChaseStore via params s
  | .chaseDisable via params => Sys2Proof.Machine.execChaseDisable via params s
  | .loadCue via params => Sys2Proof.Machine.execLoadCue via params s
  | .dropCue via params => Sys2Proof.Machine.execDropCue via params s
  | .roll via params => Sys2Proof.Machine.execRoll via params s
  | .loadZone via params => Sys2Proof.Machine.execLoadZone via params s
  | .clearZones via params => Sys2Proof.Machine.execClearZones via params s
  | .setTransition via params => Sys2Proof.Machine.execSetTransition via params s
  | .selectA via params => Sys2Proof.Machine.execSelectA via params s
  | .take via params => Sys2Proof.Machine.execTake via params s
  | .pause via params => Sys2Proof.Machine.execPause via params s
  | .resume via params => Sys2Proof.Machine.execResume via params s
  | .abortTransportOp via params => Sys2Proof.Machine.execAbortTransportOp via params s
  | .abortSegment via params => Sys2Proof.Machine.execAbortSegment via params s
  | .abortTransitionComplete via params => Sys2Proof.Machine.execAbortTransitionComplete via params s
  | .abortTransitionRevert via params => Sys2Proof.Machine.execAbortTransitionRevert via params s
  | .allStop via params => Sys2Proof.Machine.execAllStop via params s
  | .assemblyByteWrite byte => Sys2Proof.Machine.execAssemblyByteWrite byte s
  | .send => Sys2Proof.Machine.execSend s
  | .clear => Sys2Proof.Machine.execClear s
  | .next => Sys2Proof.Machine.execNext s
  | .receiveByteRead => Sys2Proof.Machine.execReceiveByteRead s
  | .statusByteRead => Sys2Proof.Machine.execStatusByteRead s
  | .interruptMaskWrite byte => Sys2Proof.Machine.execInterruptMaskWrite byte s
  | .portWriteNoEffect address byte => Sys2Proof.Machine.execPortWriteNoEffect address byte s
  | .stopInputReleased => Sys2Proof.Machine.execStopInputReleased s
  | .lineIdle => Sys2Proof.Machine.execLineIdle s

end Sys2Proof.Machine
end

