-- ==== Sys2Proof/Machine/Step.lean ====
section
/-! DEFINITION. One step: the command at the front of the queue, or an idle step on an empty queue (notes/assumptions/7.md). -/

namespace Sys2Proof.Machine

/-- The state with another queue. -/
def State.withPending (q : List Instr) (s : State) : State := { s with pending := q }

/-- The command at the front is taken off the queue and executed with the queue's rest; on an empty queue the block idles, and time
passes. -/
def step (s : State) : Host.Outcome State Fault Refusal :=
  match s.pending with
  | [] => s.idle
  | i :: rest => exec i (s.withPending rest)

/-- The command a word spells, put at the front of the queue; unchanged where the word spells none. -/
def State.withFetchWord (s : State) (nbits w : Nat) : State :=
  match decodeTableWord nbits w with
  | some i => s.withPending (i :: s.pending)
  | none => s

end Sys2Proof.Machine
end

