-- ==== Sys2Proof/Safety.lean ====
section
/-! DEFINITION. What a legal state is, in the rules' own terms: the invariants the rules state of the station's blocks. -/

namespace Sys2Proof.Machine

/-! ### Transport, chase and segment (R80 to R83, R87, R95, R102, R140) -/

/-- The requested modes R83 gives a transport state. -/
def TransportState.allows : TransportState → ReqMode → Bool
  | .unthreaded, m | .stopped, m => m == .stop || m == .noMode
  | .still, m => m == .still
  | .playing, m => m == .play
  | .shuttling, m => m == .var
  | .cueing, m => m == .var || m == .still
  | .chasing, m => m == .var || m == .still || m == .record
  | .recording, m => m == .record
  | .ejecting, m => m == .eject
  | .faulted, m => m == .stop

/-- The transport's requested deck mode is RECORD if and only if the segment is RECORDING (R82), and the segment record is
present while it is (R139). -/
abbrev State.recordAgrees (s : State) : Prop :=
  (s.tsq.reqMode = .record ↔ s.rcc.state = .recording) ∧ (s.rcc.state = .recording ↔ s.rcc.record.isSome = true)

/-- While the chase is active the transport is CHASING, with a stored record (R102, R107); a chasing recorder records only
while LOCKED (R101, R147). -/
abbrev State.chaseAgrees (s : State) : Prop :=
  (s.csv.state ≠ .off ↔ s.tsq.state = .chasing) ∧ (s.csv.state ≠ .off → s.csv.record.isSome = true) ∧
    (s.tsq.state = .chasing → s.tsq.reqMode = .record → s.csv.state = .locked)

/-- The pending record's kind agrees with the transport state (R90, R93, R95). -/
def State.pendingAgrees (s : State) : Bool :=
  match s.tsq.pendingOp with
  | none => s.tsq.state != .cueing
  | some o =>
    match o.kind with
    | .cueTo | .jog => s.tsq.state == .cueing
    | .eject => s.tsq.state == .ejecting
    | .mode => s.tsq.state != .cueing && s.tsq.state != .ejecting

/-- The request is one R83 gives the state; recovery is under way in FAULTED alone (R87); a running wait is not matched
(R83); there is no tally wait in UNTHREADED (R89). -/
abbrev State.requestAgrees (s : State) : Prop :=
  s.tsq.state.allows s.tsq.reqMode = true ∧ (s.tsq.recovery ≠ .idle → s.tsq.state = .faulted) ∧
    (s.tsq.wait.isSome = true → s.tsq.matched = false) ∧ (s.tsq.state = .unthreaded → s.tsq.wait = none) ∧
    (s.dhd.config.isSome = true → s.tsq.reqMode ≠ .noMode)

/-- The transport is UNTHREADED exactly while THREADED is not asserted (R83, R89, R90). -/
abbrev State.threadAgrees (s : State) : Prop := s.tsq.state = .unthreaded ↔ s.pins.threaded = false

/-- Before CONFIGURE is accepted nothing has been requested, held, pended, chased, recorded, cued or rolled (R65, R80). -/
abbrev State.unconfiguredAgrees (s : State) : Prop :=
  s.dhd.config.isNone = true →
    s.tsq.reqMode = .noMode ∧ s.tsq.wait = none ∧ s.tsq.recovery = .idle ∧ s.tsq.pendingOp = none ∧
      s.tsq.slot = none ∧ s.csv.state = .off ∧ s.rcc.state = .idle ∧ s.cul.cues = [] ∧ s.cul.roll = none

/-- What the rules state of transport, chase and segment together, at a station with a transport. -/
abbrev State.transportLegal (s : State) : Prop :=
  s.dhd.transportFitted = true →
    s.recordAgrees ∧ s.chaseAgrees ∧ s.pendingAgrees = true ∧ s.requestAgrees ∧ s.threadAgrees ∧ s.unconfiguredAgrees

/-- The requested speed word lies within plus or minus the shuttle limit (R81). -/
abbrev State.speedLegal (s : State) : Prop := s.tsq.reqSpeed.natAbs ≤ s.shuttleLimit

/-! ### Chase and peers (R108) -/

/-- A chase that is SEEKING, PULLING, LOCKED or FOLLOW_STILL has a master that the most recent field start found usable. -/
abbrev State.masterLegal (s : State) : Prop :=
  (s.csv.state ≠ .off → s.csv.record.isSome = true) ∧
    (s.csv.state = .seeking ∨ s.csv.state = .pulling ∨ s.csv.state = .locked ∨ s.csv.state = .followStill →
      (s.csv.record.map fun r => (s.view r.master).usable) = some true)

/-- The two lists of the Peer Table have 30 places, and the entry of the station's own number is empty (R50). -/
abbrev State.peersLegal (s : State) : Prop :=
  s.ptb.entries.length = 30 ∧ s.ptb.views.length = 30 ∧ ∀ n, s.isOwn n = true → s.peer n = none

/-! ### Zones, cues and the transition engine (R123, R151, R154, R155) -/

/-- Zones with start below stop, in ascending order and disjoint (R151). -/
def zonesOrdered : List Zone → Bool
  | [] => true
  | [z] => z.start < z.stop
  | z :: y :: zs => z.start < z.stop && z.stop ≤ y.start && zonesOrdered (y :: zs)

abbrev State.zonesLegal (s : State) : Prop := s.rcc.zones.length ≤ 8 ∧ zonesOrdered s.rcc.zones = true

/-- At most 32 cues, no two with the same id (R123). -/
abbrev State.cuesLegal (s : State) : Prop := s.cul.cues.length ≤ 32 ∧ (s.cul.cues.map (·.id)).Nodup

/-- The ranges of the preset record (R156). -/
def Preset.legal (p : Preset) : Bool := p.toSource ≤ 7 && p.duration ≤ 999 && p.split.natAbs ≤ 60

/-- K, D, gA and gB lie in 0..1024 and gA + gB = 1024 (R155); P, Pa, k, the selects and the preset in their ranges (R154). -/
abbrev State.levelsLegal (s : State) : Prop :=
  s.ten.outK ≤ 1024 ∧ s.ten.outD ≤ 1024 ∧ s.ten.gainA + s.ten.gainB = 1024 ∧ s.ten.progress ≤ 1024 ∧
    s.ten.audio ≤ 1024 ∧ s.ten.k ≤ 2058 ∧ s.ten.aSel ≤ 7 ∧ s.ten.bSel ≤ 7 ∧ s.ten.preset.all Preset.legal = true

/-- The rest values, every edge pair (0, 0) among them, stand in AT_REST and PRESET (R155); a preset is held in every state but
AT_REST (R154). -/
abbrev State.restLegal (s : State) : Prop :=
  (s.ten.state = .atRest ∨ s.ten.state = .preset →
    s.ten.outK = 0 ∧ s.ten.outD = 0 ∧ s.ten.gainA = 1024 ∧ s.ten.gainB = 0 ∧ s.ten.progress = 0 ∧
      ∀ e ∈ s.ten.edges, e = (0, 0)) ∧
    (s.ten.state = .atRest ↔ s.ten.preset = none)

/-! ### Queues and buffers (R27, R30, R38, R171, R175) -/

/-- The classes of the messages rise: directives, the announcement, reports and notices (R27). -/
def classesRise : List TxMsg → Bool
  | m :: n :: q => m.kind.cls ≤ n.kind.cls && classesRise (n :: q)
  | _ => true

/-- The announcements of the TXQ, the one on the line among them. -/
def Lif.announcements (l : Lif) : Nat :=
  l.waiting.countP TxMsg.isAnn + (match l.sending with | some x => if x.msg.isAnn then 1 else 0 | none => 0)

/-- An announcement is held only while the old one is on the line (R28). -/
def Lif.heldLegal (l : Lif) : Bool := l.heldAnn.isNone || (l.sending.map (·.msg.isAnn)) == some true

/-- At most 7 non-announcement messages and one announcement, in order of class, none but one on the line of age 16 (R27,
R28, R30). -/
abbrev State.txqLegal (s : State) : Prop :=
  s.lif.nonAnnouncements ≤ 7 ∧ s.lif.announcements ≤ 1 ∧ classesRise s.lif.waiting = true ∧ s.lif.heldLegal = true ∧
    s.lif.heldAnn.all TxMsg.isAnn = true ∧ (s.lif.waiting.all fun m => m.isAnn || m.age < 16) = true

/-- A listen-only station has nothing to send but an announcement let finish (R38). -/
abbrev State.silentLegal (s : State) : Prop :=
  s.lif.listenOnly = true →
    s.lif.waiting = [] ∧ s.lif.heldAnn = none ∧ (s.lif.sending.all fun x => x.leaves) = true

/-- A station strapped to 0 or 31, or found duplicate, is listen-only (R37). -/
abbrev State.flagsLegal (s : State) : Prop :=
  (s.lif.duplicate = true → s.lif.listenOnly = true) ∧ (s.ownNumber = none → s.lif.listenOnly = true)

/-- While the line is idle the station takes frames and has nothing of its own on the line (R22, R23, R33). -/
abbrev State.lineLegal (s : State) : Prop :=
  s.lif.idle = true → s.lif.watch = .steady ∧ s.lif.sending = none ∧ s.lif.emitting = false

/-- The port's bounds: 35 bytes of buffer, 8 messages, and a read place within each message (R171). -/
abbrev State.portLegal (s : State) : Prop :=
  s.lpt.buffer.length ≤ 35 ∧ s.lpt.rxQueue.length ≤ 8 ∧ (s.lpt.rxQueue.all fun m => m.place ≤ m.bytes.length) = true

/-! ### The field timing (R40, R43, R44, R46) -/

/-- The moments held are not later than the present one, and the internal timer runs in FALLBACK alone, the return wait in its place
after a skipped pulse; before CONFIGURE the reference state is LOCKED_REF. -/
abbrev State.clockLegal (s : State) : Prop :=
  s.ftu.lastStart ≤ s.ftu.now ∧ s.ftu.lastPulse.getD 0 ≤ s.ftu.now ∧ s.ftu.accepted.getD 0 ≤ s.ftu.now ∧
    (s.dhd.config.isNone = true → s.ftu.refState = .lockedRef) ∧
    (s.ftu.refState = .lockedRef → s.ftu.timerRunning = false ∧ s.ftu.returnStep = .idle) ∧
    (s.ftu.refState = .fallback → s.ftu.timerRunning = (s.ftu.returnStep == .idle)) ∧ s.ftu.goodPulses ≤ 8

/-! ### Position (R9, R19) -/

/-- The Position Unit's ranges (R9); with no position there is no jump candidate either (R20). -/
abbrev State.positionLegal (s : State) : Prop :=
  s.psu.speed.natAbs ≤ 32767 ∧
    (s.psu.source = .noSource → s.psu.anchor = 0 ∧ s.psu.p = 0 ∧ s.psu.motion = 0 ∧ s.psu.missing = 0 ∧
      s.psu.candidate = none) ∧
    (s.dhd.config.isNone = true → s.psu.source = .noSource) ∧
    (s.dhd.config.all fun c =>
      1 ≤ c.tpf && s.psu.p.natAbs < c.tpf && s.psu.motion < c.tpf && s.psu.missing ≤ c.dropoutWindow + 1 &&
        s.psu.anchor < c.standard.framesPerDay && s.psu.candidate.all fun k => k.motion ≤ 3 * c.tpf / 2 + 1) = true

/-- The flag `s` never recording where the tape or the place 128 fine units ahead lies in a zone (R144). -/
abbrev State.clearOfZones (s : State) : Prop := s.rcc.state = .recording → s.nearZone = false

/-- A fitted deck at work by itself: no chase, no segment RECORDING, no cue and no roll acts on it at a field start. -/
abbrev State.deckAlone (s : State) : Prop :=
  s.dhd.transportFitted = true ∧ s.csv.state = .off ∧ s.rcc.state ≠ .recording ∧ s.cul.cues = [] ∧ s.cul.roll = none

/-- No timer of the Field Timing Unit ends before a moment, or before the present one where that is later (R43, R44, R46). -/
abbrev State.onTime (s : State) (moment : Nat) : Prop :=
  (s.timerDue.all fun ends => max s.ftu.now moment ≤ ends) = true

/-- The four commands that can give a field start, with the lines read at it (R41 to R46); a REF pulse in a state where no timer
ends before it. -/
def givesFieldStart (i : Instr) (pins : FieldPins) (s : State) : Prop :=
  (∃ parity moment, i = .refPulse parity moment pins ∧ s.onTime moment) ∨ (∃ moment, i = .refWatchExpires moment pins) ∨
    i = .internalFieldStart pins ∨ i = .returnWaitExpires pins

/-! ### What an effect on the deck, the chase or a segment leaves -/

/-- The field timing, the peers, the identity and configuration, the line's own flags and what is on it, and the port's buffer
and mask stand; the messages that wait still wait, in their order; no latched event goes. -/
structure State.Bystanders (s t : State) : Prop where
  ftu : t.ftu = s.ftu
  ptb : t.ptb = s.ptb
  order : t.order = s.order
  pending : t.pending = s.pending
  stn : t.dhd.stn = s.dhd.stn
  transportFitted : t.dhd.transportFitted = s.dhd.transportFitted
  channelFitted : t.dhd.channelFitted = s.dhd.channelFitted
  config : t.dhd.config = s.dhd.config
  waiting : s.lif.waiting.Sublist t.lif.waiting
  lif : t.lif = { s.lif with waiting := t.lif.waiting }
  rxQueue : s.lpt.rxQueue <+: t.lpt.rxQueue
  lpt : t.lpt = { s.lpt with rxQueue := t.lpt.rxQueue }
  events : ∀ e, s.holdsEvent e = true → t.holdsEvent e = true

/-! ### What a segment's end sends (R140, R148, R149) -/

/-- The last recorded frame and the remaining that a segment ends with where the tape stands at the end: the own frame where there
is a position, and what the last field start left otherwise (R140, R146, R148). -/
def State.recordedTo (s : State) (g : Segment) : Nat × Option Nat :=
  match s.dhd.config, s.own with
  | some c, some x =>
    (x / 256,
     g.duration.map fun d => d - (((x / 256 : Nat) + 1 - g.inFrame : Int) % (c.standard.framesPerDay : Int)).toNat)
  | _, _ => (g.lastFrame, g.remaining)

/-- The SEGMENT_NOTICE of a segment that the handling from `s` to `t` ends with a reason, last recorded frame and remaining: its 14
bytes go to the notify station by the TXQ, or into the port's receive queue for the own number, where there is a place, and are
discarded with TX_DROPPED or RX_DROPPED where there is none (R149). -/
def State.SegmentNoticed (s t : State) (g : Segment) (reason : Code) (recorded : Nat × Option Nat) : Prop :=
  ∀ c n, s.dhd.config = some c → g.notify = some n →
    let payload : List Byte :=
      [2, if reason = .done then 0 else 1, reason.value] ++ Label.toBytes (countLabel c.standard g.inFrame) ++
        Label.toBytes (countLabel c.standard recorded.1) ++
        (match recorded.2 with | some left => 1 :: bytes16 left | none => [0, 0, 0])
    let seq : Byte := t.ftu.counter.setWidth 8
    (s.isOwn n = true → s.lpt.rxQueue.length < 8 →
      { bytes := [s.sourceNumber.setWidth 8, 3, seq, 14] ++ payload, place := 0 } ∈ t.lpt.rxQueue) ∧
    (s.isOwn n = true → 8 ≤ s.lpt.rxQueue.length → t.holdsEvent .rxDropped = true) ∧
    (s.isOwn n = false → s.lif.listenOnly = false →
      (s.lif.nonAnnouncements < 7 →
        { kind := .notice, dest := BitVec.ofNat 5 n, seq := seq, payload := payload, age := 0 } ∈ t.lif.waiting) ∧
      (7 ≤ s.lif.nonAnnouncements → s.lif.sending = none → t.holdsEvent .txDropped = true))

/-- No report of a transport operation or of a held directive goes before what the handling does next. -/
abbrev State.nothingToReport (s : State) : Prop :=
  s.tsq.slot = none ∧ ∀ o, s.tsq.pendingOp = some o → o.kind = .mode

/-! ### The way of a directive through checks 1 to 4 (R24, R32, R64 to R66) -/

/-- A directive of `bytes` payload bytes comes to the checks and is not ignored by the first: from the port, or from the line
in a frame R24 lets pass, addressed to the station, which takes frames and is not listen-only. -/
def State.hears (s : State) (via : Via) (bytes : Nat) : Bool :=
  match via with
  | .port _ => true
  | .line source dest _ _ =>
    s.lif.watch == .steady && source != 0 && source != 31 && dest != 31 && bytes ≤ 32 && s.addressed via &&
      !s.lif.listenOnly

/-- The control-set test of R66 for a type other than STATUS and PEER_QUERY. -/
def State.controlledBy (s : State) (via : Via) : Bool :=
  match via with
  | .port _ => true
  | .line source _ _ _ => s.controlSet == 0 || s.controlSet.getLsbD source.toNat

/-- The directive passes checks 1, 3 and 4 at a READY station. -/
def State.obeys (s : State) (via : Via) (bytes : Nat) : Bool :=
  s.hears via bytes && s.dhd.config.isSome && s.controlledBy via

/-- The directive passes checks 1, 3, 4 and 5 at a READY station with a transport. -/
def State.obeysTape (s : State) (via : Via) (bytes : Nat) : Bool := s.obeys via bytes && s.dhd.transportFitted

/-- The directive passes checks 1, 3, 4 and 5 at a READY station with a transition channel. -/
def State.obeysChannel (s : State) (via : Via) (bytes : Nat) : Bool := s.obeys via bytes && s.dhd.channelFitted

/-- A report to the issuer of a directive (R70, R72). -/
def State.report (via : Via) (type : Byte) (c : Code) (result : List Byte) (s : State) : State :=
  s.answer (Via.issuer via) (Via.seq via) type c result

/-- The way a directive came and its whole payload, for the directive rows of the table. -/
def directiveOf : Instr → Option (Via × List Byte)
  | .unknownType via p => some (via, p)
  | .configure via p => some (via, 0x01 :: p)
  | .statusPage0 via p => some (via, 0x02 :: 0 :: p)
  | .statusPage1 via p => some (via, 0x02 :: 1 :: 0 :: p)
  | .statusPage1Clear via p => some (via, 0x02 :: 1 :: 1 :: p)
  | .restart via p => some (via, 0x03 :: p)
  | .peerQuery via p => some (via, 0x04 :: p)
  | .transportStop via p => some (via, 0x05 :: 0 :: p)
  | .transportStill via p => some (via, 0x05 :: 1 :: p)
  | .transportPlay via p => some (via, 0x05 :: 2 :: p)
  | .transportShuttle via p => some (via, 0x05 :: 3 :: p)
  | .transportEject via p => some (via, 0x05 :: 4 :: p)
  | .cueTo via p => some (via, 0x06 :: p)
  | .jog via p => some (via, 0x07 :: p)
  | .chaseEnable via p => some (via, 0x08 :: 0 :: p)
  | .chaseStore via p => some (via, 0x08 :: 1 :: p)
  | .chaseDisable via p => some (via, 0x08 :: 2 :: p)
  | .loadCue via p => some (via, 0x09 :: p)
  | .dropCue via p => some (via, 0x0A :: p)
  | .roll via p => some (via, 0x0B :: p)
  | .loadZone via p => some (via, 0x0C :: p)
  | .clearZones via p => some (via, 0x0D :: p)
  | .setTransition via p => some (via, 0x0E :: p)
  | .selectA via p => some (via, 0x0F :: p)
  | .take via p => some (via, 0x10 :: p)
  | .pause via p => some (via, 0x11 :: p)
  | .resume via p => some (via, 0x12 :: p)
  | .abortTransportOp via p => some (via, 0x13 :: 0 :: p)
  | .abortSegment via p => some (via, 0x13 :: 1 :: p)
  | .abortTransitionComplete via p => some (via, 0x13 :: 2 :: 0 :: p)
  | .abortTransitionRevert via p => some (via, 0x13 :: 2 :: 1 :: p)
  | .allStop via p => some (via, 0x14 :: p)
  | .powerUpReset _ | .refPulse _ _ _ | .refWatchExpires _ _ | .internalFieldStart _ | .returnWaitExpires _
  | .stopInput | .stopEmissionEnds | .stopEvent | .codingViolation _ | .malformedFrame _ | .frameTransmitStart
  | .arbitrationLost | .ownFrameCollision _ | .frameSent | .txqMessageExpires | .announcementReceived _
  | .reportOrNoticeReceived _ | .peerEntryRemoved _ | .tachPulse _ | .codeWord _ | .jumpCandidateExpires | .codeLost
  | .tallyChange _ | .threadedFalls | .threadedRises | .tallyWaitRunsOut | .deckFaultQualified
  | .recoveryOffTimeEnds | .recoveryWaitRunsOut | .deferralExpired | .seekFailed | .lockDeclared | .lockLost
  | .pullTimeExceeded | .rerollOffTimeEnds | .gapEnds | .rollStart | .transitionCompletes | .assemblyByteWrite _
  | .send | .clear | .next | .receiveByteRead | .statusByteRead | .interruptMaskWrite _ | .portWriteNoEffect _ _
  | .stopInputReleased | .lineIdle => none

end Sys2Proof.Machine
end

