-- ==== Sys2Proof/WellFormed.lean ====
section
/-! DEFINITION. Which commands are well formed: those that name what their row says. The machine gives every command a
meaning, well formed or not; an ill-formed one acts as its operands spell it (notes/assumptions/14.md). -/

namespace Sys2Proof

/-- A directive from the line comes in a frame that R24 lets pass; no directive has more than 32 payload bytes. -/
def Via.wf (via : Via) (payloadBytes : Nat) : Bool :=
  payloadBytes ≤ 32 &&
    match via with
    | .line source dest _ _ => source != 0 && source != 31 && dest != 31
    | .port _ => true

/-- The payload is empty or its first byte names no directive (R65, check 2). -/
def unknownPayload : List Byte → Bool
  | [] => true
  | type :: _ => type.toNat == 0 || 0x14 < type.toNat

/-- The command is of the kind its row names. -/
def Instr.wf : Instr → Bool
  | .codingViolation run => 3 ≤ run
  | .malformedFrame f => !f.taken
  | .announcementReceived f => f.taken && f.cls == 1
  | .reportOrNoticeReceived f => f.taken && f.cls == 2
  | .peerEntryRemoved station => 1 ≤ station && station ≤ 30
  | .unknownType via payload => via.wf payload.length && unknownPayload payload
  | .portWriteNoEffect address byte => address == 2 || (address == 1 && byte != 1 && byte != 2 && byte != 3)
  | .configure via params | .restart via params | .peerQuery via params | .cueTo via params | .jog via params
  | .loadCue via params | .dropCue via params | .roll via params | .loadZone via params | .clearZones via params
  | .setTransition via params | .selectA via params | .take via params | .pause via params | .resume via params
  | .allStop via params => via.wf (params.length + 1)
  | .statusPage0 via params | .transportStop via params | .transportStill via params | .transportPlay via params
  | .transportShuttle via params | .transportEject via params | .chaseEnable via params | .chaseStore via params
  | .chaseDisable via params | .abortTransportOp via params | .abortSegment via params => via.wf (params.length + 2)
  | .statusPage1 via params | .statusPage1Clear via params | .abortTransitionComplete via params
  | .abortTransitionRevert via params => via.wf (params.length + 3)
  | .powerUpReset _ | .refPulse _ _ _ | .refWatchExpires _ _ | .internalFieldStart _ | .returnWaitExpires _
  | .stopInput | .stopEmissionEnds | .stopEvent | .frameTransmitStart | .arbitrationLost | .ownFrameCollision _
  | .frameSent | .txqMessageExpires | .tachPulse _ | .codeWord _ | .jumpCandidateExpires | .codeLost
  | .tallyChange _ | .threadedFalls | .threadedRises | .tallyWaitRunsOut | .deckFaultQualified
  | .recoveryOffTimeEnds | .recoveryWaitRunsOut | .deferralExpired | .seekFailed | .lockDeclared | .lockLost
  | .pullTimeExceeded | .rerollOffTimeEnds | .gapEnds | .rollStart | .transitionCompletes | .assemblyByteWrite _
  | .send | .clear | .next | .receiveByteRead | .statusByteRead | .interruptMaskWrite _ | .stopInputReleased
  | .lineIdle => true

end Sys2Proof
end

