-- ==== Sys2Proof/Certificates/Slice0/Obligations.lean ====
section
/-! DEFINITION. The statements for the provers: what the numbered rules of spec/ say of each command and of the whole machine. -/

open Sys2Proof Sys2Proof.Machine

/-! ### The machine as a whole -/

/-- The command at the front of the queue is taken off it and executed with the queue's rest. On an empty queue the block idles: once
configured, the timer that runs gives its field start when its moment has come, the watch on REF in LOCKED_REF, the internal timer in
FALLBACK, the return wait after a skipped pulse (R43, R44, R46); otherwise a microsecond passes and nothing else. The queue, and that
time passes in idle steps, are the model's own (notes/assumptions/4.md and 7.md). -/
def Obligations.StepRunsTheFrontCommand : Prop :=
  (∀ (c : Instr) (rest : List Instr) (s : State),
    step { s with pending := c :: rest } = exec c { s with pending := rest }) ∧
  (∀ s : State, s.pending = [] →
    let waits : Prop := step s = .next { s with ftu := { s.ftu with now := s.ftu.now + 1 } }
    (s.dhd.config = none → waits) ∧
    (∀ c, s.dhd.config = some c →
      (s.ftu.refState = .lockedRef →
        let ends := max s.ftu.lastStart (s.ftu.accepted.getD 0) + c.standard.watchPeriod
        (s.ftu.now < ends → waits) ∧ (ends ≤ s.ftu.now → step s = exec (.refWatchExpires s.ftu.now s.pins.field) s)) ∧
      (s.ftu.refState = .fallback → s.ftu.returnStep = .idle → s.ftu.timerRunning = false → waits) ∧
      (s.ftu.refState = .fallback → s.ftu.returnStep = .idle → s.ftu.timerRunning = true →
        let ends := s.ftu.lastStart + c.standard.period
        (s.ftu.now < ends → waits) ∧ (ends ≤ s.ftu.now → step s = exec (.internalFieldStart s.pins.field) s)) ∧
      (∀ skipped, s.ftu.refState = .fallback → s.ftu.returnStep = .skipped → s.ftu.lastPulse = some skipped →
        let ends := skipped + c.standard.watchPeriod
        (s.ftu.now < ends → waits) ∧ (ends ≤ s.ftu.now → step s = exec (.returnWaitExpires s.pins.field) s))))

/-- POWER_UP_RESET puts every block at its power-up value for the straps and levels at the release (R9, R27, R37, R39, R40, R59,
R60, R80, R102, R121, R139, R154, R155, R171). The target and the standing request (notes/assumptions/17.md), the read byte (27.md),
the edge table with no pair yet (32.md), the two marks `fresh` (3.md), `pulseSeen`, the present moment and the absent moment of acceptance (4.md), and
the queue and the open choices kept (7.md, 3.md) are the model's own. -/
def Obligations.PowerUpResetSetsEveryBlock : Prop :=
  ∀ (pins : PowerUpPins) (s : State), ∃ t : State, exec (.powerUpReset pins) s = .next t ∧
    t.dhd = { stn := pins.stn, transportFitted := pins.trnFit, channelFitted := pins.tenFit, config := none,
              sense := none, events := 0 } ∧
    t.ftu = { now := 0, refState := .lockedRef, counter := 0, parity := .even, firstGiven := false, lastPulse := none,
              lastFieldStart := none, goodPulses := 0, returnStep := .idle, timerRunning := false, pulseSeen := false,
              accepted := none } ∧
    t.lif = { waiting := [], sending := none, heldAnn := none, watch := .afterReset, idle := false, emitting := false,
              stopLevel := pins.stopAsserted, duplicate := false,
              listenOnly := pins.stn == 0 || pins.stn == 31 } ∧
    t.psu = { source := .noSource, anchor := 0, p := 0, motion := 0, missing := 0, candidate := none, fieldTotal := 0,
              speed := 0 } ∧
    t.ptb = { entries := List.replicate 30 none, views := List.replicate 30 PeerView.absent } ∧
    t.tsq = { state := if pins.threaded then .stopped else .unthreaded, reqMode := .noMode, reqSpeed := 0,
              reqTrack := 0, matched := false, wait := none, faultCount := 0, recovery := .idle, pendingOp := none,
              slot := none, standing := .still } ∧
    t.csv = { state := .off, record := none, engagedBy := .nothing, followStep := .approaching, pullTimer := 0,
              lockRun := 0, blankRun := 0, rerolls := 0, offTime := 0, target := 0 } ∧
    t.cul = { cues := [], roll := none, pulses := 0 } ∧
    t.rcc = { state := .idle, record := none, gapCount := 0, zones := [], fresh := false } ∧
    t.ten = { state := .atRest, aSel := 0, bSel := 0, preset := none, k := 0, progress := 0, audio := 0,
              reversed := false, lastLever := none, outK := 0, outD := 0, gainA := 1024, gainB := 0, edges := [],
              fresh := false } ∧
    t.lpt = { buffer := [], overrun := false, rxQueue := [], outcome := .nothing, unread := false, maskRx := false,
              maskSend := false, readData := 0 } ∧
    t.pins = { tally := pins.tally, threaded := pins.threaded, field := pins.field } ∧ t.order = s.order ∧
    t.pending = s.pending

/-- The state after power-up reset meets every invariant below. -/
def Obligations.PowerUpStateIsLegal : Prop :=
  ∀ (pins : PowerUpPins) (order : FieldOrder) (queue : List Instr),
    (State.ofPins pins order queue).transportLegal ∧ (State.ofPins pins order queue).speedLegal ∧
    (State.ofPins pins order queue).masterLegal ∧ (State.ofPins pins order queue).peersLegal ∧
    (State.ofPins pins order queue).zonesLegal ∧ (State.ofPins pins order queue).cuesLegal ∧
    (State.ofPins pins order queue).levelsLegal ∧ (State.ofPins pins order queue).restLegal ∧
    (State.ofPins pins order queue).txqLegal ∧ (State.ofPins pins order queue).silentLegal ∧
    (State.ofPins pins order queue).flagsLegal ∧ (State.ofPins pins order queue).lineLegal ∧
    (State.ofPins pins order queue).portLegal ∧
    (State.ofPins pins order queue).positionLegal ∧ (State.ofPins pins order queue).clockLegal ∧
    (State.ofPins pins order queue).clearOfZones

/-- Every step keeps what the rules say of transport, chase and segment together: the requested deck mode is RECORD exactly
while the segment is RECORDING (R82), the transport is CHASING exactly while the chase is active, a chasing recorder
records only while LOCKED, the pending operation and the request agree with the transport state (R83, R87, R89, R95). -/
def Obligations.TransportStaysLegal : Prop :=
  ∀ s t : State, s.transportLegal → step s = .next t → t.transportLegal

/-- Every step keeps it that a chase in SEEKING, PULLING, LOCKED or FOLLOW_STILL has a stored record and a master that the most
recent field start found usable (R108, R110). -/
def Obligations.ChasedMasterStaysUsable : Prop :=
  ∀ s t : State, s.masterLegal → step s = .next t → t.masterLegal

/-- Every step keeps the protect zones ordered and disjoint and at most 8 (R151), the cues at most 32 and of distinct ids
(R123), and the 30 places of the Peer Table, the own number's empty (R50). -/
def Obligations.ListsStayLegal : Prop :=
  ∀ s t : State, s.zonesLegal → s.cuesLegal → s.peersLegal → step s = .next t →
    t.zonesLegal ∧ t.cuesLegal ∧ t.peersLegal

/-- Every step keeps the engine's levels in range with the gains adding to 1024, and the rest values standing in AT_REST and
PRESET, every edge pair (0, 0) among them, a preset held in every state but AT_REST (R154, R155). -/
def Obligations.LevelsStayInRange : Prop :=
  ∀ s t : State, s.levelsLegal → s.restLegal → step s = .next t → t.levelsLegal ∧ t.restLegal

/-- Every step keeps the transmit queue within 7 messages and one announcement, in order of class, and the old messages out of
it (R27, R28, R30); a listen-only station has nothing to send but an announcement let finish (R38); the flags agree (R37); and
while the line is idle the station takes frames and has nothing of its own on it (R22). -/
def Obligations.TransmitQueueStaysOrdered : Prop :=
  ∀ s t : State, s.txqLegal → s.silentLegal → s.flagsLegal → s.lineLegal → step s = .next t →
    t.txqLegal ∧ t.silentLegal ∧ t.flagsLegal ∧ t.lineLegal

/-- Every step keeps the requested speed word within plus or minus the shuttle limit (R81), the local port's buffer and receive
queue within their bounds (R171), the Position Unit's counts in their ranges, the motion of a jump candidate among them (R9), and the
field timing in agreement: no moment held is later than the present one, the good pulses are at most 8, the internal timer runs in
FALLBACK alone and not while a return pulse is skipped, and the reference state is LOCKED_REF before CONFIGURE (R40, R41, R43 to R46).
The present moment is the model's own field (notes/assumptions/4.md). -/
def Obligations.CountsStayInRange : Prop :=
  ∀ s t : State, step s = .next t →
    (s.speedLegal → t.speedLegal) ∧ (s.portLegal → t.portLegal) ∧ (s.positionLegal → t.positionLegal) ∧
    (s.clockLegal → t.clockLegal)

/-- After a field start no segment is RECORDING where the own position, or the position 128 fine units ahead, lies in a protect
zone (R141, R143, R144): the look-ahead ends a segment that runs toward a zone, and no RECORD_IN is accepted there. -/
def Obligations.NoRecordingInZoneAtFieldStart : Prop :=
  ∀ (i : Instr) (s t : State), s.transportLegal → s.dhd.transportFitted = true → exec i s = .next t →
    t.ftu.counter = s.ftu.counter + 1 → t.clearOfZones

/-- Until a power-up reset the straps as read stand, an accepted configuration stands whatever is commanded, and the duplicate
and listen-only flags once set stay set; a station becomes READY by a CONFIGURE alone, handed over by the line, by the end of
a collision (R35) or by SEND (R37, R60, R61). -/
def Obligations.IdentityAndConfigurationHold : Prop :=
  ∀ (i : Instr) (s t : State), i.wf = true → (∀ pins, i ≠ .powerUpReset pins) → exec i s = .next t →
    t.dhd.stn = s.dhd.stn ∧ t.dhd.transportFitted = s.dhd.transportFitted ∧
    t.dhd.channelFitted = s.dhd.channelFitted ∧
    (s.dhd.config.isSome = true → t.dhd.config = s.dhd.config) ∧
    (t.dhd.config.isSome = true → s.dhd.config = none →
      (∃ via p, i = .configure via p) ∨ (∃ f, i = .ownFrameCollision (.frame f)) ∨ i = .send) ∧
    (s.lif.duplicate = true → t.lif.duplicate = true) ∧ (s.lif.listenOnly = true → t.lif.listenOnly = true)

/-- A latched event leaves the set only where the whole set and the sense record are emptied: by STATUS page 1 with clear or by
RESTART, handed over by the line, by the end of a collision or by SEND, or by power-up reset (R74, R76, R78). -/
def Obligations.LatchedEventsStand : Prop :=
  ∀ (i : Instr) (s t : State) (e : Event), i.wf = true → exec i s = .next t → s.holdsEvent e = true →
    t.holdsEvent e = true ∨
      (t.dhd.sense = none ∧
        ((∃ via p, i = .statusPage1Clear via p) ∨ (∃ via p, i = .restart via p) ∨ i = .send ∨
          (∃ f, i = .ownFrameCollision (.frame f)) ∨ ∃ pins, i = .powerUpReset pins))

/-! ### Labels, counts and positions -/

/-- Every frame count of the day has a valid label whose count it is, and every valid label is the label of its count, under
each frame standard (R2 to R5). The signed difference of two positions lies in -V/2..V/2-1, takes the second back to the first,
and is -V/2 both ways for positions half a day apart (R8). -/
def Obligations.LabelsCountsAndDifferencesAgree : Prop :=
  (∀ (std : Standard) (c : Nat), c < std.framesPerDay → labelCount std (countLabel std c) = some c) ∧
  (∀ (std : Standard) (l : Label) (c : Nat), labelCount std l = some c → c < std.framesPerDay ∧ countLabel std c = l) ∧
  (∀ (std : Standard) (a b : Nat), a < std.day → b < std.day →
    -(std.day : Int) ≤ 2 * diff std.day a b ∧ 2 * diff std.day a b < std.day ∧
    wrapDay std.day ((b : Int) + diff std.day a b) = a ∧
    (2 * (a + (std.day - b)) % (2 * std.day) = std.day →
      2 * diff std.day a b = -(std.day : Int) ∧ 2 * diff std.day b a = -(std.day : Int)))

/-! ### The Position Unit -/

/-- A tach pulse in an active Position Unit with a position moves the own position by one pulse, the anchor rebased or not, and
counts in the field pulse total; a jump candidate is a pulse older, or gone past trunc(3 x TPF / 2); a whole frame of motion
with no word counts as missing in CODE, and past the dropout window makes the source TACH with CODE_LOST latched. In any other
unit the pulse counts in the field pulse total alone (R10, R11, R12, R17, R18). -/
def Obligations.TachPulseMovesThePosition : Prop :=
  ∀ (forward : Bool) (s : State), s.positionLegal →
    (∀ c, s.dhd.config = some c → s.dhd.transportFitted = true → s.pins.threaded = true → s.psu.source ≠ .noSource →
      ∃ t : State, exec (.tachPulse forward) s = .next t ∧
        t.own = some (wrapDay c.standard.day
          ((s.psu.anchor : Int) * 256 + Int.tdiv ((s.psu.p + if forward then 1 else -1) * 256) c.tpf)) ∧
        t.psu.fieldTotal = s.psu.fieldTotal + (if forward then 1 else -1) ∧ t.psu.speed = s.psu.speed ∧
        t.psu.motion = (if s.psu.motion + 1 < c.tpf then s.psu.motion + 1 else 0) ∧
        (s.psu.candidate = none → t.psu.candidate = none) ∧
        (∀ k, s.psu.candidate = some k →
          t.psu.candidate =
            if 3 * c.tpf / 2 < k.motion + 1 then none else some { jump := k.jump, motion := k.motion + 1 }) ∧
        (s.psu.motion + 1 < c.tpf ∨ s.psu.source = .tach →
          t.psu.source = s.psu.source ∧ t.psu.missing = s.psu.missing ∧ t = { s with psu := t.psu }) ∧
        (c.tpf ≤ s.psu.motion + 1 → s.psu.source = .code →
          (s.psu.missing < c.dropoutWindow →
            t.psu.source = .code ∧ t.psu.missing = s.psu.missing + 1 ∧ t = { s with psu := t.psu }) ∧
          (c.dropoutWindow ≤ s.psu.missing →
            t.psu.source = .tach ∧ t.psu.missing = c.dropoutWindow + 1 ∧
              t = { s.latch .codeLost with psu := t.psu }))) ∧
    (s.dhd.config = none ∨ s.dhd.transportFitted = false ∨ s.pins.threaded = false ∨ s.psu.source = .noSource →
      exec (.tachPulse forward) s =
        .next { s with psu := { s.psu with fieldTotal := s.psu.fieldTotal + if forward then 1 else -1 } })

/-- A valid code word in an active Position Unit: adopted when there is no position, when it agrees within 384, and, with
CODE_JUMP, when it confirms the jump candidate within 256; otherwise it becomes the candidate. An invalid word, and any
word while the unit is inactive, changes nothing (R10, R13 to R16). -/
def Obligations.CodeWordIsJudged : Prop :=
  ∀ (label : Label) (s : State),
    (∀ c n, s.dhd.config = some c → s.dhd.transportFitted = true → s.pins.threaded = true →
      labelCount c.standard label = some n →
      let adopted : Psu :=
        { s.psu with source := .code, anchor := n, p := 0, motion := 0, missing := 0, candidate := none }
      (s.psu.source = .noSource → exec (.codeWord label) s = .next { s with psu := adopted }) ∧
      (∀ x, s.own = some x →
        let j := diff c.standard.day (n * 256) x
        (j.natAbs ≤ 384 → exec (.codeWord label) s = .next { s with psu := adopted }) ∧
        (384 < j.natAbs → s.psu.candidate = none →
          exec (.codeWord label) s = .next { s with psu := { s.psu with candidate := some { jump := j, motion := 0 } } }) ∧
        (∀ k, 384 < j.natAbs → s.psu.candidate = some k → (j - k.jump).natAbs ≤ 256 →
          exec (.codeWord label) s = .next ({ s with psu := adopted }.latch .codeJump)) ∧
        (∀ k, 384 < j.natAbs → s.psu.candidate = some k → 256 < (j - k.jump).natAbs →
          exec (.codeWord label) s =
            .next { s with psu := { s.psu with candidate := some { jump := j, motion := 0 } } }))) ∧
    (∀ c, s.dhd.config = some c → labelCount c.standard label = none → exec (.codeWord label) s = .next s) ∧
    (s.dhd.config = none ∨ s.dhd.transportFitted = false ∨ s.pins.threaded = false →
      exec (.codeWord label) s = .next s)

/-- The two rows that name a tach pulse's last step, as commands by themselves: JUMP_CANDIDATE_EXPIRES discards a candidate whose
motion stands at trunc(3 x TPF / 2) or more, which R17 discards when the next pulse takes it past that; CODE_LOST takes a missing
count that stands at the dropout window in CODE one past it, the source TACH and CODE_LOST latched, which R18 does at the next whole
frame of motion. That the rows are taken by themselves, at these counts, and change nothing short of them, is the model's choice
(notes/assumptions/2.md); what a tach pulse does is in TachPulseMovesThePosition. -/
def Obligations.CandidateExpiresAndCodeIsLost : Prop :=
  ∀ (s : State) (c : Settings), s.dhd.config = some c →
    (∀ k, s.psu.candidate = some k → 3 * c.tpf / 2 ≤ k.motion →
      exec .jumpCandidateExpires s = .next { s with psu := { s.psu with candidate := none } }) ∧
    (∀ k, s.psu.candidate = some k → k.motion < 3 * c.tpf / 2 → exec .jumpCandidateExpires s = .next s) ∧
    (s.psu.source = .code → c.dropoutWindow ≤ s.psu.missing →
      exec .codeLost s =
        .next ({ s with psu := { s.psu with source := .tach, missing := c.dropoutWindow + 1 } }.latch .codeLost)) ∧
    (s.psu.source ≠ .code ∨ s.psu.missing < c.dropoutWindow → exec .codeLost s = .next s)

/-! ### Field timing -/

/-- Who gives a field start, and what the Field Timing Unit then holds: every REF pulse before CONFIGURE and, up to the end of the
watch, in LOCKED_REF, with its own parity, at the moment it carries (R41, R43); the watch on REF run out, 1.25 nominal periods after the later of the last field
start and the acceptance of CONFIGURE, which enters FALLBACK with REF_LOST latched, while nothing comes of it sooner (R43); the internal
timer, one nominal period after the last field start (R44); and the wait after a skipped return pulse, 1.25 after that pulse (R46). The
last three take the opposite parity, the moment of each is the end of its timer, and none gives a field start where its timer does not
run. After each the watch runs from that field start. A REF pulse that carries a moment past the end of the timer that runs comes after
that timer's field start, as if that row had been taken before it: a pulse too late for the watch finds FALLBACK, one too late for
the return wait finds the wait given up, and one past the end of a field of the internal timer is judged by the field start after
it (R43, R44, R46). The lines at such a field start are those that stood before the pulse (notes/assumptions/5.md). That moments are whole microseconds, that time comes to such a moment as its
row is taken and never goes back, that the moment of acceptance is held until the next field start, and what `pulseSeen` marks, are the
model's own (notes/assumptions/4.md). -/
def Obligations.FieldStartsAreGiven : Prop :=
  (∀ (parity : Parity) (moment : Nat) (pins : FieldPins) (s : State),
    let comes := max s.ftu.now moment
    s.dhd.config = none ∨
      (s.ftu.refState = .lockedRef ∧ ∀ c, s.dhd.config = some c →
        comes ≤ max s.ftu.lastStart (s.ftu.accepted.getD 0) + c.standard.watchPeriod) →
    ∃ t : State, exec (.refPulse parity moment pins) s = .next t ∧
      t.ftu = { s.ftu with
        now := comes, lastPulse := some comes, counter := s.ftu.counter + 1, parity := parity, firstGiven := true,
        lastFieldStart := some (comes, .pulse), accepted := none } ∧
      t.pins = { s.pins with field := pins }) ∧
  (∀ (moment : Nat) (pins : FieldPins) (s : State) (c : Settings), s.dhd.config = some c → s.ftu.refState = .lockedRef →
    let ends := max s.ftu.lastStart (s.ftu.accepted.getD 0) + c.standard.watchPeriod
    (ends ≤ max s.ftu.now moment →
      ∃ t : State, exec (.refWatchExpires moment pins) s = .next t ∧
        t.ftu = { s.ftu with
          now := max s.ftu.now ends, refState := .fallback, timerRunning := true, goodPulses := 0, returnStep := .idle,
          pulseSeen := false, counter := s.ftu.counter + 1, parity := s.ftu.parity.opposite, firstGiven := true,
          lastFieldStart := some (ends, .internal), accepted := none } ∧
        t.pins = { s.pins with field := pins } ∧ t.holdsEvent .refLost = true) ∧
    (max s.ftu.now moment < ends → exec (.refWatchExpires moment pins) s = .next s)) ∧
  (∀ (pins : FieldPins) (s : State) (c : Settings), s.dhd.config = some c → s.ftu.timerRunning = true →
    let ends := s.ftu.lastStart + c.standard.period
    ∃ t : State, exec (.internalFieldStart pins) s = .next t ∧
      t.ftu = { s.ftu with
        now := max s.ftu.now ends, counter := s.ftu.counter + 1, parity := s.ftu.parity.opposite, firstGiven := true,
        lastFieldStart := some (ends, .internal), accepted := none } ∧
      t.pins = { s.pins with field := pins }) ∧
  (∀ (pins : FieldPins) (s : State) (c : Settings) (skipped : Nat), s.dhd.config = some c →
    s.ftu.refState = .fallback → s.ftu.returnStep = .skipped → s.ftu.lastPulse = some skipped →
    let ends := skipped + c.standard.watchPeriod
    ∃ t : State, exec (.returnWaitExpires pins) s = .next t ∧
      t.ftu = { s.ftu with
        now := max s.ftu.now ends, timerRunning := true, returnStep := .idle, goodPulses := 0,
        counter := s.ftu.counter + 1, parity := s.ftu.parity.opposite, firstGiven := true,
        lastFieldStart := some (ends, .internal), accepted := none } ∧
      t.pins = { s.pins with field := pins }) ∧
  (∀ (moment : Nat) (pins : FieldPins) (s : State),
    (s.dhd.config = none ∨ s.ftu.refState ≠ .lockedRef → exec (.refWatchExpires moment pins) s = .next s) ∧
    (s.dhd.config = none ∨ s.ftu.timerRunning = false → exec (.internalFieldStart pins) s = .next s) ∧
    (s.dhd.config = none ∨ s.ftu.returnStep = .idle → exec (.returnWaitExpires pins) s = .next s)) ∧
  (∀ (parity : Parity) (moment : Nat) (pins : FieldPins) (s : State) (c : Settings), s.dhd.config = some c →
    let comes := max s.ftu.now moment
    let pulse : Instr := .refPulse parity moment pins
    let follows (row : Instr) : Prop :=
      ∃ t : State, exec row s = .next t ∧ t.ftu.counter = s.ftu.counter + 1 ∧ exec pulse s = exec pulse t
    (s.ftu.refState = .lockedRef → max s.ftu.lastStart (s.ftu.accepted.getD 0) + c.standard.watchPeriod < comes →
      follows (.refWatchExpires comes s.pins.field)) ∧
    (s.ftu.refState = .fallback → s.ftu.returnStep = .idle → s.ftu.timerRunning = true →
      s.ftu.lastStart + c.standard.period < comes → follows (.internalFieldStart s.pins.field)) ∧
    (∀ skipped, s.ftu.refState = .fallback → s.ftu.returnStep = .skipped → s.ftu.lastPulse = some skipped →
      skipped + c.standard.watchPeriod < comes → follows (.returnWaitExpires s.pins.field)))

/-- A REF pulse in FALLBACK that comes before the internal timer's next field start or with it, at the moment it carries or, where that is gone by, at the present one (the model's own,
notes/assumptions/4.md): the first, or one more than 1.25 nominal periods after the pulse before it, starts a new run; a good one is counted up to 8; the one after that returns to LOCKED_REF with a field start when half a nominal period or
more has passed since the last internal field start, and is skipped otherwise; the next good pulse after a skipped one returns
(R45, R46). Unless it returns, the pulse changes the Field Timing Unit alone. -/
def Obligations.FallbackPulsesAreCounted : Prop :=
  ∀ (parity : Parity) (given : Nat) (pins : FieldPins) (s : State) (c : Settings), s.dhd.config = some c →
    s.ftu.refState = .fallback →
    let moment := max s.ftu.now given
    let inTime : Prop := s.ftu.timerRunning = true → moment ≤ s.ftu.lastStart + c.standard.period
    let good : Prop := ∃ before, s.ftu.lastPulse = some before ∧ moment - before ≤ c.standard.watchPeriod
    let returned : Ftu :=
      { s.ftu with
        now := moment, refState := .lockedRef, timerRunning := false, goodPulses := 0, returnStep := .idle, lastPulse := some moment,
        counter := s.ftu.counter + 1, parity := parity, firstGiven := true, lastFieldStart := some (moment, .pulse),
        accepted := none }
    (s.ftu.pulseSeen = false ∨ ¬good → s.ftu.returnStep = .idle → inTime →
      exec (.refPulse parity given pins) s =
        .next { s with ftu := { s.ftu with now := moment, goodPulses := 0, lastPulse := some moment, pulseSeen := true } }) ∧
    (s.ftu.pulseSeen = true → good → s.ftu.returnStep = .idle → inTime → s.ftu.goodPulses < 8 →
      exec (.refPulse parity given pins) s =
        .next { s with ftu := { s.ftu with now := moment, goodPulses := s.ftu.goodPulses + 1, lastPulse := some moment } }) ∧
    (s.ftu.pulseSeen = true → good → s.ftu.returnStep = .idle → inTime → 8 ≤ s.ftu.goodPulses →
      c.standard.halfPeriod ≤ moment - s.ftu.lastStart →
      ∃ t : State, exec (.refPulse parity given pins) s = .next t ∧ t.ftu = returned ∧ t.pins = { s.pins with field := pins }) ∧
    (s.ftu.pulseSeen = true → good → s.ftu.returnStep = .idle → inTime → 8 ≤ s.ftu.goodPulses →
      moment - s.ftu.lastStart < c.standard.halfPeriod →
      exec (.refPulse parity given pins) s =
        .next { s with ftu := { s.ftu with
          now := moment, timerRunning := false, returnStep := .skipped, lastPulse := some moment, pulseSeen := true } }) ∧
    (good → s.ftu.returnStep = .skipped →
      ∃ t : State, exec (.refPulse parity given pins) s = .next t ∧ t.ftu = returned ∧ t.pins = { s.pins with field := pins })

/-- What every field start does beside the laws of the deck, the chase, the cues and the segment, once given: the measured speed
is taken from the pulse total and the total begins again (R19); every Peer Table entry of age 251 or more is removed and the
others stand (R54); the view of a held entry is fresh to age 8 and stale after, with the stored speed, transport state, chase
summary, master and REF_LOST flag, and the projection of R55 where the entry is fresh and holds a position at a READY station and
none otherwise; it is absent, with no projection, for a FOREIGN one and for the own number (R55, R56). The configuration, the zones, the stored chase record and the port's buffer stand. -/
def Obligations.FieldStartMeasuresAndAges : Prop :=
  ∀ (i : Instr) (pins : FieldPins) (s t : State), givesFieldStart i pins s → exec i s = .next t →
    t.ftu.counter = s.ftu.counter + 1 →
    t.psu = { s.psu with
      fieldTotal := 0,
      speed := match s.dhd.config with
        | some c => clampInt (-32767) 32767 (Int.tdiv (s.psu.fieldTotal * 2048) c.tpf)
        | none => 0 } ∧
    (∀ n, s.peer n = none → t.peer n = none) ∧
    (∀ n e, s.peer n = some e →
      t.peer n = if 251 ≤ (s.ftu.counter + 1 - e.stamp).toNat then none else some e) ∧
    (∀ n e, t.peer n = some e → e.foreign = false → s.isOwn n = false →
      (t.view n).presence = (if (t.ftu.counter - e.stamp).toNat ≤ 8 then .fresh else .stale) ∧
      (t.view n).speed = e.content.speed ∧ (t.view n).transport = e.content.transport ∧
      (t.view n).chaseSummary = e.content.chaseSummary ∧ (t.view n).master = e.content.master ∧
      (t.view n).refLost = e.content.flags.getLsbD 0 ∧
      (s.dhd.config = none ∨ e.content.position = none ∨ 8 < (t.ftu.counter - e.stamp).toNat →
        (t.view n).projection = none) ∧
      (∀ c x, s.dhd.config = some c → e.content.position = some x → (t.ftu.counter - e.stamp).toNat ≤ 8 →
        (t.view n).projection = some (wrapDay c.standard.day
          ((x : Int) + Int.tdiv (e.content.speed * (t.ftu.counter - e.stamp).toNat) 8)))) ∧
    (∀ n, t.peer n = none ∨ s.isOwn n = true ∨ (∃ e, t.peer n = some e ∧ e.foreign = true) →
      (t.view n).presence = .absent ∧ (t.view n).projection = none) ∧
    t.dhd.config = s.dhd.config ∧ t.rcc.zones = s.rcc.zones ∧ t.csv.record = s.csv.record ∧
    t.lpt.buffer = s.lpt.buffer ∧ t.pins = { s.pins with field := pins }

/-- At every field start one announcement of the state then standing is handed to the transmit queue, with the low 8 bits of the
field count for its sequence: it takes the place of the one that waits, or is held while the old one is on the line, and a
listen-only station discards it (R28, R38, R48, R49). Every other message is a field older: one that waits leaves at age 16 with
TX_DROPPED latched, the others stand in their order, and one on the line goes on (R30). -/
def Obligations.FieldStartAnnounces : Prop :=
  ∀ (i : Instr) (pins : FieldPins) (s t : State), givesFieldStart i pins s → exec i s = .next t →
    t.ftu.counter = s.ftu.counter + 1 →
    let composed : TxMsg :=
      { kind := .announce, dest := 0, seq := (s.ftu.counter + 1).setWidth 8, payload := t.announcementPayload, age := 0 }
    (s.lif.listenOnly = false → (s.lif.sending.all fun x => !x.msg.isAnn) = true →
      t.lif.waiting.filter TxMsg.isAnn = [composed]) ∧
    (s.lif.listenOnly = false → (s.lif.sending.any fun x => x.msg.isAnn) = true → t.lif.heldAnn = some composed) ∧
    (s.lif.listenOnly = true → s.lif.waiting = [] → s.lif.heldAnn = none → t.lif.waiting = [] ∧ t.lif.heldAnn = none) ∧
    t.announcementPayload =
      [t.stationByte, t.standardByte, t.fittedByte, t.transportByte, t.psu.source.toByte] ++ bytesInt16 t.psu.speed ++
        [t.csv.state.summary, t.masterByte, t.recordingByte, t.ten.state.toByte] ++ bytes16 t.ten.progress ++
        [t.announcementFlags] ++ (match t.own with | some x => bytes32 x | none => []) ∧
    ((s.lif.waiting.filter fun m => m.kind ≠ .announce ∧ m.age < 15).map fun m => { m with age := m.age + 1 }).Sublist
      t.lif.waiting ∧
    (∀ m ∈ t.lif.waiting, m.kind = .announce ∨ m.age < 16) ∧
    ((∃ m ∈ s.lif.waiting, m.kind ≠ .announce ∧ 15 ≤ m.age) → t.holdsEvent .txDropped = true) ∧
    t.lif.sending = s.lif.sending.map fun x =>
      if x.msg.kind = .announce then x else { x with msg := { x.msg with age := x.msg.age + 1 } }

/-- At a field start a transition that was RUNNING moves on by one field: k rises by 1, P is 1024k / N up to 1024, Pa the same of k
less the split, gB is Pa and gA is 1024 - Pa; past both ends it completes, the new source on the A bus, the preset gone and the
rest values standing, every edge pair (0, 0) among them (R155, R159, R162, R163). A MIX shows K = P, a DIP its fade to black and up again (R160), and a WIPE on each line the
samples R161 places inside it and no other. One in LEVER follows the lever, completing at the far end, where alone its direction changes, and
back in PRESET at the near one, the rest values standing at either, and is PAUSED when the lever goes; one in PRESET or PAUSED is picked up within 16 of its progress by a lever that has moved, and otherwise
stands as it was, a PAUSED one unstepped (R164, R166 to R168). -/
def Obligations.TransitionStepsAtFieldStarts : Prop :=
  ∀ (i : Instr) (pins : FieldPins) (s t : State) (p : Preset), givesFieldStart i pins s → exec i s = .next t →
    t.ftu.counter = s.ftu.counter + 1 → s.dhd.channelFitted = true → s.ten.preset = some p → p.kind ≠ .cut →
    1 ≤ p.duration →
    let n := 2 * p.duration
    let k := s.ten.k + 1
    let u := pins.lever.toNat
    let lever := (if s.ten.reversed then 1023 - u else u) * 1024 / 1023
    let lines := s.lineCount
    let inside (w : Pattern) (x y : Nat) : Prop :=
      match w with
      | .leftRight => 1024 * x < 720 * t.ten.progress
      | .rightLeft => 1024 * (719 - x) < 720 * t.ten.progress
      | .topDown => 1024 * y < t.ten.progress * lines
      | .splitH => 1024 * (2 * (x : Int) + 1 - 720).natAbs < 720 * t.ten.progress
      | .boxOut =>
        1024 * (2 * (x : Int) + 1 - 720).natAbs < 720 * t.ten.progress ∧
          1024 * (2 * (y : Int) + 1 - lines).natAbs < t.ten.progress * lines
    let drawn : Prop :=
      (p.kind = .mix → t.ten.outK = t.ten.progress ∧ t.ten.outD = 0) ∧
      (p.kind = .dip →
        (t.ten.progress < 512 → t.ten.outK = 0 ∧ t.ten.outD = 2 * t.ten.progress) ∧
        (512 ≤ t.ten.progress → t.ten.outK = 1024 ∧ t.ten.outD = 2048 - 2 * t.ten.progress)) ∧
      (p.pattern = none → t.ten.edges = List.replicate lines (0, 0)) ∧
      (∀ w, p.kind = .wipe → p.pattern = some w →
        t.ten.outK = 0 ∧ t.ten.outD = 0 ∧ t.ten.edges.length = lines ∧
          ∀ y l r, t.ten.edges[y]? = some (l, r) →
            (∀ x, x < 720 → (inside w x y ↔ l ≤ x ∧ x < r)) ∧ ((∀ x, x < 720 → ¬inside w x y) → l = 0 ∧ r = 0))
    let rests : Prop :=
      t.ten.progress = 0 ∧ t.ten.audio = 0 ∧ t.ten.outK = 0 ∧ t.ten.outD = 0 ∧ t.ten.gainA = 1024 ∧ t.ten.gainB = 0 ∧
        t.ten.edges = List.replicate lines (0, 0)
    let stands : Prop := t.ten = { s.ten with lastLever := some u, fresh := false }
    let judged : Prop :=
      (lever = 1024 →
        t.ten.state = .atRest ∧ t.ten.preset = none ∧ t.ten.aSel = p.toSource ∧ t.ten.reversed = !s.ten.reversed ∧
        t.ten.k = 0 ∧ rests) ∧
      (lever = 0 →
        t.ten.state = .preset ∧ t.ten.preset = some p ∧ t.ten.aSel = s.ten.aSel ∧ t.ten.reversed = s.ten.reversed ∧
        t.ten.k = 0 ∧ rests) ∧
      (0 < lever → lever < 1024 →
        t.ten.state = .lever ∧ t.ten.preset = some p ∧ t.ten.progress = lever ∧ t.ten.audio = lever ∧
          t.ten.gainB = lever ∧ t.ten.gainA = 1024 - lever ∧ drawn ∧ t.ten.reversed = s.ten.reversed ∧
          t.ten.aSel = s.ten.aSel)
    let taken (from_ : Nat) : Prop :=
      p.leverAllowed = true ∧ pins.leverPresent = true ∧ s.ten.lastLever.isSome = true ∧ s.ten.lastLever ≠ some u ∧
        ((lever : Int) - from_).natAbs ≤ 16
    (s.ten.state = .running →
      (k < n ∨ (k : Int) - p.split < n →
        t.ten.state = .running ∧ t.ten.k = k ∧ t.ten.preset = some p ∧
        t.ten.progress = (if n ≤ k then 1024 else k * 1024 / n) ∧
        t.ten.audio = (clampInt 0 n ((k : Int) - p.split)).toNat * 1024 / n ∧
        t.ten.gainB = t.ten.audio ∧ t.ten.gainA = 1024 - t.ten.audio ∧ drawn ∧ t.ten.aSel = s.ten.aSel) ∧
      (n ≤ k → (n : Int) ≤ (k : Int) - p.split →
        t.ten.state = .atRest ∧ t.ten.preset = none ∧ t.ten.aSel = p.toSource ∧ t.ten.k = 0 ∧ rests) ∧
      t.ten.reversed = s.ten.reversed) ∧
    ((∀ c ∈ s.cul.cues, c.action ≠ .transitionStart) →
      (s.ten.state = .lever →
        (pins.leverPresent = false →
          t.ten = { s.ten with
            state := .paused, k := s.ten.progress * n / 1024, lastLever := some u, fresh := false }) ∧
        (pins.leverPresent = true → judged)) ∧
      (s.ten.state = .preset → (taken 0 → judged) ∧ (¬taken 0 → stands)) ∧
      (s.ten.state = .paused → (taken s.ten.progress → judged) ∧ (¬taken s.ten.progress → stands))) ∧
    t.ten.bSel = s.ten.bSel ∧ t.ten.lastLever = some u

/-- The cues at a field start. One alone in the list, with no trigger, comes to fire; with one, and a reference that is the own tape
or a peer with a usable view, it is PENDING while the reference does not move forward or is outside the horizon or past the window,
ARMED within 250 frames before the trigger, comes to fire within 2 frames after it, and, once ARMED, is missed with LATE past that
and with REF_STALE without a position (R126 to R128, R132). Coming to fire, it is missed with NOT_LOCKED where an entry of its lock
list is not LOCKED, and a RECORD_IN with NO_REFERENCE in FALLBACK; a PULSE is asserted for one field (R129, R131). On a deck at work
on nothing else each other action is taken by its owner, as R130 hands it over, or missed with the owner's code, RECORD_IN from
PLAYING and from a LOCKED chase alike, and the notify station is sent the outcome (R101, R107, R133, R141, R142, R146, R149, R158).
Of several PULSE cues each is judged by the same views, those that stay keep their order, and the notices join in list order; a
RECORD_IN after a RECORD_OUT finds the segment in its gap, and a CHASE_ENGAGE after a MODE STOP finds the deck STOPPED (R134). That
the cues come after the TSQ's and the CSV's work, so that a missed cue's sense record is the last written where the others fail at
the same field start, is the model's own order (notes/assumptions/18.md, R73 and R132), as is a due roll before them (21.md);
whether the RCC and the TEN work before them is left open (3.md); the sequence 0 of a cue's MODE record is the model's own (39.md). -/
def Obligations.CuesAreJudgedAtFieldStarts : Prop :=
  ∀ (i : Instr) (pins : FieldPins) (s t : State), givesFieldStart i pins s → exec i s = .next t →
    t.ftu.counter = s.ftu.counter + 1 →
    let position (c : Cue) : Option Nat :=
      if c.reference = 0 then s.own
      else if (t.view c.reference).usable then (t.view c.reference).projection else none
    let speed (c : Cue) : Int := if c.reference = 0 then t.psu.speed else (t.view c.reference).speed
    let locked (n : Nat) : Prop :=
      if n = 0 then t.csv.state = .locked
      else (t.view n).presence = .fresh ∧ (t.view n).chaseSummary = 2
    let settled : Prop :=
      s.dhd.transportFitted = true ∧ s.dhd.channelFitted = true ∧ s.tsq.wait = none ∧ s.tsq.recovery = .idle ∧
        s.tsq.slot = none ∧ s.tsq.pendingOp = none ∧ s.tsq.state ≠ .cueing ∧ s.cul.roll = none ∧
        pins.deckFault = false ∧ pins.leverPresent = false
    ((∀ c ∈ s.cul.cues, ∀ n, c.action ≠ .pulse n) → t.cul.pulses = 0) ∧
    (∀ c, s.cul.cues = [c] →
      let stays (armed : Bool) : Prop := t.cul.cues = [{ c with armed := armed }] ∧ t.cul.pulses = 0
      let missed (code : Code) : Prop :=
        t.cul.cues = [] ∧ t.cul.pulses = 0 ∧ t.holdsEvent .cueMissed = true ∧
          (s.rcc.state ≠ .recording →
            t.dhd.sense = some
              { code := code, origin := .cue c.id, address := (position c).map (· / 256), nextFrame := none,
                remaining := none })
      let isRecordIn : Prop := ∃ m d g, c.action = .recordIn m d g
      let comes : Prop :=
        (0 ∈ c.lockList → c.action ≠ .chaseRelease ∧ c.action ≠ .mode .stop) →
          ((∃ n ∈ c.lockList, ¬locked n) → missed .notLocked) ∧
          ((∀ n ∈ c.lockList, locked n) → isRecordIn → t.ftu.refState = .fallback → missed .noReference) ∧
          (∀ n, (∀ n ∈ c.lockList, locked n) → c.action = .pulse n →
            t.cul.cues = [] ∧ t.cul.pulses = BitVec.ofNat 4 (2 ^ (n - 1)))
      (c.trigger = none → comes) ∧
      (∀ f cfg x, c.trigger = some f → s.dhd.config = some cfg → position c = some x →
        let d := diff cfg.standard.day x (f * 256)
        (speed c ≤ 0 ∨ d < -64000 ∨ (512 ≤ d ∧ c.armed = false) → stays false) ∧
        (0 < speed c → -64000 ≤ d → d < 0 → stays true) ∧
        (0 < speed c → 0 ≤ d → d < 512 → comes) ∧
        (0 < speed c → 512 ≤ d → c.armed = true → missed .late)) ∧
      (∀ f, c.trigger = some f → position c = none →
        (c.armed = true → missed .refStale) ∧ (c.armed = false → stays false)) ∧
      (∀ cfg, c.trigger = none → c.lockList = [] → s.dhd.config = some cfg → settled →
        let own := s.own.getD 0
        let near : Prop :=
          ∃ z ∈ s.rcc.zones, (z.start ≤ own ∧ own < z.stop) ∨
            (z.start ≤ wrapDay cfg.standard.day ((own : Int) + 128) ∧ wrapDay cfg.standard.day ((own : Int) + 128) < z.stop)
        let noticed (reason : Code) : Prop :=
          ∀ n, c.notify = some n → s.rcc.state = .idle →
            let payload : List Byte := [1, byteOf c.id, if reason = .done then 0 else 1, reason.value]
            let seq : Byte := t.ftu.counter.setWidth 8
            (s.isOwn n = true → s.lpt.rxQueue.length < 8 →
              t.lpt.rxQueue = s.lpt.rxQueue ++
                [{ bytes := [s.sourceNumber.setWidth 8, 3, seq, 4] ++ payload, place := 0 }]) ∧
            (s.isOwn n = false → s.lif.listenOnly = false → s.lif.nonAnnouncements < 7 →
              { kind := .notice, dest := BitVec.ofNat 5 n, seq := seq, payload := payload, age := 0 } ∈ t.lif.waiting)
        let turned (code : Code) : Prop := missed code ∧ noticed code
        let done : Prop :=
          t.cul.cues = [] ∧ t.holdsEvent .cueMissed = s.holdsEvent .cueMissed ∧ noticed .done
        let cueRecord : PendingOp :=
          { kind := .mode, issuer := .nobody, seq := 0, origin := .cue c.id, target := 0, reversals := 0, lastSign := none }
        let clamped (word : Int) : Int := clampInt (-(cfg.shuttleLimit : Int)) cfg.shuttleLimit word
        (∀ m d g, c.action = .recordIn m d g → t.ftu.refState = .lockedRef → s.rcc.state = .idle →
          (s.csv.state = .off ∨ s.tsq.state = .chasing) →
          let chased : Prop := s.tsq.state = .chasing ∧ t.csv.state = .locked
          (s.pins.threaded = false → turned .noTape) ∧
          (s.pins.threaded = true →
            (s.tsq.state ≠ .playing → ¬chased → turned .transportNotReady) ∧
            (s.tsq.state = .playing ∨ chased →
              (pins.inhibit = true → turned .recordInhibited) ∧
              (pins.inhibit = false →
                (s.psu.source ≠ .code → turned .noCode) ∧
                (s.psu.source = .code → near → turned .isProtected) ∧
                (s.psu.source = .code → ¬near →
                  done ∧ t.rcc.state = .recording ∧
                  t.rcc.record = some
                    { origin := c.id, inFrame := own / 256, mask := m, duration := d, remaining := d,
                      lastFrame := (((own / 256 : Nat) - 1 : Int) % (cfg.standard.framesPerDay : Int)).toNat,
                      guardKind := g, lockList := [], notify := c.notify } ∧
                  t.tsq.reqMode = .record ∧ (s.tsq.reqMode ≠ .record → t.tsq.reqTrack = m) ∧
                  (s.tsq.state = .playing → t.tsq.state = .recording ∧ t.tsq.reqSpeed = clamped 1024) ∧
                  (chased →
                    t.tsq.state = .chasing ∧
                      ∀ r x, s.csv.record = some r → (t.view r.master).projection = some x →
                        let e := diff cfg.standard.day (wrapDay cfg.standard.day ((x : Int) + r.offset)) own
                        t.tsq.reqSpeed =
                          clamped ((t.view r.master).speed + clampInt (-r.pullSpeed) r.pullSpeed (Int.tdiv e 4)))))))) ∧
        (c.action = .recordOut →
          (s.csv.state = .off → s.rcc.state = .idle → turned .notRecording) ∧
          (∀ g, s.csv.state = .off → s.rcc.state = .recording → s.rcc.record = some g → s.tsq.state = .recording →
            t.cul.cues = [] ∧ t.rcc.state ≠ .recording ∧ t.tsq.state = .playing ∧ t.tsq.reqMode = .play ∧
              (s.rcc.zones = [] → g.duration = none → g.guardKind = .lenient →
                t.dhd.sense = s.dhd.sense ∧ t.holdsEvent .cueMissed = s.holdsEvent .cueMissed ∧
                  s.SegmentNoticed t g .done (s.recordedTo g)))) ∧
        (c.action = .transitionStart → s.csv.state = .off → s.rcc.state = .idle →
          (∀ p, s.ten.state = .preset → s.ten.preset = some p →
            done ∧ (p.kind ≠ .cut → 1 ≤ p.duration → t.ten.state = .running ∧ t.ten.k = 0 ∧ t.ten.progress = 0) ∧
              (p.kind = .cut ∨ p.duration = 0 → t.ten.state = .atRest ∧ t.ten.aSel = p.toSource)) ∧
          (s.ten.state = .atRest → turned .noPreset) ∧
          (s.ten.state = .paused ∨ s.ten.state = .lever → turned .transitionActive)) ∧
        (∀ mode, c.action = .mode mode → s.csv.state = .off → s.rcc.state = .idle →
          (s.tsq.state = .unthreaded → turned .noTape) ∧
          (s.tsq.state ≠ .unthreaded → s.tsq.state ≠ .faulted → mode = .stop →
            done ∧ t.tsq.state = .stopped ∧ t.tsq.reqMode = .stop) ∧
          (s.tsq.state = .recording ∨ s.tsq.state = .faulted ∨ s.tsq.state = .ejecting → mode ≠ .stop →
            turned .transportNotReady) ∧
          (s.tsq.state ≠ .unthreaded → s.tsq.state ≠ .recording → s.tsq.state ≠ .faulted → s.tsq.state ≠ .ejecting →
            (mode = .still → done ∧ t.tsq.state = .still ∧ t.tsq.reqMode = .still) ∧
            (mode = .play → done ∧ t.tsq.state = .playing ∧ t.tsq.reqMode = .play ∧
              (s.tsq.reqMode ≠ .play → s.pins.tally ≠ .play → t.tsq.pendingOp = some cueRecord)))) ∧
        (c.action = .chaseEngage → s.csv.state = .off → s.rcc.state = .idle →
          (s.csv.record = none → turned .noChaseRecord) ∧
          (s.csv.record.isSome = true →
            (s.tsq.state = .unthreaded → turned .noTape) ∧
            (s.tsq.state ≠ .unthreaded → s.psu.source = .noSource → turned .positionUnknown) ∧
            (s.tsq.state ≠ .unthreaded → s.psu.source ≠ .noSource →
              (s.tsq.state = .recording → turned .recordingActive) ∧
              (s.tsq.state = .ejecting ∨ s.tsq.state = .faulted → turned .transportNotReady) ∧
              (s.tsq.state ≠ .recording → s.tsq.state ≠ .ejecting → s.tsq.state ≠ .faulted →
                done ∧ t.csv.state ≠ .off ∧ t.csv.engagedBy = .cue c.id ∧ t.csv.record = s.csv.record ∧
                  t.tsq.state = .chasing)))) ∧
        (c.action = .chaseRelease → s.rcc.state = .idle →
          (s.csv.state = .off → done) ∧
          (s.csv.state ≠ .off → s.csv.record.isSome = true → s.tsq.state = .chasing →
            done ∧ t.csv.state = .off ∧ t.tsq.state = .still ∧ t.tsq.reqMode = .still)))) ∧
    (s.cuesLegal → (∀ c ∈ s.cul.cues, ∃ n, c.action = .pulse n ∧ 1 ≤ n ∧ n ≤ 4) →
      let stays (c : Cue) (armed : Bool) : Prop :=
        ∃ f, c.trigger = some f ∧
          ((position c = none ∧ c.armed = false ∧ armed = false) ∨
            ∃ cfg x, s.dhd.config = some cfg ∧ position c = some x ∧
              let d := diff cfg.standard.day x (f * 256)
              ((speed c ≤ 0 ∨ d < -64000 ∨ (512 ≤ d ∧ c.armed = false)) ∧ armed = false) ∨
                (0 < speed c ∧ -64000 ≤ d ∧ d < 0 ∧ armed = true))
      let fires (c : Cue) : Prop :=
        (∀ n ∈ c.lockList, locked n) ∧
          (c.trigger = none ∨ ∃ f cfg x, c.trigger = some f ∧ s.dhd.config = some cfg ∧ position c = some x ∧
            0 < speed c ∧ 0 ≤ diff cfg.standard.day x (f * 256) ∧ diff cfg.standard.day x (f * 256) < 512)
      let noticeOf (c : Cue) : RxMsg :=
        { bytes := [s.sourceNumber.setWidth 8, 3, t.ftu.counter.setWidth 8, 4, 1, byteOf c.id, 0, 0], place := 0 }
      (t.cul.cues.map (·.id)).Sublist (s.cul.cues.map (·.id)) ∧
      (∀ c ∈ s.cul.cues, ∀ armed, stays c armed → { c with armed := armed } ∈ t.cul.cues) ∧
      (∀ c ∈ s.cul.cues, (∀ armed, ¬stays c armed) → ∀ x ∈ t.cul.cues, x.id ≠ c.id) ∧
      (∀ n, n < 4 → (t.cul.pulses.getLsbD n = true ↔ ∃ c ∈ s.cul.cues, c.action = .pulse (n + 1) ∧ fires c)) ∧
      (∀ before c between d after n, s.cul.cues = before ++ c :: (between ++ d :: after) → fires c → fires d →
        c.notify = some n → d.notify = some n → s.isOwn n = true → s.lpt.rxQueue.length + s.cul.cues.length ≤ 8 →
        s.rcc.state ≠ .recording → s.cul.roll = none → s.tsq.slot = none → (∀ o, s.tsq.pendingOp = some o → o.kind = .mode) →
        [noticeOf c, noticeOf d].Sublist (t.lpt.rxQueue.drop s.lpt.rxQueue.length))) ∧
    (∀ a b cfg, s.cul.cues = [a, b] → a.trigger = none → b.trigger = none → a.lockList = [] → b.lockList = [] →
      s.dhd.config = some cfg → settled →
      ((∃ m d g, b.action = .recordIn m d g) → a.action = .recordOut → 1 ≤ cfg.turnaround → s.pins.threaded = true →
        t.ftu.refState = .lockedRef → s.rcc.state = .recording → s.rcc.record.isSome = true → s.tsq.state = .recording →
        s.csv.state = .off →
        t.cul.cues = [] ∧ t.rcc.state = .gap ∧ t.holdsEvent .cueMissed = true ∧
          (t.dhd.sense.map fun x => (x.code, x.origin)) = some (.segmentBusy, .cue b.id)) ∧
      (a.action = .mode .stop → b.action = .chaseEngage → s.rcc.state = .idle → s.csv.record.isSome = true →
        s.psu.source ≠ .noSource → s.tsq.state ≠ .unthreaded → s.tsq.state ≠ .faulted →
        t.cul.cues = [] ∧ t.csv.state ≠ .off ∧ t.csv.engagedBy = .cue b.id ∧ t.tsq.state = .chasing))

/-- A segment RECORDING at a field start, on a settled recorder that is not chasing or whose chase stays LOCKED, with no cue or
roll to act: it ends by emergency out with PROTECTED where the tape or the place 128 fine units ahead lies in a zone, the frame
before the zone the last recorded; it ends normally once its duration is reached; a STRICT one ends with NO_REFERENCE in
FALLBACK, with CODE_LOST on tach, and with REF_STALE or NOT_LOCKED for the first peer of its lock list that is not fresh or not
LOCKED; a LENIENT one, or a STRICT one with none of these, goes on with the frame of the tape as its last recorded one. A
chasing recorder that leaves LOCKED ends it with LOCK_LOST. Every end sends the notify station a SEGMENT_NOTICE. The gap after a
segment counts down by one and is IDLE at 0 (R140, R143 to R150). That LOCK_LOST comes before a zone, the duration or a guard of the
same field start, which R147 leaves open, is the model's own order, the CSV's work before the RCC's (notes/assumptions/18.md). -/
def Obligations.SegmentIsJudgedAtFieldStarts : Prop :=
  ∀ (i : Instr) (pins : FieldPins) (s t : State), givesFieldStart i pins s → exec i s = .next t →
    t.ftu.counter = s.ftu.counter + 1 → s.cul.cues = [] → s.cul.roll = none →
    (s.rcc.state = .gap →
      (s.rcc.gapCount ≤ 1 → t.rcc = { s.rcc with state := .idle, gapCount := 0, fresh := false }) ∧
      (1 < s.rcc.gapCount → t.rcc = { s.rcc with gapCount := s.rcc.gapCount - 1, fresh := false })) ∧
    (∀ (c : Settings) (g : Segment) (x : Nat), s.dhd.config = some c → s.dhd.transportFitted = true →
      s.rcc.state = .recording → s.rcc.record = some g → s.own = some x → s.tsq.wait = none → s.tsq.recovery = .idle →
      s.tsq.slot = none → pins.deckFault = false →
      let w := c.standard.framesPerDay
      let ahead := wrapDay c.standard.day ((x : Int) + 128)
      let near (z : Zone) : Prop := (z.start ≤ x ∧ x < z.stop) ∨ (z.start ≤ ahead ∧ ahead < z.stop)
      let remaining (last : Nat) : Option Nat :=
        g.duration.map fun d => d - (((last : Int) + 1 - g.inFrame) % (w : Int)).toNat
      let free : Prop := s.tsq.state = .recording ∧ s.csv.state = .off
      let chased : Prop :=
        s.tsq.state = .chasing ∧ s.tsq.reqMode = .record ∧ s.csv.state = .locked ∧ s.csv.record.isSome = true
      let gone : Prop :=
        t.rcc.record = none ∧ t.rcc.state = (if c.turnaround = 0 then .idle else .gap) ∧
          t.rcc.gapCount = 2 * c.turnaround
      let ended : Prop :=
        gone ∧ (free → t.tsq.state = .playing ∧ t.tsq.reqMode = .play) ∧
          (chased → t.tsq.state = .chasing ∧ t.tsq.reqMode = .var)
      let cutOut (code : Code) (last : Nat) : Prop :=
        gone ∧ t.holdsEvent .segmentAborted = true ∧
          t.dhd.sense = some
            { code := code, origin := .cue g.origin, address := some last, nextFrame := some ((last + 1) % w),
              remaining := remaining last } ∧
          s.SegmentNoticed t g code (last, remaining last)
      let aborted (code : Code) (last : Nat) : Prop := ended ∧ cutOut code last
      let sound (n : Nat) : Prop := n = 0 ∨ ((t.view n).presence = .fresh ∧ (t.view n).chaseSummary = 2)
      let held : Prop := t.ftu.refState = .lockedRef ∧ s.psu.source = .code
      (chased → t.csv.state ≠ .locked →
        cutOut .lockLost (x / 256) ∧ t.holdsEvent .lockLost = true ∧ t.tsq.state = .chasing ∧ t.tsq.reqMode ≠ .record) ∧
      (free ∨ (chased ∧ t.csv.state = .locked) →
        (∀ before z after, s.rcc.zones = before ++ z :: after → near z → (∀ y ∈ before, ¬near y) →
          aborted .isProtected (((z.start / 256 : Nat) - 1 : Int) % (w : Int)).toNat) ∧
        ((∀ z ∈ s.rcc.zones, ¬near z) →
          (∀ d, g.duration = some d → 0 ≤ diff c.standard.day x ((g.inFrame + d) % w * 256) →
            ended ∧ t.dhd.sense = s.dhd.sense ∧
              s.SegmentNoticed t g .done ((((g.inFrame + d : Nat) - 1 : Int) % (w : Int)).toNat, some 0)) ∧
          ((∀ d, g.duration = some d → diff c.standard.day x ((g.inFrame + d) % w * 256) < 0) →
            (g.guardKind = .strict → t.ftu.refState = .fallback → aborted .noReference (x / 256)) ∧
            (g.guardKind = .strict → t.ftu.refState = .lockedRef → s.psu.source = .tach →
              aborted .codeLost (x / 256)) ∧
            (∀ before n after, g.guardKind = .strict → held → g.lockList = before ++ n :: after →
              (∀ m ∈ before, sound m) → ¬sound n →
              aborted (if (t.view n).presence = .fresh then .notLocked else .refStale) (x / 256)) ∧
            (g.guardKind = .lenient ∨ (held ∧ ∀ n ∈ g.lockList, sound n) →
              t.rcc = { s.rcc with
                record := some { g with lastFrame := x / 256, remaining := remaining (x / 256) }, fresh := false }))) ∧
        t.rcc.zones = s.rcc.zones ∧ (free → t.csv = s.csv)))

/-- An active chase at a field start, with no segment RECORDING, no tally wait at its end, a sound deck and no cue or roll to act:
WAITING with STILL requested where the master is not usable; otherwise the target is the master's projection and the offset. A
REROLL counts its off-time with STILL standing and seeks at its end. Else FOLLOW_STILL for a master at rest, where an APPROACHING
chase asks for VAR at an eighth of the error, or for STILL within 128 and is PARKED where that stands matched, holds a STILL not yet
matched, and a PARKED one approaches again past 256; SEEKING from beyond
the threshold at the seek law's speed, PULLING within it at the pull law's with the lock run and the pull timer counted, LOCKED
at the eighth of the run, LOCKED kept in the window or for fewer fields out of it than the blanking count, and past the pull
time a REROLL while retries are left and FAILED after (R109 to R118). -/
def Obligations.ChaseActsAtFieldStarts : Prop :=
  ∀ (i : Instr) (pins : FieldPins) (s t : State) (c : Settings) (r : ChaseRecord), givesFieldStart i pins s →
    exec i s = .next t → t.ftu.counter = s.ftu.counter + 1 → s.dhd.config = some c → s.dhd.transportFitted = true →
    s.csv.record = some r → s.csv.state ≠ .off → s.csv.state ≠ .failed → s.tsq.state = .chasing →
    (∀ w, s.tsq.wait = some w → w.settle + 1 < c.settleLimit) →
    s.tsq.recovery = .idle → s.tsq.slot = none → s.rcc.state ≠ .recording → s.cul.cues = [] → s.cul.roll = none →
    pins.deckFault = false →
    let v := t.view r.master
    (v.usable = false →
      t.csv.state = .waiting ∧ t.tsq.reqMode = .still ∧ t.csv.pullTimer = 0 ∧ t.csv.lockRun = 0 ∧ t.csv.blankRun = 0 ∧
        t.csv.offTime = 0 ∧ t.csv.rerolls = s.csv.rerolls ∧ (s.csv.state = .locked → t.holdsEvent .lockLost = true)) ∧
    (∀ x own, v.usable = true → v.projection = some x → s.own = some own →
      let target := wrapDay c.standard.day ((x : Int) + r.offset)
      let e := diff c.standard.day target own
      let far := c.standard.seekThreshold
      let clamped (speed : Int) : Int := clampInt (-(c.shuttleLimit : Int)) c.shuttleLimit speed
      let sought : Prop :=
        t.csv.state = .seeking ∧ t.tsq.reqMode = .var ∧
          t.tsq.reqSpeed = clamped (v.speed + signOf e * ((min (e.natAbs / 8) c.shuttleLimit : Nat) : Int))
      let seeks : Prop := sought ∧ t.csv.pullTimer = 0 ∧ t.csv.lockRun = 0
      let pulls : Prop :=
        t.tsq.reqMode = .var ∧ t.tsq.reqSpeed = clamped (v.speed + clampInt (-r.pullSpeed) r.pullSpeed (Int.tdiv e 4))
      let overdue : Prop :=
        t.tsq.reqMode = .still ∧ t.csv.pullTimer = 0 ∧ t.csv.lockRun = 0 ∧
          (s.csv.rerolls < r.retries →
            t.csv.state = .reroll ∧ t.csv.rerolls = s.csv.rerolls + 1 ∧ t.csv.offTime = 0) ∧
          (r.retries ≤ s.csv.rerolls →
            t.csv.state = .failed ∧ t.holdsEvent .chaseFailed = true ∧
              t.dhd.sense = some
                { code := .chaseFailed, origin := s.csv.engagedBy, address := some (own / 256), nextFrame := none,
                  remaining := none })
      let parked : Prop := s.csv.state = .followStill ∧ s.csv.followStep = .parked
      t.csv.target = target ∧
      (s.csv.state = .reroll →
        (s.csv.offTime + 1 < r.rerollOffTime →
          t.csv = { s.csv with offTime := s.csv.offTime + 1, target := target } ∧ t.tsq.reqMode = s.tsq.reqMode) ∧
        (r.rerollOffTime ≤ s.csv.offTime + 1 → sought ∧ t.csv.offTime = 0)) ∧
      (s.csv.state ≠ .reroll → v.speed.natAbs < 32 →
        t.csv.state = .followStill ∧ t.csv.pullTimer = 0 ∧ t.csv.lockRun = 0 ∧ t.csv.blankRun = 0 ∧
          (s.csv.state = .locked → t.holdsEvent .lockLost = true) ∧
          (parked → e.natAbs ≤ 256 →
            t.csv.followStep = .parked ∧ t.tsq.reqMode = s.tsq.reqMode ∧ t.tsq.matched = s.tsq.matched) ∧
          (¬parked ∨ 256 < e.natAbs →
            (s.tsq.reqMode = .still → s.tsq.matched = false →
              t.csv.followStep = .approaching ∧ t.tsq.reqMode = .still ∧ t.tsq.matched = false) ∧
            (s.tsq.reqMode ≠ .still ∨ s.tsq.matched = true →
              (128 < e.natAbs →
                t.csv.followStep = .approaching ∧ t.tsq.reqMode = .var ∧
                  t.tsq.reqSpeed = clamped (signOf e * clampInt 128 c.shuttleLimit ((e.natAbs / 8 : Nat) : Int))) ∧
              (e.natAbs ≤ 128 →
                t.tsq.reqMode = .still ∧
                  (s.tsq.reqMode = .still ∨ s.pins.tally = .still →
                    t.csv.followStep = .parked ∧ t.tsq.matched = true) ∧
                  (s.tsq.reqMode ≠ .still → s.pins.tally ≠ .still →
                    t.csv.followStep = .approaching ∧ t.tsq.matched = false ∧
                      t.tsq.wait = some { settle := 0, busy := 0 }))))) ∧
      (32 ≤ v.speed.natAbs →
        (s.csv.state = .waiting ∨ s.csv.state = .seeking ∨ s.csv.state = .followStill →
          (far < e.natAbs → seeks) ∧
          (e.natAbs ≤ far → 1 ≤ r.pullTimeLimit →
            pulls ∧ t.csv.state = .pulling ∧ t.csv.pullTimer = 1 ∧
              t.csv.lockRun = if e.natAbs ≤ r.lockWindow then 1 else 0)) ∧
        (s.csv.state = .pulling →
          (2 * far < e.natAbs → seeks) ∧
          (e.natAbs ≤ 2 * far → s.csv.pullTimer < r.pullTimeLimit →
            (r.lockWindow < e.natAbs →
              pulls ∧ t.csv.state = .pulling ∧ t.csv.lockRun = 0 ∧ t.csv.pullTimer = s.csv.pullTimer + 1) ∧
            (e.natAbs ≤ r.lockWindow → s.csv.lockRun < 7 →
              pulls ∧ t.csv.state = .pulling ∧ t.csv.lockRun = s.csv.lockRun + 1 ∧
                t.csv.pullTimer = s.csv.pullTimer + 1)) ∧
          (e.natAbs ≤ 2 * far → e.natAbs ≤ r.lockWindow → 7 ≤ s.csv.lockRun →
            pulls ∧ t.csv.state = .locked ∧ t.csv.lockRun = 0 ∧ t.csv.pullTimer = 0 ∧ t.csv.rerolls = 0) ∧
          (e.natAbs ≤ 2 * far → r.pullTimeLimit ≤ s.csv.pullTimer → r.lockWindow < e.natAbs ∨ s.csv.lockRun < 7 →
            overdue)) ∧
        (s.csv.state = .locked →
          pulls ∧
            (e.natAbs ≤ r.lockWindow → t.csv.state = .locked ∧ t.csv.blankRun = 0) ∧
            (r.lockWindow < e.natAbs → s.csv.blankRun + 1 < r.blankingCount →
              t.csv.state = .locked ∧ t.csv.blankRun = s.csv.blankRun + 1) ∧
            (r.lockWindow < e.natAbs → r.blankingCount ≤ s.csv.blankRun + 1 →
              t.csv.state = .pulling ∧ t.csv.pullTimer = 0 ∧ t.holdsEvent .lockLost = true)))) ∧
    t.csv.record = some r ∧ t.tsq.state = .chasing

/-! ### The suite line -/

/-- The STOP input newly asserted makes the station drive the stop signal, whatever it was sending being cut short; held asserted it
does nothing more; released it can be asserted again; and the emission's end leaves the line to others (R33). -/
def Obligations.StopInputEmitsOnce : Prop :=
  ∀ s : State,
    (s.lif.stopLevel = false → s.lif.listenOnly = false →
      ∃ t : State, exec .stopInput s = .next t ∧ t.lif.emitting = true ∧ t.lif.stopLevel = true ∧ t.lif.sending = none ∧
        (s.lif.watch = .steady → t.lif.watch = .abandoned) ∧
        (s.lif.sending = none →
          t = { s with lif := { s.lif with
            stopLevel := true, emitting := true, idle := false,
            watch := if s.lif.watch = .steady then .abandoned else s.lif.watch } })) ∧
    (s.lif.stopLevel = true → exec .stopInput s = .next s) ∧
    exec .stopInputReleased s = .next { s with lif := { s.lif with stopLevel := false } } ∧
    exec .stopEmissionEnds s = .next { s with lif := { s.lif with emitting := false } }

/-- One stop event at every station for one signal: ALL_STOP latched, the frame on the line cut short, the chase OFF, the cue list
and the ROLL slot emptied, no segment RECORDING and the one that was noticed with ALL_STOPPED, a RUNNING transition PAUSED with everything else of it kept, a threaded
configured deck brought to STOP with nothing pending or held; position, field count, peers, configuration, zones and the stored
chase record stand. Within the same signal, and before the first idle line, a further run is no event (R34, R39, R98, R120, R137,
R147, R149, R169). A listen-only station takes the same event from its own STOP input (R38). -/
def Obligations.StopEventStopsTheStation : Prop :=
  ∀ s : State, (s.rcc.state = .recording → s.rcc.record.isSome = true) →
    let stopped (t : State) : Prop :=
      t.holdsEvent .allStop = true ∧ t.csv.state = .off ∧ t.csv.record = s.csv.record ∧ t.cul.cues = [] ∧
      t.cul.roll = none ∧ t.cul.pulses = s.cul.pulses ∧ t.rcc.state ≠ .recording ∧ t.rcc.zones = s.rcc.zones ∧
      t.ten = { s.ten with state := if s.ten.state = .running then .paused else s.ten.state } ∧
      (∀ g, s.rcc.state = .recording → s.rcc.record = some g → s.cul.cues = [] → s.nothingToReport →
        s.SegmentNoticed t g .allStopped (s.recordedTo g)) ∧
      (s.dhd.transportFitted = true → s.dhd.config.isSome = true → s.tsq.state ≠ .unthreaded →
        t.tsq.pendingOp = none ∧ t.tsq.slot = none ∧
        (s.tsq.state ≠ .faulted → t.tsq.state = .stopped ∧ t.tsq.reqMode = .stop)) ∧
      t.psu = s.psu ∧ t.ftu = s.ftu ∧ t.ptb = s.ptb ∧ t.pins = s.pins ∧ t.dhd.config = s.dhd.config ∧
      t.lif.listenOnly = s.lif.listenOnly ∧ t.lpt.buffer = s.lpt.buffer ∧ t.order = s.order ∧ t.pending = s.pending
    (s.lif.watch = .steady ∨ s.lif.watch = .abandoned →
      ∃ t : State, exec .stopEvent s = .next t ∧ t.lif.watch = .stopSignal ∧ t.lif.idle = false ∧
        t.lif.sending = none ∧ stopped t) ∧
    (s.lif.watch = .stopSignal ∨ s.lif.watch = .afterReset → exec .stopEvent s = .next s.lineBusy) ∧
    (s.lif.listenOnly = true → s.lif.stopLevel = false → ∃ t : State, exec .stopInput s = .next t ∧ stopped t)

/-- A dominant run: up to two bit periods are a frame's own and make the line busy; from a third to the 39th it is a coding
violation that latches LINE_ERROR, and no frame is taken until the line has been idle; from the 40th it is the stop signal (R22,
R23, R34). The idle line makes the station take frames and lets it send again (R22, R23, R33, R39); that a run of any length is
one command (notes/assumptions/14.md), and that LINE_IDLE does nothing while the station holds the line dominant or has a frame
on it (notes/assumptions/30.md), is the model's choice. A frame with a wrong check word, or that R24 calls malformed, is
discarded with LINE_ERROR latched and nothing else but the busy line, but that one with a length field above 32 keeps the
station from frames until the line is idle. -/
def Obligations.BadFramesAreDiscarded : Prop :=
  (∀ (run : Nat) (s : State),
    (1 ≤ run → run ≤ 2 → exec (.codingViolation run) s = .next s.lineBusy) ∧
    (3 ≤ run → run < 40 → s.lif.watch = .steady →
      ∃ t : State, exec (.codingViolation run) s = .next t ∧ t.lif.watch = .abandoned ∧ t.lif.sending = none ∧
        t.holdsEvent .lineError = true ∧
        (s.lif.sending = none →
          t = { s.latch .lineError with lif := { s.lif with watch := .abandoned, idle := false } })) ∧
    (3 ≤ run → run < 40 → s.lif.watch ≠ .steady → exec (.codingViolation run) s = .next s.lineBusy) ∧
    (40 ≤ run → exec (.codingViolation run) s = exec .stopEvent s) ∧
    (s.lif.emitting = false → s.lif.sending = none →
      exec .lineIdle s = .next { s with lif := { s.lif with watch := .steady, idle := true } }) ∧
    (s.lif.emitting = true ∨ s.lif.sending ≠ none → exec .lineIdle s = .next s)) ∧
  (∀ (f : Frame) (s : State), s.lif.watch = .steady →
    (checkWord f.coveredBits ≠ f.check ∨ f.cls = 3 ∨ (f.cls = 0 ∧ f.kind ≠ 0) ∨ (f.cls = 1 ∧ f.kind ≠ 1) ∨
      (f.cls = 2 ∧ f.kind ≠ 2 ∧ f.kind ≠ 3) ∨ f.source = 0 ∨ f.source = 31 ∨ f.dest = 31 ∨
      (f.cls = 1 ∧ f.dest ≠ 0) ∨ 32 < f.payload.length) →
    exec (.malformedFrame f) s =
      .next { s.latch .lineError with lif := { s.lif with
        watch := if 32 < f.payload.length then .abandoned else .steady, idle := false } })

/-- At an idle line the head of the transmit queue goes on the line as a good frame with the parity of the field now running and the
message's own class, kind, destination, sequence and payload, but that a ROLL's delay is less its age; a ROLL too old for that
is discarded with TX_DROPPED and the next message is begun instead. A station that is listen-only, sending, emitting or finds
the line not idle begins nothing, and the start bit makes the line busy (R22, R25, R26, R31, R38). The levels of every frame, its
stuff bits after any two dominant ones among them, hold no third dominant period in a row, take at most 453 bit periods for the
longest payload, and give a receiver back the frame with every field of its header, its payload and its check word (R22). -/
def Obligations.HeadOfQueueIsBegun : Prop :=
  (∀ (s : State) (m : TxMsg) (rest : List TxMsg), s.lif.waiting = m :: rest →
    (s.lif.idle = true → s.lif.watch = .steady → s.lif.emitting = false → s.lif.listenOnly = false → s.lif.sending = none →
      ((∀ delay q, m.kind = .directive → m.payload = 0x0B :: delay :: q → m.age < delay.toNat) →
        ∃ f : Frame, exec .frameTransmitStart s =
            .next { s with lif := { s.lif with
              waiting := rest, sending := some { msg := m, frame := f, leaves := false }, idle := false } } ∧
          f.parity = s.ftu.parity ∧ f.cls = m.kind.cls ∧ f.kind = m.kind.field ∧ f.dest = m.dest ∧ f.seq = m.seq ∧
          f.source = s.sourceNumber ∧ checkWord f.coveredBits = f.check ∧
          ((∀ delay q, m.kind = .directive → m.payload ≠ 0x0B :: delay :: q) → f.payload = m.payload) ∧
          (∀ delay q, m.kind = .directive → m.payload = 0x0B :: delay :: q →
            f.payload = 0x0B :: byteOf (delay.toNat - m.age) :: q)) ∧
      (∀ delay q, m.kind = .directive → m.payload = 0x0B :: delay :: q → delay.toNat ≤ m.age →
        exec .frameTransmitStart s =
          exec .frameTransmitStart { s.latch .txDropped with lif := { s.lif with waiting := rest } })) ∧
    (s.lif.idle = false ∨ s.lif.watch ≠ .steady ∨ s.lif.emitting = true ∨ s.lif.listenOnly = true ∨ s.lif.sending ≠ none →
      exec .frameTransmitStart s = .next s)) ∧
  (∀ f : Frame, f.payload.length < 64 →
    Frame.ofLineBits f.lineBits = some f ∧ (∀ a b, f.lineBits ≠ a ++ [false, false, false] ++ b) ∧
      (f.payload.length ≤ 32 → f.lineBits.length ≤ 453))

/-- How a message leaves the line. Sent, it leaves the transmit queue. Having lost arbitration it is at the head of its class
again, unless it is of age 16 or more, which discards it with TX_DROPPED at once (R30 says before the next transmission begins;
the moment in that span is the model's choice, notes/assumptions/42.md), or is an announcement that a new one replaces, or
RESTART has emptied the queue of it. The announcement held meanwhile takes its place either way. Messages one field short of
age 16 are discarded as they reach it, with TX_DROPPED, but one on the line goes on with age 16 (R25, R26, R28, R30, R39); that
TXQ_MESSAGE_EXPIRES is a command of its own, taken at age 15, is the model's choice (notes/assumptions/2.md). The mark that RESTART
leaves on the message on the line is inferred (notes/assumptions/9.md), and that such a message goes with no TX_DROPPED at any age, 16
included, R39 taken over R30, is the model's choice (notes/assumptions/37.md). -/
def Obligations.MessagesLeaveTheLine : Prop :=
  ∀ (s : State),
    (∀ x, s.lif.sending = some x →
      (s.lif.heldAnn = none →
        exec .frameSent s = .next { s with lif := { s.lif with sending := none } } ∧
        (x.leaves = true → exec .arbitrationLost s = .next { s with lif := { s.lif with sending := none } }) ∧
        (x.leaves = false → x.msg.kind = .announce ∨ x.msg.age < 16 →
          exec .arbitrationLost s =
            .next { s with lif := { s.lif with
              sending := none,
              waiting := s.lif.waiting.takeWhile (fun m => m.kind.cls < x.msg.kind.cls) ++
                x.msg :: s.lif.waiting.dropWhile (fun m => m.kind.cls < x.msg.kind.cls) } }) ∧
        (x.leaves = false → x.msg.kind ≠ .announce → 16 ≤ x.msg.age →
          exec .arbitrationLost s =
            .next { s.latch .txDropped with lif := { s.lif with sending := none } })) ∧
      (∀ new, s.lif.heldAnn = some new → x.msg.kind = .announce →
        let placed : State := { s with lif := { s.lif with
          sending := none, heldAnn := none,
          waiting := s.lif.waiting.takeWhile (fun m => m.kind.cls ≤ new.kind.cls) ++
            new :: s.lif.waiting.dropWhile (fun m => m.kind.cls ≤ new.kind.cls) } }
        exec .frameSent s = .next placed ∧ exec .arbitrationLost s = .next placed)) ∧
    (s.lif.sending = none → exec .frameSent s = .next s ∧ exec .arbitrationLost s = .next s) ∧
    (let kept := s.lif.waiting.filter fun m => m.kind = .announce ∨ m.age < 15
      let onLine := s.lif.sending.map fun x =>
        if x.msg.age = 15 ∧ x.msg.kind ≠ .announce then { x with msg := { x.msg with age := 16 } } else x
      (kept = s.lif.waiting →
        exec .txqMessageExpires s = .next { s with lif := { s.lif with sending := onLine } }) ∧
      (kept ≠ s.lif.waiting →
        exec .txqMessageExpires s =
          .next { s.latch .txDropped with lif := { s.lif with waiting := kept, sending := onLine } }))

/-- A station that meets a twin, by the announcement of another station with its own number or by a good frame of its own number
that met its own on the line, becomes duplicate: both flags set, DUPLICATE_STATION latched, the transmit queue emptied with no
TX_DROPPED (R35 to R38). A collision that ends in any other way keeps the message in the queue, and the frame is received, or is
the coding violation, or the stop signal's (R35). DUPLICATE_STATION for a flag already set is left out (notes/assumptions/25.md). -/
def Obligations.TwinMakesTheStationDuplicate : Prop :=
  ∀ (f : Frame) (s : State),
    (s.lif.watch = .steady → f.taken = true → f.cls = 1 → s.isOwn f.source.toNat = true → s.lif.duplicate = false →
      (s.lif.sending = none →
        exec (.announcementReceived f) s =
          .next { s.latch .duplicateStation with lif := { s.lif with
            idle := false, duplicate := true, listenOnly := true, waiting := [], heldAnn := none } }) ∧
      (∀ x, s.lif.sending = some x → x.msg.kind = .announce →
        exec (.announcementReceived f) s =
          .next { s.latch .duplicateStation with lif := { s.lif with
            idle := false, duplicate := true, listenOnly := true, waiting := [], heldAnn := none,
            sending := some { x with leaves := true } } })) ∧
    (s.lif.sending.isSome = true → f.taken = true → s.isOwn f.source.toNat = true → s.lif.duplicate = false →
      exec (.ownFrameCollision (.frame f)) s =
        .next { s.latch .duplicateStation with lif := { s.lif with
          idle := false, duplicate := true, listenOnly := true, waiting := [], heldAnn := none, sending := none } }) ∧
    (s.lif.sending.isSome = true →
      ∃ u, exec .arbitrationLost s = .next u ∧
        (s.isOwn f.source.toNat = false ∨ f.taken = false →
          exec (.ownFrameCollision (.frame f)) s = exec (.malformedFrame f) u) ∧
        exec (.ownFrameCollision .codingViolation) s =
          .next { u.latch .lineError with lif := { u.lif with watch := .abandoned, idle := false } } ∧
        exec (.ownFrameCollision .stopSignal) s =
          .next { u with lif := { u.lif with watch := .abandoned, idle := false } }) ∧
    (s.lif.sending = none → ∀ ending, exec (.ownFrameCollision ending) s = .next s)

/-- A good announcement from another station is stamped by its parity and stored where the entry is empty or its stamp is older,
the content whole with FOREIGN judged afresh; one not later, or before the first field start, is discarded. No other entry and
nothing else changes but the line, which every frame makes busy (R22, R51 to R53). An entry of age 251 or more at the next field
start is removed (R54); that PEER_ENTRY_REMOVED is a command of its own, taken before that field start, and does nothing for a younger
entry, is the model's choice (notes/assumptions/2.md). A good report or notice for the own number joins the end of the receive queue
with its source, kind, sequence, length and payload, or is discarded with RX_DROPPED when 8 messages are there; one for another
station is not taken (R32, R175). -/
def Obligations.ReceivedMessagesAreStored : Prop :=
  (∀ (f : Frame) (s : State), s.lif.watch = .steady → f.taken = true → f.cls = 1 → s.isOwn f.source.toNat = false →
    (f.payload.length = 14 ∨ f.payload.length = 18) →
    let stamp := if f.parity = s.ftu.parity then s.ftu.counter else s.ftu.counter - 1
    let content := announcementFields f.payload
    let entry : PeerEntry :=
      { stamp := stamp, content := content,
        foreign := match s.dhd.config with
          | some c => content.standard != c.standard.toByte
          | none => false }
    let stored := { s.lineBusy with ptb := { s.ptb with entries := s.ptb.entries.set (f.source.toNat - 1) (some entry) } }
    (s.ftu.firstGiven = false → exec (.announcementReceived f) s = .next s.lineBusy) ∧
    (s.ftu.firstGiven = true → s.peer f.source.toNat = none → exec (.announcementReceived f) s = .next stored) ∧
    (∀ old, s.ftu.firstGiven = true → s.peer f.source.toNat = some old →
      (1 ≤ (stamp - old.stamp).toNat → (stamp - old.stamp).toNat ≤ 2147483647 →
        exec (.announcementReceived f) s = .next stored) ∧
      ((stamp - old.stamp).toNat = 0 ∨ 2147483647 < (stamp - old.stamp).toNat →
        exec (.announcementReceived f) s = .next s.lineBusy))) ∧
  (∀ (station : Nat) (e : PeerEntry) (s : State), 1 ≤ station → s.peer station = some e →
    (251 ≤ (s.ftu.counter + 1 - e.stamp).toNat →
      exec (.peerEntryRemoved station) s =
        .next { s with ptb := { s.ptb with entries := s.ptb.entries.set (station - 1) none } }) ∧
    ((s.ftu.counter + 1 - e.stamp).toNat < 251 → exec (.peerEntryRemoved station) s = .next s)) ∧
  (∀ (f : Frame) (s : State), s.lif.watch = .steady → f.taken = true → f.cls = 2 →
    (s.isOwn f.dest.toNat = true → s.lpt.rxQueue.length < 8 →
      exec (.reportOrNoticeReceived f) s =
        .next { s.lineBusy with lpt := { s.lpt with rxQueue := s.lpt.rxQueue ++
          [{ bytes := [f.source.setWidth 8, f.kind.setWidth 8, f.seq, BitVec.ofNat 8 f.payload.length] ++ f.payload,
             place := 0 }] } }) ∧
    (s.isOwn f.dest.toNat = true → 8 ≤ s.lpt.rxQueue.length →
      exec (.reportOrNoticeReceived f) s = .next (s.lineBusy.latch .rxDropped)) ∧
    (s.isOwn f.dest.toNat = false → exec (.reportOrNoticeReceived f) s = .next s.lineBusy))

/-! ### The deck -/

/-- A tally change that shows the mode a running wait is for satisfies it (R83), and what waited for it comes about: a STILL,
PLAY or SHUTTLE already answered is over; the recovery STOP leaves FAULTED for STOPPED (R87); an EJECT is answered DONE (R90); a
CUE_TO or JOG asked for STILL is answered DONE with the position within 256 fine units of its target and goes on otherwise
(R94); a chase in FOLLOW_STILL is PARKED within 256 of its target (R117); and where the deck is then settled, the directive in
the slot is judged again and answered (R91, R93, R97). Any other change while the wait runs is not judged, nor any before
CONFIGURE, in UNTHREADED, FAULTED or EJECTING with no wait (R80, R83, R88, R90). -/
def Obligations.TallySatisfiesTheWait : Prop :=
  ∀ (tally : Tally) (s : State),
    let shown : State := { s with pins := { s.pins with tally := tally } }
    let met : Tsq := { s.tsq with matched := true, wait := none }
    let answers (t : State) : Prop := exec (.tallyChange tally) s = .next t
    (s.tsq.wait.isSome = true → Tally.mode tally ≠ some s.tsq.reqMode → answers shown) ∧
    (s.dhd.config = none ∨
        (s.tsq.wait = none ∧ (s.tsq.state = .unthreaded ∨ s.tsq.state = .faulted ∨ s.tsq.state = .ejecting)) →
      answers shown) ∧
    (∀ c, tally ≠ s.pins.tally → s.dhd.transportFitted = true → s.dhd.config = some c → s.tsq.wait.isSome = true →
      Tally.mode tally = some s.tsq.reqMode →
      (s.tsq.recovery = .recoveryWait → s.tsq.state = .faulted → s.tsq.pendingOp = none → s.tsq.slot = none →
        answers { shown with tsq := { met with state := .stopped, recovery := .idle } }) ∧
      (s.tsq.recovery = .idle → s.tsq.slot = none → s.tsq.state ≠ .chasing →
        (∀ o, s.tsq.pendingOp = some o → o.kind = .mode) → answers { shown with tsq := { met with pendingOp := none } }) ∧
      (∀ o, s.tsq.recovery = .idle → s.tsq.pendingOp = some o →
        (o.kind = .eject → s.tsq.state = .ejecting → s.tsq.reqMode = .eject →
          answers ({ shown with tsq := { met with pendingOp := none } }.answer o.issuer o.seq 0x05 .done [])) ∧
        (o.kind = .cueTo ∨ o.kind = .jog → s.tsq.state = .cueing →
          (s.tsq.reqMode ≠ .still → answers { shown with tsq := met }) ∧
          (∀ x, s.tsq.reqMode = .still → s.own = some x →
            let e := diff c.standard.day (o.target * 256) x
            (256 < e.natAbs → answers { shown with tsq := met }) ∧
            (e.natAbs ≤ 256 → s.tsq.slot = none →
              answers ({ shown with tsq := { met with pendingOp := none, state := .still } }.answer o.issuer o.seq
                (if o.kind = OpKind.cueTo then 0x06 else 0x07) .done (positionBytes c.standard x)))))) ∧
      (s.tsq.recovery = .idle → s.tsq.pendingOp = none → s.tsq.slot = none → s.tsq.state = .chasing →
        (s.tsq.reqMode ≠ .still ∨ s.csv.state ≠ .followStill ∨ s.csv.followStep = .parked →
          answers { shown with tsq := met }) ∧
        (∀ x, s.tsq.reqMode = .still → s.csv.state = .followStill → s.csv.followStep = .approaching → s.own = some x →
          let e := diff c.standard.day s.csv.target x
          (256 < e.natAbs → answers { shown with tsq := met }) ∧
          (e.natAbs ≤ 256 → answers { shown with tsq := met, csv := { s.csv with followStep := .parked } }))) ∧
      (∀ h, s.tsq.slot = some h → s.tsq.recovery = .idle → (∀ o, s.tsq.pendingOp = some o → o.kind = .mode) →
        s.tsq.state ≠ .unthreaded → s.tsq.state ≠ .cueing → s.tsq.state ≠ .ejecting → s.tsq.state ≠ .faulted →
        let freed : State := { shown with tsq := { met with pendingOp := none, slot := none } }
        let record (kind : OpKind) (target : Nat) : PendingOp :=
          { kind := kind, issuer := h.issuer, seq := h.seq, origin := .directive kind.typeByte, target := target,
            reversals := 0, lastSign := none }
        let asked (state : TransportState) (mode : ReqMode) (speed : Int) (kind : OpKind) (target : Nat) : State :=
          if s.tsq.reqMode = mode then
            { freed with tsq := { freed.tsq with state := state, reqSpeed := speed } }
          else
            { freed with tsq := { freed.tsq with
              state := state, reqMode := mode, reqSpeed := speed, reqTrack := 0, matched := false,
              wait := some { settle := 0, busy := 0 }, pendingOp := some (record kind target) } }
        let limit : Int := c.shuttleLimit
        (s.csv.state ≠ .off → s.tsq.state ≠ .chasing ∨ s.tsq.reqMode ≠ .still →
          answers (freed.answer h.issuer h.seq h.motion.typeByte .chaseActive [])) ∧
        (s.csv.state = .off → s.tsq.state = .recording →
          answers (freed.answer h.issuer h.seq h.motion.typeByte .transportNotReady [])) ∧
        (s.csv.state = .off → s.tsq.state ≠ .recording → s.tsq.state ≠ .chasing →
          (h.motion = .still → answers ((asked .still .still 0 .mode 0).answer h.issuer h.seq 0x05 .done [])) ∧
          (h.motion = .play → answers ((asked .playing .play 0 .mode 0).answer h.issuer h.seq 0x05 .done [])) ∧
          (∀ v, h.motion = .shuttle v →
            answers ((asked .shuttling .var (clampInt (-limit) limit v) .mode 0).answer h.issuer h.seq 0x05 .done [])) ∧
          (h.motion = .eject → s.tsq.reqMode ≠ .eject → answers (asked .ejecting .eject 0 .eject 0)) ∧
          (∀ (kind : OpKind) (target : Nat),
            (kind = .cueTo ∧ h.motion = .cueTo target) ∨
              (∃ n x, kind = .jog ∧ h.motion = .jog n ∧ s.own = some x ∧
                target = (((x / 256 : Nat) + n) % (c.standard.framesPerDay : Int)).toNat) →
            (s.psu.source = .noSource →
              answers (freed.answer h.issuer h.seq h.motion.typeByte .positionUnknown [])) ∧
            (∀ x, s.own = some x → s.tsq.reqMode ≠ .var → 128 ≤ c.shuttleLimit →
              let e := diff c.standard.day (target * 256) x
              128 < e.natAbs →
              answers (asked .cueing .var (signOf e * clampInt 128 c.shuttleLimit ((e.natAbs / 8 : Nat) : Int)) kind
                target))))))

/-- With the request matched, a change of the tally to another mode is adopted: STOP, STILL, PLAY, VAR and EJECT as the matched
request and the state of that mode, RECORD as PLAYING with PLAY requested and a wait; DECK_OVERRIDE is latched, a pending
operation ends, the chase is OFF and no segment is RECORDING, the one that was ended with DECK_OVERRIDE and its notice (R82, R88,
R147, R149). A held directive is left out here. -/
def Obligations.UnsolicitedTallyIsAdopted : Prop :=
  ∀ (tally : Tally) (s : State), s.dhd.transportFitted = true → s.dhd.config.isSome = true → s.tsq.wait = none →
    s.tsq.matched = true → tally ≠ s.pins.tally → tally ≠ .unknown → Tally.mode tally ≠ some s.tsq.reqMode →
    s.tsq.state ≠ .unthreaded → s.tsq.state ≠ .faulted → s.tsq.state ≠ .ejecting → s.tsq.slot = none →
    (s.rcc.state = .recording → s.rcc.record.isSome = true) →
    ∃ t : State, exec (.tallyChange tally) s = .next t ∧ t.pins = { s.pins with tally := tally } ∧
      (tally = .stop → t.tsq.state = .stopped ∧ t.tsq.reqMode = .stop ∧ t.tsq.matched = true ∧ t.tsq.wait = none) ∧
      (tally = .still → t.tsq.state = .still ∧ t.tsq.reqMode = .still ∧ t.tsq.matched = true ∧ t.tsq.wait = none) ∧
      (tally = .play → t.tsq.state = .playing ∧ t.tsq.reqMode = .play ∧ t.tsq.matched = true ∧ t.tsq.wait = none) ∧
      (tally = .var → t.tsq.state = .shuttling ∧ t.tsq.reqMode = .var ∧
        t.tsq.reqSpeed = clampInt (-(s.shuttleLimit : Int)) s.shuttleLimit s.psu.speed ∧ t.tsq.matched = true ∧
        t.tsq.wait = none) ∧
      (tally = .record → t.tsq.state = .playing ∧ t.tsq.reqMode = .play ∧ t.tsq.matched = false ∧
        t.tsq.wait = some { settle := 0, busy := 0 }) ∧
      (tally = .eject → t.tsq.state = .ejecting ∧ t.tsq.reqMode = .eject ∧ t.tsq.matched = true ∧
        t.tsq.wait = none) ∧
      t.tsq.pendingOp = none ∧ t.csv.state = .off ∧ t.csv.record = s.csv.record ∧ t.rcc.state ≠ .recording ∧
      t.holdsEvent .deckOverride = true ∧ t.psu = s.psu ∧ t.ten = s.ten ∧ t.cul = s.cul ∧
      t.rcc.zones = s.rcc.zones ∧ s.Bystanders t ∧
      ∀ g, s.rcc.state = .recording → s.rcc.record = some g → s.nothingToReport →
        s.SegmentNoticed t g .deckOverride (s.recordedTo g)

/-- THREADED falling makes the transport UNTHREADED from any state, the request STOP (NONE before CONFIGURE) with no wait, nothing
pending, held, chased or recording, and the own position absent, so that a segment's notice gives the last recorded frame the last
field start left (R20, R89, R148, R149); THREADED rising makes it STOPPED, with a fresh wait
for the request where the deck does not show it already, and no request before CONFIGURE (R90). That a fall leaves
the request not matched, where STOP stood matched too, is the model's own (notes/assumptions/38.md). -/
def Obligations.ThreadingChangesTheTransport : Prop :=
  ∀ s : State, s.dhd.transportFitted = true →
    (s.pins.threaded = true → (s.rcc.state = .recording → s.rcc.record.isSome = true) →
      ∃ t : State, exec .threadedFalls s = .next t ∧ t.pins = { s.pins with threaded := false } ∧
        t.psu = { s.psu with
          source := .noSource, anchor := 0, p := 0, motion := 0, missing := 0, candidate := none } ∧
        t.own = none ∧ t.tsq.state = .unthreaded ∧
        t.tsq.reqMode = (if s.dhd.config.isSome then .stop else .noMode) ∧ t.tsq.wait = none ∧
        t.tsq.matched = false ∧ t.tsq.faultCount = 0 ∧ t.tsq.recovery = .idle ∧ t.tsq.pendingOp = none ∧
        t.tsq.slot = none ∧ t.csv.state = .off ∧ t.csv.record = s.csv.record ∧ t.rcc.state ≠ .recording ∧
        t.rcc.zones = s.rcc.zones ∧ t.ten = s.ten ∧ t.cul = s.cul ∧ s.Bystanders t ∧
        ∀ g, s.rcc.state = .recording → s.rcc.record = some g → s.nothingToReport →
          s.SegmentNoticed t g .noTape (g.lastFrame, g.remaining)) ∧
    (s.pins.threaded = false → s.dhd.config.isSome = true → Tally.mode s.pins.tally ≠ some s.tsq.reqMode →
      exec .threadedRises s =
        .next { s with
          pins := { s.pins with threaded := true },
          tsq := { s.tsq with state := .stopped, matched := false, wait := some { settle := 0, busy := 0 } } }) ∧
    (s.pins.threaded = false → s.dhd.config = none →
      exec .threadedRises s =
        .next { s with pins := { s.pins with threaded := true }, tsq := { s.tsq with state := .stopped } }) ∧
    (s.pins.threaded = false → exec .threadedFalls s = .next s) ∧
    (s.pins.threaded = true → exec .threadedRises s = .next s)

/-- A tally wait at its last count, and a deck fault at its second field start, each put the transport in FAULTED: STOP
requested with no wait, TRANSPORT_FAULT latched, the cause in the sense record with the origin of the pending operation (unless
an aborted segment's record follows it), nothing pending, the chase OFF, no segment RECORDING, its notice sent, and OFF_TIME from 0 where
auto-recover is on (R84 to R86, R147, R149). At every field start of a deck at work by itself a running wait counts: the busy count under
DECK_BUSY up to its limit, the settle count otherwise, and the fault where that reaches its limit (R84); the deck fault count
rises or is 0 (R86); a held directive is a field older (R97). The two rows taken as commands by themselves, one count short of
the field start that ends them, are the model's own (notes/assumptions/2.md), as is that DECK_FAULT is read before the wait is
counted (notes/assumptions/36.md) and that the STOP requested is not matched, where it stood matched too (38.md); that a fault with auto-recover off releases the held directive is inferred
(notes/assumptions/34.md). -/
def Obligations.FaultsStopTheTransport : Prop :=
  ∀ (s : State) (c : Settings), s.dhd.config = some c → (s.rcc.state = .recording → s.rcc.record.isSome = true) →
    let stopped (cause : Code) (t : State) : Prop :=
      t.tsq.state = .faulted ∧ t.tsq.reqMode = .stop ∧ t.tsq.reqSpeed = 0 ∧ t.tsq.wait = none ∧
      t.tsq.matched = false ∧ t.tsq.pendingOp = none ∧
      t.tsq.recovery = (if c.autoRecover then .offTime 0 else .idle) ∧ t.csv.state = .off ∧
      t.rcc.state ≠ .recording ∧ t.holdsEvent .transportFault = true ∧
      (s.rcc.state ≠ .recording →
        t.dhd.sense = some
          { code := cause, origin := match s.tsq.pendingOp with | some o => o.origin | none => .nothing,
            address := none, nextFrame := none, remaining := none })
    let faulted (cause : Code) (t : State) : Prop :=
      stopped cause t ∧ (s.rcc.state = .recording → t.holdsEvent .segmentAborted = true) ∧
      (∀ g, s.rcc.state = .recording → s.rcc.record = some g → s.nothingToReport →
        s.SegmentNoticed t g cause (s.recordedTo g)) ∧
      t.psu = s.psu ∧ t.ten = s.ten ∧ t.cul = s.cul ∧ t.pins = s.pins ∧ t.rcc.zones = s.rcc.zones ∧ s.Bystanders t
    (∀ w, s.tsq.wait = some w → s.tsq.recovery ≠ .recoveryWait → c.settleLimit ≤ w.settle + 1 →
      ∃ t : State, exec .tallyWaitRunsOut s = .next t ∧ faulted .transportTimeout t) ∧
    (s.tsq.state ≠ .unthreaded → s.tsq.state ≠ .faulted → 1 ≤ s.tsq.faultCount →
      ∃ t : State, exec .deckFaultQualified s = .next t ∧ faulted .deckFault t ∧ t.tsq.faultCount = 0) ∧
    (∀ (i : Instr) (pins : FieldPins) (t : State), givesFieldStart i pins s → exec i s = .next t →
      t.ftu.counter = s.ftu.counter + 1 → s.deckAlone → s.tsq.recovery = .idle →
      (∀ h, s.tsq.slot = some h → h.age + 1 < if c.standard = .f25 then 250 else 300) →
      let read : Prop := s.tsq.state ≠ .unthreaded ∧ s.tsq.state ≠ .faulted
      let older : Option Held := s.tsq.slot.map fun h => { h with age := h.age + 1 }
      let kept : Prop := t.tsq.slot = if c.autoRecover then older else none
      let goesOn (count : Nat) : Prop :=
        (s.tsq.wait = none → s.tsq.state ≠ .cueing → t.tsq = { s.tsq with faultCount := count, slot := older }) ∧
        (∀ w, s.tsq.wait = some w →
          (pins.deckBusy = true ∧ w.busy < c.busyLimit → s.tsq.state ≠ .cueing →
            t.tsq = { s.tsq with faultCount := count, slot := older, wait := some { w with busy := w.busy + 1 } }) ∧
          (pins.deckBusy = false ∨ c.busyLimit ≤ w.busy →
            (w.settle + 1 < c.settleLimit → s.tsq.state ≠ .cueing →
              t.tsq = { s.tsq with faultCount := count, slot := older, wait := some { w with settle := w.settle + 1 } }) ∧
            (c.settleLimit ≤ w.settle + 1 → stopped .transportTimeout t ∧ t.tsq.faultCount = count ∧ kept)))
      (¬read → goesOn s.tsq.faultCount) ∧
      (read → pins.deckFault = false → goesOn 0) ∧
      (read → pins.deckFault = true → s.tsq.faultCount = 0 → goesOn 1) ∧
      (read → pins.deckFault = true → 1 ≤ s.tsq.faultCount → stopped .deckFault t ∧ t.tsq.faultCount = 0 ∧ kept))

/-- Recovery: at the end of the off-time of 25, 50, 100 or 250 fields the off-time begins again while DECK_FAULT is asserted, and
otherwise a wait for STOP starts, satisfied at once where the deck shows STOP; when that wait runs out, recovery is over with the
state FAULTED, TRANSPORT_FAULT latched and TRANSPORT_TIMEOUT written with no origin (R87). At every field start of a deck at work by
itself the off-time, or the wait by DECK_BUSY and R84, is counted up to that end. The two rows taken as commands by themselves, one
count short of the field start that ends them, are the model's own (notes/assumptions/2.md), and that the STOP shown already
satisfies the recovery's wait at once is inferred (notes/assumptions/19.md). A held directive is left out. -/
def Obligations.RecoveryTriesStop : Prop :=
  ∀ (s : State) (c : Settings), s.dhd.config = some c → s.tsq.state = .faulted → s.tsq.reqMode = .stop →
    let offTime : Nat := if c.offTimeChoice = 3 then 250 else 25 * 2 ^ c.offTimeChoice
    let failure : Sense :=
      { code := .transportTimeout, origin := .nothing, address := none, nextFrame := none, remaining := none }
    let waits : Tsq :=
      { s.tsq with recovery := .recoveryWait, matched := false, wait := some { settle := 0, busy := 0 } }
    let stands : Tsq := { s.tsq with recovery := .idle, state := .stopped, matched := true, wait := none }
    (∀ n, s.tsq.recovery = .offTime n → offTime ≤ n + 1 → c.offTimeChoice ≤ 3 →
      (s.pins.field.deckFault = true →
        exec .recoveryOffTimeEnds s = .next { s with tsq := { s.tsq with recovery := .offTime 0 } }) ∧
      (s.pins.field.deckFault = false → s.pins.tally ≠ .stop →
        exec .recoveryOffTimeEnds s = .next { s with tsq := waits }) ∧
      (s.pins.field.deckFault = false → s.pins.tally = .stop → s.tsq.pendingOp = none → s.tsq.slot = none →
        exec .recoveryOffTimeEnds s = .next { s with tsq := stands })) ∧
    (∀ w, s.tsq.recovery = .recoveryWait → s.tsq.wait = some w → c.settleLimit ≤ w.settle + 1 → s.tsq.slot = none →
      exec .recoveryWaitRunsOut s =
        .next ({ s with
          tsq := { s.tsq with recovery := .idle, wait := none, matched := false },
          dhd := { s.dhd with sense := some failure } }.latch .transportFault)) ∧
    (∀ (i : Instr) (pins : FieldPins) (t : State), givesFieldStart i pins s → exec i s = .next t →
      t.ftu.counter = s.ftu.counter + 1 → s.deckAlone → s.tsq.slot = none →
      (∀ n, s.tsq.recovery = .offTime n → c.offTimeChoice ≤ 3 →
        (n + 1 < offTime → t.tsq = { s.tsq with recovery := .offTime (n + 1) }) ∧
        (offTime ≤ n + 1 →
          (pins.deckFault = true → t.tsq = { s.tsq with recovery := .offTime 0 }) ∧
          (pins.deckFault = false → s.pins.tally ≠ .stop → t.tsq = waits) ∧
          (pins.deckFault = false → s.pins.tally = .stop → s.tsq.pendingOp = none → t.tsq = stands))) ∧
      (∀ w, s.tsq.recovery = .recoveryWait → s.tsq.wait = some w →
        (pins.deckBusy = true ∧ w.busy < c.busyLimit →
          t.tsq = { s.tsq with wait := some { w with busy := w.busy + 1 } }) ∧
        (pins.deckBusy = false ∨ c.busyLimit ≤ w.busy →
          (w.settle + 1 < c.settleLimit → t.tsq = { s.tsq with wait := some { w with settle := w.settle + 1 } }) ∧
          (c.settleLimit ≤ w.settle + 1 →
            t.tsq = { s.tsq with recovery := .idle, wait := none, matched := false } ∧
              t.holdsEvent .transportFault = true ∧ t.dhd.sense = some failure))))

/-- A directive held for the deferral limit, 250 fields at F25 and 300 otherwise, leaves the slot unrun with DEFERRAL_EXPIRED in
the sense record and in its report (R97); a cue past its eighth reversal ends with SEEK_FAILED in both, the state STILL and
STILL requested (R94, R96). At the field starts of a deck at work by itself, with its wait still running, the held directive is
a field older up to that expiry; and a cue whose error has changed its sign counts a reversal and ends at the ninth. The two
rows taken as commands by themselves, one count short of the field start that ends them, are the model's own
(notes/assumptions/2.md). -/
def Obligations.HeldAndSeekingOperationsFail : Prop :=
  ∀ s : State,
    let expired (h : Held) : Sense :=
      { code := .deferralExpired, origin := .directive h.motion.typeByte, address := none, nextFrame := none,
        remaining := none }
    let unfound (o : PendingOp) : Sense :=
      { code := .seekFailed, origin := o.origin, address := s.ownFrame, nextFrame := none, remaining := none }
    let reported (issuer : Issuer) (seq type : Byte) (code : Code) (t : State) : Prop :=
      (∀ n, issuer = .station n → s.lif.listenOnly = false → s.lif.nonAnnouncements < 7 →
        { kind := .report, dest := BitVec.ofNat 5 n, seq := seq, payload := [type, code.value], age := 0 } ∈ t.lif.waiting) ∧
      (issuer = .port → s.lpt.rxQueue.length < 8 →
        t.lpt.rxQueue = s.lpt.rxQueue ++
          [{ bytes := [s.sourceNumber.setWidth 8, 2, seq, 2, type, code.value], place := 0 }])
    (∀ c h, s.dhd.config = some c → s.tsq.slot = some h →
      (if c.standard = .f25 then 250 else 300) ≤ h.age + 1 →
      exec .deferralExpired s =
        .next ({ s with
          tsq := { s.tsq with slot := none },
          dhd := { s.dhd with sense := some (expired h) } }.answer h.issuer h.seq h.motion.typeByte .deferralExpired [])) ∧
    (∀ o, s.tsq.pendingOp = some o → s.tsq.state = .cueing → s.tsq.recovery = .idle → 8 ≤ o.reversals → s.tsq.slot = none →
      ∃ t : State, exec .seekFailed s = .next t ∧ t.tsq.state = .still ∧ t.tsq.reqMode = .still ∧ t.tsq.pendingOp = none ∧
        t.dhd.sense = some (unfound o) ∧
        t.psu = s.psu ∧ t.csv = s.csv ∧ t.rcc = s.rcc ∧ t.ten = s.ten ∧ t.cul = s.cul ∧ t.pins = s.pins ∧
        s.Bystanders t ∧
        (s.tsq.reqMode = .still → s.tsq.matched = false →
          t = { s with
              tsq := { s.tsq with state := .still, pendingOp := none, reqSpeed := 0 },
              dhd := { s.dhd with sense := some (unfound o) } }.answer o.issuer o.seq o.kind.typeByte .seekFailed [])) ∧
    (∀ (i : Instr) (pins : FieldPins) (t : State) (c : Settings), givesFieldStart i pins s → exec i s = .next t →
      t.ftu.counter = s.ftu.counter + 1 → s.dhd.config = some c → s.deckAlone → pins.deckFault = false →
      s.tsq.recovery = .idle → (∀ w, s.tsq.wait = some w → w.settle + 1 < c.settleLimit) →
      (∀ h, s.tsq.slot = some h → s.tsq.wait.isSome = true → s.tsq.state ≠ .cueing →
        (h.age + 1 < (if c.standard = .f25 then 250 else 300) →
          t.tsq.slot = some { h with age := h.age + 1 } ∧ t.dhd.sense = s.dhd.sense) ∧
        ((if c.standard = .f25 then 250 else 300) ≤ h.age + 1 →
          t.tsq.slot = none ∧ t.tsq.pendingOp = s.tsq.pendingOp ∧ t.dhd.sense = some (expired h) ∧
            reported h.issuer h.seq h.motion.typeByte .deferralExpired t)) ∧
      (∀ o x, s.tsq.state = .cueing → s.tsq.pendingOp = some o → s.own = some x → s.tsq.slot = none →
        o.kind = .cueTo ∨ o.kind = .jog →
        let e := diff c.standard.day (o.target * 256) x
        let turned : Prop := e ≠ 0 ∧ ∃ last, o.lastSign = some last ∧ last ≠ signOf e
        (turned → 8 ≤ o.reversals →
          t.tsq.state = .still ∧ t.tsq.reqMode = .still ∧ t.tsq.pendingOp = none ∧ t.dhd.sense = some (unfound o) ∧
            reported o.issuer o.seq o.kind.typeByte .seekFailed t) ∧
        (o.reversals < 8 ∨ (¬turned ∧ o.reversals = 8) → t.dhd.sense = s.dhd.sense)))

/-! ### Chase, gap, roll and transition steps -/

/-- The eighth field start of the lock run declares lock: LOCKED with every count of the pull and the rerolls 0 (R115). The last of
the blanking run loses it: PULLING, LOCK_LOST latched, the speed requested standing; a segment then RECORDING ends by emergency
out, its notice sent (R116, R119, R147, R149). The two rows as commands by themselves, one field start short of their counts, are the model's own
(notes/assumptions/2.md); the counts at a field start are in ChaseActsAtFieldStarts. -/
def Obligations.LockIsDeclaredAndLost : Prop :=
  ∀ s : State,
    (s.csv.state = .pulling → 7 ≤ s.csv.lockRun →
      exec .lockDeclared s =
        .next { s with csv := { s.csv with state := .locked, lockRun := 0, blankRun := 0, pullTimer := 0, rerolls := 0 } }) ∧
    (∀ r, s.csv.state = .locked → s.csv.record = some r → r.blankingCount ≤ s.csv.blankRun + 1 →
      (s.rcc.state ≠ .recording → s.tsq.slot = none →
        exec .lockLost s =
          .next ({ s with csv := { s.csv with state := .pulling, blankRun := 0, lockRun := 0, pullTimer := 0 } }.latch
            .lockLost)) ∧
      (s.rcc.state = .recording → s.rcc.record.isSome = true →
        ∃ t : State, exec .lockLost s = .next t ∧
          t.csv = { s.csv with
            state := .pulling, blankRun := 0, lockRun := 0, pullTimer := 0, followStep := t.csv.followStep } ∧
          t.holdsEvent .lockLost = true ∧ t.holdsEvent .segmentAborted = true ∧ t.rcc.state ≠ .recording ∧
          t.dhd.sense.map (·.code) = some .lockLost ∧
          (∀ g, s.rcc.record = some g → s.nothingToReport → s.SegmentNoticed t g .lockLost (s.recordedTo g)) ∧ t.rcc.zones = s.rcc.zones ∧ t.psu = s.psu ∧ t.ten = s.ten ∧
          t.cul = s.cul ∧ t.pins = s.pins ∧ s.Bystanders t))

/-- The pull time exceeded puts a chase with retries left in REROLL with one more counted, and one with none left in FAILED with
CHASE_FAILED latched and written; STILL is requested either way (R118). The reroll's off-time over, with a usable master, the
chase seeks at the master's speed plus an eighth of the error (R111, R113). No segment is RECORDING and no directive held. The two
rows as commands by themselves, the second on the views the last field start left, are the model's own (notes/assumptions/2.md); the
counts at a field start are in ChaseActsAtFieldStarts. -/
def Obligations.PullTimeAndRerollEnd : Prop :=
  ∀ (s : State) (r : ChaseRecord), s.csv.record = some r → s.tsq.slot = none → s.rcc.state ≠ .recording →
    (s.csv.state = .pulling → r.pullTimeLimit ≤ s.csv.pullTimer →
      (s.csv.rerolls < r.retries →
        ∃ t : State, exec .pullTimeExceeded s = .next t ∧
          t.csv = { s.csv with
            state := .reroll, pullTimer := 0, lockRun := 0, rerolls := s.csv.rerolls + 1, offTime := 0 } ∧
          t.tsq.reqMode = .still ∧ t.rcc = s.rcc ∧ t.psu = s.psu ∧ t.ten = s.ten ∧ t.cul = s.cul ∧ t.pins = s.pins ∧
          s.Bystanders t) ∧
      (r.retries ≤ s.csv.rerolls →
        ∃ t : State, exec .pullTimeExceeded s = .next t ∧
          t.csv = { s.csv with state := .failed, pullTimer := 0, lockRun := 0 } ∧ t.tsq.reqMode = .still ∧
          t.holdsEvent .chaseFailed = true ∧
          t.dhd.sense = some
            { code := .chaseFailed, origin := s.csv.engagedBy, address := s.ownFrame, nextFrame := none,
              remaining := none } ∧ t.rcc = s.rcc ∧ t.psu = s.psu ∧ t.ten = s.ten ∧ t.cul = s.cul ∧ t.pins = s.pins ∧
          s.Bystanders t)) ∧
    (∀ c x own, s.csv.state = .reroll → r.rerollOffTime ≤ s.csv.offTime + 1 → s.dhd.config = some c →
      (s.view r.master).presence = .fresh → (s.view r.master).refLost = false →
      (s.view r.master).projection = some x → s.own = some own →
      let target := wrapDay c.standard.day ((x : Int) + r.offset)
      let e := diff c.standard.day target own
      ∃ t : State, exec .rerollOffTimeEnds s = .next t ∧
        t.csv = { s.csv with state := .seeking, offTime := 0, target := target } ∧ t.tsq.reqMode = .var ∧
        t.tsq.reqSpeed = clampInt (-(c.shuttleLimit : Int)) c.shuttleLimit
          ((s.view r.master).speed + signOf e * ((min (e.natAbs / 8) c.shuttleLimit : Nat) : Int)) ∧
        t.rcc = s.rcc ∧ t.psu = s.psu ∧ t.ten = s.ten ∧ t.cul = s.cul ∧ t.pins = s.pins ∧ s.Bystanders t)

/-- The last count of the turnaround gap leaves the segment IDLE (R150); the roll whose start count is the next field's requests
PLAY in STILL or STOPPED, or engages the chase with the stored record (R107), writes its refusal otherwise, and leaves the slot
either way (R136); the last field of a RUNNING transition completes it, the new source on the A bus at full (R159, R163). The
three rows as commands by themselves, one field start short of their counts, and that ROLL_START does nothing where no roll
starts next, are the model's own (notes/assumptions/2.md), as is that the slot keeps the sequence for the roll's MODE record
(notes/assumptions/39.md). -/
def Obligations.GapRollAndTransitionEnd : Prop :=
  ∀ s : State,
    (s.rcc.state = .gap → s.rcc.gapCount ≤ 1 →
      exec .gapEnds s = .next { s with rcc := { s.rcc with state := .idle, gapCount := 0 } }) ∧
    (∀ r, s.cul.roll = some r → r.start = s.ftu.counter + 1 → r.engage = false →
      (s.tsq.state = .still ∨ s.tsq.state = .stopped → s.tsq.reqMode ≠ .play → s.pins.tally ≠ .play →
        exec .rollStart s =
          .next { s with
            cul := { s.cul with roll := none },
            tsq := { s.tsq with
              state := .playing, reqMode := .play, reqSpeed := 0, reqTrack := 0, matched := false,
              wait := some { settle := 0, busy := 0 },
              pendingOp := some
                { kind := .mode, issuer := .nobody, seq := r.seq, origin := .directive 0x0B, target := 0, reversals := 0,
                  lastSign := none } } }) ∧
      (s.tsq.state ≠ .still → s.tsq.state ≠ .stopped →
        let failure : Sense :=
          { code := if s.tsq.state = .unthreaded then .noTape else .transportNotReady, origin := .directive 0x0B,
            address := s.ownFrame, nextFrame := none, remaining := none }
        exec .rollStart s =
          .next { s with
            cul := { s.cul with roll := none }, dhd := { s.dhd with sense := some failure } })) ∧
    (∀ r, s.cul.roll = some r → r.start = s.ftu.counter + 1 → r.engage = true →
      let refused (code : Code) : Prop :=
        let failure : Sense :=
          { code := code, origin := .directive 0x0B, address := s.ownFrame, nextFrame := none, remaining := none }
        exec .rollStart s =
          .next { s with cul := { s.cul with roll := none }, dhd := { s.dhd with sense := some failure } }
      (s.csv.record = none → refused .noChaseRecord) ∧
      (s.csv.record.isSome = true →
        (s.csv.state ≠ .off → refused .chaseActive) ∧
        (s.csv.state = .off →
          (s.tsq.state = .unthreaded → refused .noTape) ∧
          (s.tsq.state ≠ .unthreaded →
            (s.psu.source = .noSource → refused .positionUnknown) ∧
            (s.psu.source ≠ .noSource →
              (s.tsq.state = .recording → refused .recordingActive) ∧
              (s.tsq.state = .ejecting ∨ s.tsq.state = .faulted → refused .transportNotReady) ∧
              (s.tsq.state ≠ .recording → s.tsq.state ≠ .ejecting → s.tsq.state ≠ .faulted → s.tsq.recovery = .idle →
                ∃ t : State, exec .rollStart s = .next t ∧ t.cul = { s.cul with roll := none } ∧ t.csv.state ≠ .off ∧
                  t.csv.engagedBy = .directive 0x0B ∧ t.csv.record = s.csv.record ∧ t.tsq.state = .chasing ∧
                  t.dhd.sense = s.dhd.sense ∧ t.psu = s.psu ∧ t.ten = s.ten ∧ t.rcc = s.rcc ∧ s.Bystanders t)))))) ∧
    ((∀ r, s.cul.roll = some r → r.start ≠ s.ftu.counter + 1) → exec .rollStart s = .next s) ∧
    (∀ p, s.ten.state = .running → s.ten.preset = some p → p.kind ≠ .cut → 2 * p.duration ≤ s.ten.k + 1 →
      ((2 * p.duration : Nat) : Int) ≤ ((s.ten.k + 1 : Nat) : Int) - p.split →
      exec .transitionCompletes s =
        .next { s with ten := { s.ten with
          state := .atRest, aSel := p.toSource, preset := none, k := 0, progress := 0, audio := 0, outK := 0, outD := 0,
          gainA := 1024, gainB := 0, edges := List.replicate s.lineCount (0, 0) } })

/-! ### Directives -/

/-- A directive that fails a check of R65 changes nothing but by its report, with the code of the first check it fails; one that
is not for the station, or comes from the line to a listen-only one, changes nothing (R32, R65, R70, R72). In the order of the
checks: an unknown type is UNKNOWN_TYPE; anything but CONFIGURE, STATUS, RESTART and PEER_QUERY at an UNCONFIGURED station is
NOT_CONFIGURED; from the line at a READY station anything but STATUS and PEER_QUERY is NOT_PERMITTED from a station outside a
control set that is not empty (R66); past these a directive is NOT_FITTED that needs the transport or the transition channel
where it is absent (R67), whatever its parameters; and past these the fields are taken in payload order, a short payload and a field
outside its range of R68 being BAD_PARAMETER and a label that is not valid BAD_TIMECODE. The LOAD_CUE fields that the test of R67 reads
are its action, reference and lock list (notes/assumptions/12.md); that a payload too short is refused before its fields are taken is
in notes/assumptions/10.md. That SET_TRANSITION's duration, split and lever bytes are compared with their ranges for every kind, CUT
and a length of 0 among them, and the pattern for WIPE alone, is inferred (notes/assumptions/28.md). -/
def Obligations.RefusedDirectiveOnlyReports : Prop :=
  (∀ (i : Instr) (via : Via) (p : List Byte) (s : State) (code : Code), directiveOf i = some (via, p) →
    s.hears via p.length = true → s.checkDirective via p = .bad code →
    exec i s = .next ((s.heard via).report via (byteAt p 0) code [])) ∧
  (∀ (via : Via) (p : List Byte) (s : State), unknownPayload p = true → s.hears via p.length = true →
    exec (.unknownType via p) s = .next ((s.heard via).report via (byteAt p 0) .unknownType [])) ∧
  (∀ (i : Instr) (via : Via) (p : List Byte) (s : State), directiveOf i = some (via, p) → s.hears via p.length = true →
    unknownPayload p = false →
    let n (k : Nat) : Nat := (byteAt p k).toNat
    let word (k : Nat) : Nat := (byteAt p k ++ byteAt p (k + 1) : BitVec 16).toNat
    let type : Nat := n 0
    let answered (code : Code) : Prop := exec i s = .next ((s.heard via).report via (byteAt p 0) code [])
    let obeyed : Prop :=
      type = 2 ∨ type = 4 ∨ ∀ c source dest seq parity, s.dhd.config = some c → via = .line source dest seq parity →
        c.controlSet = 0 ∨ c.controlSet.getLsbD source.toNat = true
    let entries : List Byte := (p.drop 15).take (n 14)
    let readable : Prop := 19 ≤ p.length ∧ n 2 ≤ 6 ∧ n 3 ≤ 30 ∧ n 14 ≤ 4 ∧ ∀ b ∈ entries, b.toNat ≤ 30
    let tape : Prop :=
      type ∈ [0x05, 0x06, 0x07, 0x08, 0x0B, 0x0C, 0x0D] ∨ (type = 0x13 ∧ 2 ≤ p.length ∧ n 1 ≤ 1) ∨
        (type = 0x09 ∧ readable ∧ (n 2 ∈ [0, 1, 3, 4, 5] ∨ n 3 = 0 ∨ 0 ∈ entries))
    let channel : Prop :=
      type ∈ [0x0E, 0x0F, 0x10, 0x11, 0x12] ∨ (type = 0x13 ∧ 2 ≤ p.length ∧ n 1 = 2) ∨
        (type = 0x09 ∧ readable ∧ n 2 = 2)
    let fitted : Prop := (tape → s.dhd.transportFitted = true) ∧ (channel → s.dhd.channelFitted = true)
    let required : Nat :=
      match type with
      | 0x01 => 16
      | 0x02 => if n 1 = 0 then 2 else 3
      | 0x04 => 2
      | 0x05 => if n 1 = 3 then 4 else 2
      | 0x06 => 5
      | 0x07 => 2
      | 0x08 => if n 1 ≤ 1 then 14 else 2
      | 0x09 => 20
      | 0x0A => 2
      | 0x0B => 3
      | 0x0C => 9
      | 0x0E => 8
      | 0x0F => 2
      | 0x13 => if n 1 = 2 then 3 else 2
      | _ => 1
    (s.dhd.config = none → 5 ≤ type → answered .notConfigured) ∧
    (s.dhd.config.isSome = true ∨ type ≤ 4 →
      (¬obeyed → answered .notPermitted) ∧
      (obeyed → ¬fitted → answered .notFitted) ∧
      (obeyed → fitted → p.length < required → answered .badParameter) ∧
      (obeyed → fitted → required ≤ p.length →
        (type = 0x02 → 1 < n 1 ∨ 1 < n 2 ∨ (n 1 = 0 ∧ n 2 = 1) → answered .badParameter) ∧
        (type = 0x04 → n 1 = 0 ∨ 30 < n 1 → answered .badParameter) ∧
        (type = 0x05 → 4 < n 1 ∨ (n 1 = 3 ∧ word 2 = 0x8000) → answered .badParameter) ∧
        (type = 0x07 → (byteAt p 1).toInt = 0 ∨ (byteAt p 1).toInt < -99 ∨ 99 < (byteAt p 1).toInt →
          answered .badParameter) ∧
        (type = 0x0E →
          7 < n 1 ∨ 3 < n 2 ∨ 999 < word 3 ∨ (n 2 = 3 ∧ 4 < n 5) ∨ (byteAt p 6).toInt < -60 ∨ 60 < (byteAt p 6).toInt ∨
            1 < n 7 →
          answered .badParameter) ∧
        (type = 0x0B →
          n 1 = 0 ∨ (n 1 = 1 ∧ ∃ seq, via = .port seq) ∨ 1 < n 2 → answered .badParameter) ∧
        (type = 0x0F → 7 < n 1 → answered .badParameter) ∧
        (type = 0x13 → 2 < n 1 ∨ (n 1 = 2 ∧ 1 < n 2) → answered .badParameter) ∧
        (type = 0x14 → (∀ seq, via ≠ .port seq) → answered .badParameter) ∧
        (∀ c, s.dhd.config = some c →
          let count (k : Nat) : Option Nat :=
            labelCount c.standard
              { hours := byteAt p k, minutes := byteAt p (k + 1), seconds := byteAt p (k + 2), frames := byteAt p (k + 3) }
          let offset : Int := (byteAt p 3 ++ byteAt p 4 ++ byteAt p 5 ++ byteAt p 6 : BitVec 32).toInt
          let early : Prop := n 1 = 0 ∨ 6 < n 2 ∨ 30 < n 3 ∨ s.isOwn (n 3) = true
          let untimed : Prop := (byteAt p 4).getLsbD 0 = true ∧ count 5 = none
          let late : Prop :=
            (n 2 = 0 ∧ (n 9 = 0 ∨ 31 < n 9 ∨ ((byteAt p 4).getLsbD 1 = true ∧ word 10 = 0) ∨ 1 < n 12)) ∨
              (n 2 = 3 ∧ 2 < n 13) ∨ (n 2 = 6 ∧ (n 13 = 0 ∨ 4 < n 13)) ∨ 4 < n 14 ∨
              (∃ b ∈ entries, 30 < b.toNat ∨ s.isOwn b.toNat = true) ∨ ¬entries.Nodup ∨
              ((byteAt p 4).getLsbD 2 = true ∧ (n 19 = 0 ∨ 30 < n 19))
          (type = 0x06 → count 1 = none → answered .badTimecode) ∧
          (type = 0x0C → count 1 = none ∨ count 5 = none → answered .badTimecode) ∧
          (type = 0x08 →
            2 < n 1 ∨
              (n 1 ≤ 1 ∧
                (n 2 = 0 ∨ 30 < n 2 ∨ c.standard.day ≤ 2 * offset.natAbs ∨ n 7 < 8 ∨ 128 < n 7 ∨ 3 < n 8 ∨ 3 < n 9 ∨
                  word 10 < 50 ∨ 1000 < word 10 ∨ 3 < n 12 ∨ 3 < n 13)) →
            answered .badParameter) ∧
          (type = 0x09 →
            (early → answered .badParameter) ∧ (¬early → untimed → answered .badTimecode) ∧
              (¬early → ¬untimed → late → answered .badParameter)))))) ∧
  (∀ (i : Instr) (source dest : BitVec 5) (seq : Byte) (parity : Parity) (p : List Byte) (s : State),
    directiveOf i = some (.line source dest seq parity, p) → p.length ≤ 32 → source ≠ 0 → source ≠ 31 → dest ≠ 31 →
    s.lif.listenOnly = true ∨ (dest ≠ 0 ∧ s.isOwn dest.toNat = false) →
    exec i s = .next s.lineBusy)

/-- CONFIGURE, its 15 bytes read in the order of the record: with every field in its range it makes an UNCONFIGURED station READY: the
record stands, FOREIGN is judged for every held entry, the watch on REF runs from the moment of acceptance, which is
the present one, that of the handling, a threaded transport is STOPPED with STOP requested and awaited, an unthreaded one
requests STOP with no wait, and the wipe table has a pair for each active line. A READY station refuses it with ALREADY_CONFIGURED, an
UNCONFIGURED one refuses any field out of range with BAD_SETTING and takes none of it (R43, R53, R62, R63, R90, R155). -/
def Obligations.ConfigureMakesTheStationReady : Prop :=
  ∀ (via : Via) (std tpf c3 c2 c1 c0 settle b1 b0 h1 h0 dropout auto off gap : Byte) (rest : List Byte) (s : State),
    s.hears via (rest.length + 16) = true →
    let control : BitVec 32 := c3 ++ c2 ++ c1 ++ c0
    let busy : Nat := (b1 ++ b0 : BitVec 16).toNat
    let shuttle : Nat := (h1 ++ h0 : BitVec 16).toNat
    let given : Instr :=
      .configure via
        (std :: tpf :: c3 :: c2 :: c1 :: c0 :: settle :: b1 :: b0 :: h1 :: h0 :: dropout :: auto :: off :: gap :: rest)
    let inRange : Prop :=
      1 ≤ std.toNat ∧ std.toNat ≤ 3 ∧ 1 ≤ tpf.toNat ∧ control.getLsbD 0 = false ∧ control.getLsbD 31 = false ∧
        1 ≤ settle.toNat ∧ busy ≤ 1023 ∧ 1024 ≤ shuttle ∧ shuttle ≤ 32767 ∧ 1 ≤ dropout.toNat ∧ dropout.toNat ≤ 30 ∧
        auto.toNat ≤ 1 ∧ off.toNat ≤ 3
    (s.dhd.config = none → inRange → s.tsq.reqMode = .noMode → s.tsq.reqTrack = 0 →
      let c : Settings :=
        { standard := if std = 1 then .f25 else if std = 2 then .f30n else .f30d, tpf := tpf.toNat, controlSet := control,
          settleLimit := settle.toNat, busyLimit := busy, shuttleLimit := shuttle, dropoutWindow := dropout.toNat,
          autoRecover := auto == 1, offTimeChoice := off.toNat, turnaround := gap.toNat }
      let ready : State := { s.heard via with
        dhd := { s.dhd with config := some c },
        ftu := { s.ftu with accepted := some s.ftu.now },
        ptb := { s.ptb with entries := s.ptb.entries.map fun e => e.map fun x =>
          { x with foreign := x.content.standard != std } },
        ten := if s.dhd.channelFitted then
            { s.ten with edges := List.replicate (if std = 1 then 288 else 243) (0, 0) } else s.ten }
      (s.dhd.transportFitted = true → s.pins.threaded = true → s.pins.tally ≠ .stop →
        exec given s =
          .next ({ ready with tsq := { s.tsq with
            state := .stopped, reqMode := .stop, reqSpeed := 0, matched := false,
            wait := some { settle := 0, busy := 0 } } }.report via 0x01 .done [])) ∧
      (s.dhd.transportFitted = true → s.pins.threaded = false →
        exec given s =
          .next ({ ready with tsq := { s.tsq with
            reqMode := .stop, reqSpeed := 0, matched := false, wait := none } }.report via 0x01 .done [])) ∧
      (s.dhd.transportFitted = false → exec given s = .next (ready.report via 0x01 .done []))) ∧
    (s.dhd.config = none → ¬inRange → exec given s = .next ((s.heard via).report via 0x01 .badSetting [])) ∧
    (s.dhd.config.isSome = true → s.controlledBy via = true →
      exec given s = .next ((s.heard via).report via 0x01 .alreadyConfigured []))

/-- STATUS is answered DONE in every station state and from every sender with the page as it stands at the handling, byte by byte in
the order of its layout, and changes nothing but with clear, which empties the sense record and the latched event set after the page
is composed (R66, R73, R75, R76). PEER_QUERY is answered in the same way from the Peer Table, with the projection of an entry of age 8
or less that holds a position and is not FOREIGN, at a READY station (R57). -/
def Obligations.StatusAndPeerQueryAnswer : Prop :=
  ∀ (via : Via) (s : State),
    let flag (b : Bool) : Byte := if b then 1 else 0
    let label (frame : Option Nat) : List Byte :=
      match s.dhd.config, frame with
      | some c, some n => Label.toBytes (countLabel c.standard n)
      | _, _ => [0, 0, 0, 0]
    let position (x : Option Nat) : List Byte :=
      match s.dhd.config, x with
      | some c, some x => positionBytes c.standard x
      | _, _ => [0, 0, 0, 0, 0]
    let page0 : List Byte :=
      [s.stationByte, s.standardByte, s.fittedByte, s.transportByte, s.psu.source.toByte] ++ position s.own ++
        bytesInt16 s.psu.speed ++ [s.csv.state.toByte, s.masterByte, s.rcc.state.toByte, s.ten.state.toByte] ++
        bytes16 s.ten.progress ++
        [s.ftu.refState.toByte, flag s.lif.listenOnly + 2 * flag s.lif.duplicate, byteOf s.cul.cues.length,
         byteOf s.rcc.zones.length, flag s.tsq.slot.isSome]
    let page1 : List Byte :=
      (match s.dhd.sense with
        | none => [0, 0, 0, 0, 0, 0, 0, 0, 0, 0, 0, 0, 0, 0]
        | some r =>
          [r.code.value] ++ (match r.origin with | .nothing => [0, 0] | .directive type => [1, type] | .cue id => [2, byteOf id]) ++
            [flag r.address.isSome + 2 * flag r.nextFrame.isSome + 4 * flag r.remaining.isSome] ++ label r.address ++
            label r.nextFrame ++ bytes16 (r.remaining.getD 0)) ++
        bytes16 s.dhd.events.toNat
    (s.hears via 3 = true →
      exec (.statusPage0 via [0]) s = .next ((s.heard via).report via 0x02 .done page0) ∧
      exec (.statusPage1 via []) s = .next ((s.heard via).report via 0x02 .done page1) ∧
      exec (.statusPage1Clear via []) s =
        .next ({ s.heard via with dhd := { s.dhd with sense := none, events := 0 } }.report via 0x02 .done page1)) ∧
    (∀ n : Byte, s.hears via 2 = true → 1 ≤ n.toNat → n.toNat ≤ 30 →
      let answered (bytes : List Byte) : Prop :=
        exec (.peerQuery via [n]) s = .next ((s.heard via).report via 0x04 .done bytes)
      (s.peer n.toNat = none ∨ s.isOwn n.toNat = true → answered [n, 0, 0, 0, 0, 0, 0, 0, 0, 0, 0, 0]) ∧
      (∀ e, s.peer n.toNat = some e → s.isOwn n.toNat = false →
        let age : Nat := (s.ftu.counter - e.stamp).toNat
        let found (projection : List Byte) : Prop :=
          answered ([n, if e.foreign then 3 else if age ≤ 8 then 1 else 2, byteOf age] ++ projection ++
            [e.content.transport, e.content.chaseSummary, e.content.master])
        (s.dhd.config = none ∨ e.foreign = true ∨ e.content.position = none ∨ 8 < age → found [0, 0, 0, 0, 0, 0]) ∧
        (∀ c x, s.dhd.config = some c → e.foreign = false → e.content.position = some x → age ≤ 8 →
          found (1 :: positionBytes c.standard
            (wrapDay c.standard.day ((x : Int) + Int.tdiv (e.content.speed * age) 8))))))

/-- RESTART, in every station state, leaves nothing under way: the queues but the announcement, the deferral slot, the pending
operation, the chase, the cues, the roll, the segment with its gap, the zones, the preset, the sense record and the events are
gone, a threaded configured deck is asked for STOP, in FAULTED by RECOVERY_WAIT (inferred, notes/assumptions/35.md); position,
field timing, peers, configuration, the flags, the stored chase record, the selects, the lever direction, the port's buffer and
mask stand. A segment it ends is noticed with RESTARTED into the emptied queues. Its report is the first non-announcement of a queue that had none on the line (R21, R39, R40, R77, R78, R99, R120,
R138, R149, R150, R153, R170). -/
def Obligations.RestartStopsAllWork : Prop :=
  ∀ (via : Via) (s : State), s.hears via 1 = true → s.dhd.config = none ∨ s.controlledBy via = true →
    ∃ t : State, exec (.restart via []) s = .next t ∧
      t.csv = { s.csv with
        state := .off, engagedBy := .nothing, followStep := .approaching, pullTimer := 0, lockRun := 0, blankRun := 0,
        rerolls := 0, offTime := 0 } ∧
      t.cul = { s.cul with cues := [], roll := none } ∧ t.rcc.state = .idle ∧ t.rcc.record = none ∧
      t.rcc.gapCount = 0 ∧ t.rcc.zones = [] ∧ t.tsq.pendingOp = none ∧ t.tsq.slot = none ∧
      (∀ g, s.rcc.state = .recording → s.rcc.record = some g →
        { s with lif := { s.lif with waiting := [] }, lpt := { s.lpt with rxQueue := [] } }.SegmentNoticed t g .restarted
          (s.recordedTo g)) ∧
      (s.dhd.channelFitted = true →
        t.ten.state = .atRest ∧ t.ten.preset = none ∧ t.ten.k = 0 ∧ t.ten.progress = 0 ∧ t.ten.audio = 0 ∧
        t.ten.gainA = 1024 ∧ t.ten.gainB = 0 ∧ t.ten.outK = 0 ∧ t.ten.outD = 0 ∧ ∀ e ∈ t.ten.edges, e = (0, 0)) ∧
      t.ten.aSel = s.ten.aSel ∧ t.ten.bSel = s.ten.bSel ∧ t.ten.reversed = s.ten.reversed ∧
      t.ten.lastLever = s.ten.lastLever ∧ t.dhd.sense = none ∧
      (s.dhd.transportFitted = true → s.dhd.config.isSome = true → s.tsq.state ≠ .unthreaded → s.tsq.state ≠ .faulted →
        t.tsq.state = .stopped ∧ t.tsq.reqMode = .stop) ∧
      (s.dhd.transportFitted = true → s.dhd.config.isSome = true → s.tsq.state = .faulted → s.tsq.reqMode = .stop →
        s.pins.tally ≠ .stop →
        t.tsq.state = .faulted ∧ t.tsq.reqMode = .stop ∧ t.tsq.recovery = .recoveryWait ∧ t.tsq.matched = false ∧
          t.tsq.wait = some { settle := 0, busy := 0 }) ∧
      t.psu = s.psu ∧ t.ftu = s.ftu ∧ t.ptb = s.ptb ∧ t.pins = s.pins ∧ t.dhd.config = s.dhd.config ∧
      t.dhd.events = 0 ∧ t.lif.waiting.filter TxMsg.isAnn = s.lif.waiting.filter TxMsg.isAnn ∧ t.order = s.order ∧
      t.pending = s.pending ∧
      t.lif.listenOnly = s.lif.listenOnly ∧ t.lif.duplicate = s.lif.duplicate ∧ t.lpt.buffer = s.lpt.buffer ∧
      t.lpt.maskRx = s.lpt.maskRx ∧ t.lpt.maskSend = s.lpt.maskSend ∧
      (∀ source dest seq parity, via = .line source dest seq parity → dest ≠ 0 →
        (t.lif.waiting.filter fun m => !m.isAnn).head? =
          some { kind := .report, dest := source, seq := seq, payload := [0x03, 0x00], age := 0 } ∧
        (s.tsq.pendingOp = none → s.rcc.state ≠ .recording →
          t.lif.waiting.filter (fun m => !m.isAnn) =
            [{ kind := .report, dest := source, seq := seq, payload := [0x03, 0x00], age := 0 }] ∧ t.lpt.rxQueue = [])) ∧
      (∀ seq, via = .port seq →
        t.lpt.rxQueue.head? =
          some { bytes := [s.sourceNumber.setWidth 8, 2, seq, 2, 0x03, 0x00], place := 0 })

/-- TRANSPORT STOP is refused with NO_TAPE in UNTHREADED and taken in every other state: nothing pending of a cue or an eject,
nothing held, the chase OFF, no segment RECORDING, STOPPED with STOP requested and, while its wait runs, a MODE record with no
issuer and the directive's sequence, or, in FAULTED, STOP tried; answered DONE (R87, R92, R95, R96, R97, R120, R147, R149). That this report comes last, after the ended operation's and the segment's notice, is the model's
own order (notes/assumptions/22.md). -/
def Obligations.TransportStopStopsTheDeck : Prop :=
  ∀ (via : Via) (s : State), s.obeysTape via 2 = true → (s.rcc.state = .recording → s.rcc.record.isSome = true) →
    let record : PendingOp :=
      { kind := .mode, issuer := .nobody, seq := Via.seq via, origin := .directive 0x05, target := 0, reversals := 0,
        lastSign := none }
    (s.tsq.state = .unthreaded → exec (.transportStop via []) s = .next ((s.heard via).report via 0x05 .noTape [])) ∧
    (s.tsq.state ≠ .unthreaded →
      ∃ t : State, exec (.transportStop via []) s = .next (t.report via 0x05 .done []) ∧ t.csv.state = .off ∧
        t.csv.record = s.csv.record ∧ t.rcc.state ≠ .recording ∧ t.rcc.zones = s.rcc.zones ∧ t.tsq.slot = none ∧
        (s.rcc.state = .recording → t.holdsEvent .segmentAborted = true ∧ t.dhd.sense.map (·.code) = some .aborted) ∧
        (∀ g, s.rcc.state = .recording → s.rcc.record = some g → s.nothingToReport →
          s.SegmentNoticed t g .aborted (s.recordedTo g)) ∧
        (s.tsq.state ≠ .faulted → t.tsq.state = .stopped ∧ t.tsq.reqMode = .stop ∧
          (t.tsq.pendingOp = none ∨ t.tsq.pendingOp = some record) ∧
          (s.tsq.reqMode ≠ .stop → s.pins.tally ≠ .stop →
            t.tsq.pendingOp = some record ∧ t.tsq.wait = some { settle := 0, busy := 0 })) ∧
        (s.tsq.state = .faulted → s.tsq.reqMode = .stop → s.pins.tally ≠ .stop →
          t.tsq.state = .faulted ∧ t.tsq.recovery = .recoveryWait ∧ t.tsq.wait = some { settle := 0, busy := 0 }) ∧
        t.psu = s.psu ∧ t.ten = s.ten ∧ t.cul = s.cul ∧ t.pins = s.pins ∧ (s.heard via).Bystanders t)

/-- TRANSPORT STILL, PLAY, SHUTTLE and EJECT at a threaded transport with the chase OFF and no cue, recording or fault under
way: taken at once where it is settled, with the new state, the request, its wait and the pending record, STILL, PLAY and
SHUTTLE answered DONE and EJECT when it ends; held where it is not settled and the slot is empty; BUSY where the slot is full;
NO_TAPE, CHASE_ACTIVE and TRANSPORT_NOT_READY where R91 says so (R81, R83, R90, R91, R97). -/
def Obligations.TransportModesAreRequested : Prop :=
  ∀ (via : Via) (hi lo : Byte) (s : State) (c : Settings), s.dhd.config = some c → s.obeysTape via 4 = true →
    (hi ++ lo : BitVec 16) ≠ 0x8000#16 →
    let pendingAs (kind : OpKind) : PendingOp :=
      { kind := kind, issuer := Via.issuer via, seq := Via.seq via, origin := .directive 0x05, target := 0, reversals := 0,
        lastSign := none }
    let asked (state : TransportState) (mode : ReqMode) (speed : Int) (kind : OpKind) : State :=
      { s.heard via with tsq := { s.tsq with
        state := state, reqMode := mode, reqSpeed := speed, reqTrack := 0, matched := false,
        wait := some { settle := 0, busy := 0 }, pendingOp := some (pendingAs kind) } }
    let free : Prop :=
      s.tsq.state ≠ .unthreaded ∧ s.csv.state = .off ∧ s.tsq.state ≠ .recording ∧
        (s.tsq.state = .faulted → s.tsq.recovery ≠ .idle)
    let settled : Prop :=
      s.tsq.state ≠ .cueing ∧ s.tsq.state ≠ .ejecting ∧ s.tsq.wait = none ∧ s.tsq.recovery = .idle
    let v : Int := (hi ++ lo : BitVec 16).toInt
    (free → settled →
      (s.tsq.reqMode ≠ .still → s.pins.tally ≠ .still →
        exec (.transportStill via []) s = .next ((asked .still .still 0 .mode).report via 0x05 .done [])) ∧
      (s.tsq.reqMode ≠ .play → s.pins.tally ≠ .play →
        exec (.transportPlay via []) s = .next ((asked .playing .play 0 .mode).report via 0x05 .done [])) ∧
      (s.tsq.reqMode ≠ .var → s.pins.tally ≠ .var →
        exec (.transportShuttle via [hi, lo]) s =
          .next ((asked .shuttling .var (clampInt (-(c.shuttleLimit : Int)) c.shuttleLimit v) .mode).report via
            0x05 .done [])) ∧
      (s.tsq.reqMode ≠ .eject → s.pins.tally ≠ .eject →
        exec (.transportEject via []) s = .next (asked .ejecting .eject 0 .eject))) ∧
    ∀ i m, (i = .transportStill via [] ∧ m = .still) ∨ (i = .transportPlay via [] ∧ m = .play) ∨
        (i = .transportShuttle via [hi, lo] ∧ m = .shuttle v) ∨ (i = .transportEject via [] ∧ m = .eject) →
      (free → ¬settled → s.tsq.slot = none →
        exec i s = .next { s.heard via with tsq := { s.tsq with
          slot := some { motion := m, issuer := Via.issuer via, seq := Via.seq via, age := 0 } } }) ∧
      (free → ¬settled → s.tsq.slot ≠ none → exec i s = .next ((s.heard via).report via 0x05 .busy [])) ∧
      (s.tsq.state = .unthreaded → exec i s = .next ((s.heard via).report via 0x05 .noTape [])) ∧
      (s.tsq.state ≠ .unthreaded → s.csv.state ≠ .off → exec i s = .next ((s.heard via).report via 0x05 .chaseActive [])) ∧
      (s.csv.state = .off → s.tsq.state = .recording ∨ (s.tsq.state = .faulted ∧ s.tsq.recovery = .idle) →
        exec i s = .next ((s.heard via).report via 0x05 .transportNotReady []))

/-- CUE_TO and JOG at a settled transport with a position: the target is the label's frame, or the own frame and N more, and the
state CUEING; an error above 128 fine units asks for VAR at an eighth of it, from 128 to the shuttle limit toward the target, a
smaller one for STILL; the answer waits for the end, which is at once for an error that small on a tape already in STILL. With
no position they are POSITION_UNKNOWN. At every field start of a deck at work by itself the error is judged again: a STILL not
yet satisfied is held, the request is made afresh by the same law otherwise, and a change of the error's sign counts as a
reversal, up to the eighth (R93, R94, R95). -/
def Obligations.CuesApproachTheTarget : Prop :=
  (∀ (via : Via) (s : State) (c : Settings), s.dhd.config = some c → s.obeysTape via 5 = true →
    s.tsq.state ≠ .unthreaded → s.csv.state = .off → s.tsq.state ≠ .recording → s.tsq.state ≠ .faulted →
    s.tsq.state ≠ .cueing → s.tsq.state ≠ .ejecting → s.tsq.wait = none → s.tsq.recovery = .idle →
    (∀ (i : Instr) (kind : OpKind) (target own : Nat), s.psu.source ≠ .noSource → s.own = some own →
      (∃ h m sec f, i = .cueTo via [h, m, sec, f] ∧ kind = .cueTo ∧
        labelCount c.standard { hours := h, minutes := m, seconds := sec, frames := f } = some target) ∨
      (∃ n : Byte, i = .jog via [n] ∧ kind = .jog ∧ n.toInt ≠ 0 ∧ -99 ≤ n.toInt ∧ n.toInt ≤ 99 ∧
        target = (((own / 256 : Nat) + n.toInt) % (c.standard.framesPerDay : Int)).toNat) →
      let e := diff c.standard.day (target * 256) own
      let asked (mode : ReqMode) (speed : Int) : State :=
        { s.heard via with tsq := { s.tsq with
          state := .cueing, reqMode := mode, reqSpeed := speed, reqTrack := 0, matched := false,
          wait := some { settle := 0, busy := 0 },
          pendingOp := some
            { kind := kind, issuer := Via.issuer via, seq := Via.seq via, origin := .directive kind.typeByte,
              target := target, reversals := 0, lastSign := none } } }
      (128 < e.natAbs → 128 ≤ c.shuttleLimit → s.tsq.reqMode ≠ .var → s.pins.tally ≠ .var →
        (s.tsq.reqMode = .still → s.tsq.matched = true) →
        exec i s = .next (asked .var (signOf e * clampInt 128 c.shuttleLimit ((e.natAbs / 8 : Nat) : Int)))) ∧
      (e.natAbs ≤ 128 → s.tsq.reqMode ≠ .still → s.pins.tally ≠ .still → exec i s = .next (asked .still 0)) ∧
      (e.natAbs ≤ 128 → s.tsq.reqMode = .still → s.tsq.matched = true → s.tsq.slot = none →
        exec i s =
          .next ({ s.heard via with tsq := { s.tsq with state := .still, reqSpeed := 0, pendingOp := none } }.report via
            kind.typeByte .done (positionBytes c.standard own)))) ∧
    (s.psu.source = .noSource →
      (∀ h m sec f target, labelCount c.standard { hours := h, minutes := m, seconds := sec, frames := f } = some target →
        exec (.cueTo via [h, m, sec, f]) s = .next ((s.heard via).report via 0x06 .positionUnknown [])) ∧
      (∀ n : Byte, n.toInt ≠ 0 → -99 ≤ n.toInt → n.toInt ≤ 99 →
        exec (.jog via [n]) s = .next ((s.heard via).report via 0x07 .positionUnknown [])))) ∧
  ∀ (i : Instr) (pins : FieldPins) (s t : State) (c : Settings) (o : PendingOp) (x : Nat), givesFieldStart i pins s →
    exec i s = .next t → t.ftu.counter = s.ftu.counter + 1 → s.dhd.config = some c → s.deckAlone →
    pins.deckFault = false → s.tsq.recovery = .idle → (∀ w, s.tsq.wait = some w → w.settle + 1 < c.settleLimit) →
    s.tsq.state = .cueing → s.tsq.pendingOp = some o → o.kind = .cueTo ∨ o.kind = .jog → s.own = some x →
    s.tsq.slot = none → 128 ≤ c.shuttleLimit →
    let e := diff c.standard.day (o.target * 256) x
    let turned : Prop := e ≠ 0 ∧ ∃ last, o.lastSign = some last ∧ last ≠ signOf e
    let signed (n : Nat) : PendingOp :=
      { o with reversals := n, lastSign := if e = 0 then o.lastSign else some (signOf e) }
    let speed : Int := signOf e * clampInt 128 c.shuttleLimit ((e.natAbs / 8 : Nat) : Int)
    let approached (n : Nat) : Prop :=
      (s.tsq.reqMode = .still → s.tsq.matched = false →
        t.tsq.state = .cueing ∧ t.tsq.reqMode = .still ∧ t.tsq.matched = false ∧ t.tsq.reqSpeed = s.tsq.reqSpeed ∧
          t.tsq.pendingOp = some (signed n)) ∧
      (s.tsq.reqMode ≠ .still ∨ s.tsq.matched = true →
        (128 < e.natAbs →
          t.tsq.state = .cueing ∧ t.tsq.reqMode = .var ∧ t.tsq.reqSpeed = speed ∧ t.tsq.pendingOp = some (signed n) ∧
            (s.tsq.reqMode ≠ .var → s.pins.tally ≠ .var →
              t.tsq.matched = false ∧ t.tsq.wait = some { settle := 0, busy := 0 })) ∧
        (e.natAbs ≤ 128 →
          (s.tsq.reqMode ≠ .still → s.pins.tally ≠ .still →
            t.tsq.state = .cueing ∧ t.tsq.reqMode = .still ∧ t.tsq.matched = false ∧
              t.tsq.wait = some { settle := 0, busy := 0 } ∧ t.tsq.pendingOp = some (signed n)) ∧
          (s.tsq.reqMode = .still ∨ s.pins.tally = .still →
            t.tsq.state = .still ∧ t.tsq.reqMode = .still ∧ t.tsq.matched = true ∧ t.tsq.pendingOp = none)))
    (turned → o.reversals < 8 → approached (o.reversals + 1)) ∧ (¬turned → o.reversals ≤ 8 → approached o.reversals)

/-- CHASE ENABLE, with its record in range (R68, R103), is refused with the code of the first line of R104 that applies, and then
nothing changes. Taken, the record is stored, the counts begin afresh, the state is CHASING, and the first choice and request are
made at once: WAITING with STILL where the master is not usable, FOLLOW_STILL where it is still, with STILL or VAR by the error,
SEEKING or PULLING by the 5-second span where it moves, with VAR at the law's speed. With the chase OFF a pending CUE_TO or JOG ends
with CHASE_ACTIVE and a MODE record is cleared; an active chase is replaced, one that was LOCKED latching LOCK_LOST and ending its
segment. CHASE DISABLE turns an active chase OFF, STILL requested, its record kept, a segment it was recording ended with LOCK_LOST and
no LOCK_LOST latched; where STILL is requested already its wait goes on or it stands matched; with the chase OFF it only answers DONE
(R100, R104, R106, R108, R109, R112 to R114, R117, R119, R147 to R149). No directive is held and no recovery is under way; that the
DONE comes after the ended operation's report and the segment's notice is the model's own order (notes/assumptions/22.md). -/
def Obligations.ChaseIsEnabledAndDisabled : Prop :=
  ∀ (via : Via) (s : State) (c : Settings), s.dhd.config = some c →
    let clamped (speed : Int) : Int := clampInt (-(c.shuttleLimit : Int)) c.shuttleLimit speed
    let cutOut (t : State) (g : Segment) : Prop :=
      let last := (s.recordedTo g).1
      t.rcc.record = none ∧ t.rcc.state = (if c.turnaround = 0 then .idle else .gap) ∧
        t.rcc.gapCount = 2 * c.turnaround ∧ t.rcc.zones = s.rcc.zones ∧ t.holdsEvent .segmentAborted = true ∧
        t.dhd.sense = some
          { code := .lockLost, origin := .cue g.origin, address := some last,
            nextFrame := some ((last + 1) % c.standard.framesPerDay), remaining := (s.recordedTo g).2 } ∧
        s.SegmentNoticed t g .lockLost (s.recordedTo g)
    (∀ (master o3 o2 o1 o0 window blanking pull l1 l0 retries off : Byte) (rest : List Byte),
      s.obeysTape via (rest.length + 14) = true →
      let offset : Int := (o3 ++ o2 ++ o1 ++ o0 : BitVec 32).toInt
      let limit : Nat := (l1 ++ l0 : BitVec 16).toNat
      1 ≤ master.toNat → master.toNat ≤ 30 → 2 * offset.natAbs < c.standard.day → 8 ≤ window.toNat → window.toNat ≤ 128 →
      blanking.toNat ≤ 3 → pull.toNat ≤ 3 → 50 ≤ limit → limit ≤ 1000 → retries.toNat ≤ 3 → off.toNat ≤ 3 →
      let r : ChaseRecord :=
        { master := master.toNat, offset := offset, lockWindow := window.toNat, blankingCount := 2 * 2 ^ blanking.toNat,
          pullLimit := pull.toNat, pullTimeLimit := limit, retries := retries.toNat, rerollOffTime := 25 * 2 ^ off.toNat }
      let pullSpeed : Int := [51, 102, 154, 256].getD pull.toNat 51
      let given : Instr :=
        .chaseEnable via
          (master :: o3 :: o2 :: o1 :: o0 :: window :: blanking :: pull :: l1 :: l0 :: retries :: off :: rest)
      let refused (code : Code) : Prop := exec given s = .next ((s.heard via).report via 0x08 code [])
      let chosen (t : State) : Prop :=
        t.tsq.state = .chasing ∧ t.csv.record = some r ∧ t.csv.engagedBy = .directive 0x08 ∧ t.csv.pullTimer = 0 ∧
        t.csv.lockRun = 0 ∧ t.csv.blankRun = 0 ∧ t.csv.rerolls = 0 ∧ t.csv.offTime = 0 ∧
        ((s.view r.master).usable = false → t.csv.state = .waiting ∧ t.tsq.reqMode = .still) ∧
        (∀ x own, (s.view r.master).usable = true → (s.view r.master).projection = some x → s.own = some own →
          let target := wrapDay c.standard.day ((x : Int) + r.offset)
          let e := diff c.standard.day target own
          let sm := (s.view r.master).speed
          t.csv.target = target ∧
          (sm.natAbs < 32 →
            t.csv.state = .followStill ∧
            (s.tsq.reqMode = .still → s.tsq.matched = false →
              t.csv.followStep = .approaching ∧ t.tsq.reqMode = .still ∧ t.tsq.matched = false) ∧
            (s.tsq.reqMode ≠ .still ∨ s.tsq.matched = true →
              (128 < e.natAbs →
                t.csv.followStep = .approaching ∧ t.tsq.reqMode = .var ∧
                  t.tsq.reqSpeed = clamped (signOf e * clampInt 128 c.shuttleLimit ((e.natAbs / 8 : Nat) : Int))) ∧
              (e.natAbs ≤ 128 →
                t.tsq.reqMode = .still ∧
                (s.tsq.reqMode = .still ∨ s.pins.tally = .still →
                  t.csv.followStep = .parked ∧ t.tsq.matched = true) ∧
                (s.tsq.reqMode ≠ .still → s.pins.tally ≠ .still →
                  t.csv.followStep = .approaching ∧ t.tsq.matched = false ∧
                    t.tsq.wait = some { settle := 0, busy := 0 })))) ∧
          (32 ≤ sm.natAbs → c.standard.seekThreshold < e.natAbs →
            t.csv.state = .seeking ∧ t.tsq.reqMode = .var ∧
            t.tsq.reqSpeed = clamped (sm + signOf e * ((min (e.natAbs / 8) c.shuttleLimit : Nat) : Int))) ∧
          (32 ≤ sm.natAbs → e.natAbs ≤ c.standard.seekThreshold →
            t.csv.state = .pulling ∧ t.tsq.reqMode = .var ∧
            t.tsq.reqSpeed = clamped (sm + clampInt (-pullSpeed) pullSpeed (Int.tdiv e 4)))) ∧
        t.psu = s.psu ∧ t.ten = s.ten ∧ t.cul = s.cul ∧ t.pins = s.pins ∧ (s.heard via).Bystanders t
      (s.isOwn r.master = true → refused .selfMaster) ∧
      (s.isOwn r.master = false →
        (s.tsq.state = .unthreaded → refused .noTape) ∧
        (s.tsq.state ≠ .unthreaded →
          (s.psu.source = .noSource → refused .positionUnknown) ∧
          (s.psu.source ≠ .noSource → s.csv.state = .off →
            (s.tsq.state = .recording → refused .recordingActive) ∧
            (s.tsq.state = .ejecting ∨ s.tsq.state = .faulted → refused .transportNotReady) ∧
            (s.tsq.state ≠ .recording → s.tsq.state ≠ .ejecting → s.tsq.state ≠ .faulted → s.rcc.state ≠ .recording →
              (∀ o, s.tsq.pendingOp = some o → o.kind ≠ .eject) → s.tsq.slot = none → s.tsq.recovery = .idle →
              ∃ t : State, exec given s = .next (t.report via 0x08 .done []) ∧ chosen t ∧ t.rcc = s.rcc ∧
                t.tsq.pendingOp = none ∧
                (s.nothingToReport → t.lif = (s.heard via).lif ∧ t.lpt = s.lpt) ∧
                (∀ o, s.tsq.pendingOp = some o → o.kind = .cueTo ∨ o.kind = .jog →
                  (∀ n, o.issuer = .station n → s.lif.listenOnly = false → s.lif.nonAnnouncements < 7 →
                    { kind := .report, dest := BitVec.ofNat 5 n, seq := o.seq,
                      payload := [if o.kind = OpKind.cueTo then 0x06 else 0x07, 0x14], age := 0 } ∈ t.lif.waiting) ∧
                  (o.issuer = .port → s.lpt.rxQueue.length < 8 →
                    t.lpt.rxQueue = s.lpt.rxQueue ++
                      [{ bytes :=
                           [s.sourceNumber.setWidth 8, 2, o.seq, 2, if o.kind = OpKind.cueTo then 0x06 else 0x07, 0x14],
                         place := 0 }])))) ∧
          (s.psu.source ≠ .noSource → s.csv.state ≠ .off → s.tsq.state = .chasing → s.tsq.slot = none →
            s.tsq.recovery = .idle → s.tsq.pendingOp = none →
            (s.rcc.state = .recording → s.csv.state = .locked ∧ s.rcc.record.isSome = true) →
            ∃ t : State, exec given s = .next (t.report via 0x08 .done []) ∧ chosen t ∧
              (s.csv.state = .locked → t.holdsEvent .lockLost = true) ∧
              (s.csv.state ≠ .locked → t.dhd = s.dhd) ∧
              (s.rcc.state ≠ .recording → t.rcc = s.rcc ∧ t.dhd.sense = s.dhd.sense) ∧
              (∀ g, s.rcc.state = .recording → s.rcc.record = some g → cutOut t g))))) ∧
    (s.obeysTape via 2 = true →
      (s.csv.state = .off → exec (.chaseDisable via []) s = .next ((s.heard via).report via 0x08 .done [])) ∧
      (s.csv.state ≠ .off →
        let released (tsq : Tsq) : State :=
          { s.heard via with
            csv := { s.csv with
              state := .off, engagedBy := .nothing, followStep := .approaching, pullTimer := 0, lockRun := 0,
              blankRun := 0, rerolls := 0, offTime := 0 },
            tsq := tsq }
        let answered (tsq : Tsq) : Prop :=
          exec (.chaseDisable via []) s = .next ((released tsq).report via 0x08 .done [])
        (s.rcc.state ≠ .recording → s.tsq.reqMode ≠ .still → s.pins.tally ≠ .still →
          answered { s.tsq with
            state := .still, reqMode := .still, reqSpeed := 0, reqTrack := 0, matched := false,
            wait := some { settle := 0, busy := 0 } }) ∧
        (s.rcc.state ≠ .recording → s.tsq.pendingOp = none → s.tsq.slot = none → s.tsq.recovery = .idle →
          (s.tsq.reqMode ≠ .still → s.pins.tally = .still →
            answered { s.tsq with
              state := .still, reqMode := .still, reqSpeed := 0, reqTrack := 0, matched := true, wait := none }) ∧
          (s.tsq.reqMode = .still →
            answered { s.tsq with
              state := .still, reqSpeed := 0, wait := if s.tsq.matched then none else s.tsq.wait })) ∧
        (∀ g, s.rcc.state = .recording → s.rcc.record = some g →
          ∃ t : State, exec (.chaseDisable via []) s = .next (t.report via 0x08 .done []) ∧ cutOut t g ∧
            t.csv = (released t.tsq).csv ∧
            (s.tsq.slot = none → s.tsq.recovery = .idle → t.tsq.state = .still ∧ t.tsq.reqMode = .still) ∧
            t.holdsEvent .lockLost = s.holdsEvent .lockLost ∧
            t.psu = s.psu ∧ t.ten = s.ten ∧ t.cul = s.cul ∧ t.pins = s.pins ∧ (s.heard via).Bystanders t)))

/-- CHASE STORE replaces the stored chase record with the record of the directive, its fields in the order and the ranges of the
layout (R68, R103), and starts nothing; the own number as master is SELF_MASTER, an active chase CHASE_ACTIVE, and no transport state
or position source matters (R105). -/
def Obligations.ChaseStoreKeepsTheRecord : Prop :=
  ∀ (via : Via) (master o3 o2 o1 o0 window blanking pull l1 l0 retries off : Byte) (rest : List Byte) (s : State)
      (c : Settings), s.dhd.config = some c → s.obeysTape via (rest.length + 14) = true →
    let offset : Int := (o3 ++ o2 ++ o1 ++ o0 : BitVec 32).toInt
    let limit : Nat := (l1 ++ l0 : BitVec 16).toNat
    1 ≤ master.toNat → master.toNat ≤ 30 → 2 * offset.natAbs < c.standard.day → 8 ≤ window.toNat → window.toNat ≤ 128 →
    blanking.toNat ≤ 3 → pull.toNat ≤ 3 → 50 ≤ limit → limit ≤ 1000 → retries.toNat ≤ 3 → off.toNat ≤ 3 →
    let r : ChaseRecord :=
      { master := master.toNat, offset := offset, lockWindow := window.toNat, blankingCount := 2 * 2 ^ blanking.toNat,
        pullLimit := pull.toNat, pullTimeLimit := limit, retries := retries.toNat, rerollOffTime := 25 * 2 ^ off.toNat }
    let given : Instr :=
      .chaseStore via (master :: o3 :: o2 :: o1 :: o0 :: window :: blanking :: pull :: l1 :: l0 :: retries :: off :: rest)
    exec given s =
      .next (if s.isOwn r.master then (s.heard via).report via 0x08 .selfMaster []
        else if s.csv.state ≠ .off then (s.heard via).report via 0x08 .chaseActive []
        else { s.heard via with csv := { s.csv with record := some r } }.report via 0x08 .done [])

/-- LOAD_CUE with every parameter in range, its fields in the order of the layout: the cue it spells is refused with CUE_BUSY while
the cue of its id is ARMED, with ZONE_CONFLICT for a RECORD_IN on the own tape triggered within a zone, with LIST_FULL for a 33rd id;
it takes the place of the cue of its id, or joins the end of the list, and nothing else changes (R68, R122 to R124). -/
def Obligations.LoadCueJoinsTheList : Prop :=
  ∀ (via : Via) (id act ref pres h m sec f mask d1 d0 guard choice count e1 e2 e3 e4 notify : Byte) (rest : List Byte)
      (s : State) (cfg : Settings) (action : CueAction) (trigger : Option Nat), s.dhd.config = some cfg →
    s.obeys via (rest.length + 20) = true → s.cuesLegal →
    let duration : Nat := (d1 ++ d0 : BitVec 16).toNat
    let entries : List Byte := [e1, e2, e3, e4].take count.toNat
    let spelt : Prop :=
      (act = 0 ∧ 1 ≤ mask.toNat ∧ mask.toNat ≤ 31 ∧ (pres.getLsbD 1 = true → 1 ≤ duration) ∧ guard.toNat ≤ 1 ∧
          action = .recordIn (mask.setWidth 5) (if pres.getLsbD 1 then some duration else none)
            (if guard = 0 then .strict else .lenient)) ∨
        (act = 1 ∧ action = .recordOut) ∨ (act = 2 ∧ action = .transitionStart) ∨
        (act = 3 ∧
          ((choice = 0 ∧ action = .mode .stop) ∨ (choice = 1 ∧ action = .mode .still) ∨
            (choice = 2 ∧ action = .mode .play))) ∨
        (act = 4 ∧ action = .chaseEngage) ∨ (act = 5 ∧ action = .chaseRelease) ∨
        (act = 6 ∧ 1 ≤ choice.toNat ∧ choice.toNat ≤ 4 ∧ action = .pulse choice.toNat)
    let triggered : Prop :=
      (pres.getLsbD 0 = false ∧ trigger = none) ∨
        ∃ n, pres.getLsbD 0 = true ∧ trigger = some n ∧
          labelCount cfg.standard { hours := h, minutes := m, seconds := sec, frames := f } = some n
    spelt → triggered → 1 ≤ id.toNat → ref.toNat ≤ 30 → s.isOwn ref.toNat = false → count.toNat ≤ 4 →
    (∀ b ∈ entries, b.toNat ≤ 30 ∧ s.isOwn b.toNat = false) → entries.Nodup →
    (pres.getLsbD 2 = true → 1 ≤ notify.toNat ∧ notify.toNat ≤ 30) →
    (act = 0 ∨ act = 1 ∨ act = 3 ∨ act = 4 ∨ act = 5 ∨ ref = 0 ∨ 0 ∈ entries → s.dhd.transportFitted = true) →
    (act = 2 → s.dhd.channelFitted = true) →
    let c : Cue :=
      { id := id.toNat, action := action, reference := ref.toNat, trigger := trigger, armed := false,
        lockList := entries.map (·.toNat), notify := if pres.getLsbD 2 then some notify.toNat else none }
    let given : Instr :=
      .loadCue via
        (id :: act :: ref :: pres :: h :: m :: sec :: f :: mask :: d1 :: d0 :: guard :: choice :: count :: e1 :: e2 :: e3 ::
          e4 :: notify :: rest)
    let conflict : Prop :=
      ref = 0 ∧ act = 0 ∧ ∃ t, trigger = some t ∧ ∃ z ∈ s.rcc.zones, z.start ≤ t * 256 ∧ t * 256 < z.stop
    ((∃ x ∈ s.cul.cues, x.id = c.id ∧ x.armed = true) →
      exec given s = .next ((s.heard via).report via 0x09 .cueBusy [])) ∧
    ((∀ x ∈ s.cul.cues, x.id = c.id → x.armed = false) →
      (conflict → exec given s = .next ((s.heard via).report via 0x09 .zoneConflict [])) ∧
      (¬conflict →
        (∀ before old after, s.cul.cues = before ++ old :: after → old.id = c.id →
          exec given s =
            .next ({ s.heard via with cul := { s.cul with cues := before ++ c :: after } }.report via 0x09 .done [])) ∧
        ((∀ x ∈ s.cul.cues, x.id ≠ c.id) → s.cul.cues.length = 32 →
          exec given s = .next ((s.heard via).report via 0x09 .listFull [])) ∧
        ((∀ x ∈ s.cul.cues, x.id ≠ c.id) → s.cul.cues.length < 32 →
          exec given s =
            .next ({ s.heard via with cul := { s.cul with cues := s.cul.cues ++ [c] } }.report via 0x09 .done []))))

/-- DROP_CUE with an id removes the cue with that id, PENDING or ARMED, and is NO_SUCH_CUE when there is none; with id 0 it removes
every cue, of an empty list too. It changes nothing but the list, and answers (R125). -/
def Obligations.DropCueRemovesTheCue : Prop :=
  ∀ (via : Via) (id : Byte) (s : State), s.obeys via 2 = true →
    (id = 0 → exec (.dropCue via [id]) s = .next ({ s.heard via with cul := { s.cul with cues := [] } }.report via 0x0A .done [])) ∧
    (id ≠ 0 → (∃ c ∈ s.cul.cues, c.id = id.toNat) →
      exec (.dropCue via [id]) s =
        .next ({ s.heard via with cul := { s.cul with
          cues := s.cul.cues.filter fun c => decide (c.id ≠ id.toNat) } }.report via 0x0A .done [])) ∧
    (id ≠ 0 → (∀ c ∈ s.cul.cues, c.id ≠ id.toNat) →
      exec (.dropCue via [id]) s = .next ((s.heard via).report via 0x0A .noSuchCue []))

/-- ROLL replaces whatever the slot holds with its stamp plus its delay: the stamp is the field count from the port and for a frame
of the current parity, one less for a frame of the other; a start count still to come waits in the slot. One equal to the
present count is carried out at once: PLAY is requested of a deck in STILL or STOPPED. A delay of 0 from the line, or below 2
from the port, is BAD_PARAMETER (R68, R135, R136). That the slot keeps the directive's sequence, for the roll's
MODE record, is the model's own (notes/assumptions/39.md). -/
def Obligations.RollWaitsForItsStart : Prop :=
  ∀ (via : Via) (delay mode : Byte) (s : State), s.obeysTape via 3 = true → mode.toNat ≤ 1 →
    let stamp : Count32 :=
      match via with
      | .line _ _ _ parity => if parity = s.ftu.parity then s.ftu.counter else s.ftu.counter - 1
      | .port _ => s.ftu.counter
    let start : Count32 := stamp + delay.setWidth 32
    let least : Nat := match via with | .line _ _ _ _ => 1 | .port _ => 2
    (delay.toNat < least → exec (.roll via [delay, mode]) s = .next ((s.heard via).report via 0x0B .badParameter [])) ∧
    (least ≤ delay.toNat → start ≠ s.ftu.counter →
      exec (.roll via [delay, mode]) s =
        .next ({ s.heard via with cul := { s.cul with roll := some { start := start, engage := mode == 1, seq := Via.seq via } } }.report
          via 0x0B .done [])) ∧
    (least ≤ delay.toNat → start = s.ftu.counter → mode = 0 → s.tsq.state = .still ∨ s.tsq.state = .stopped →
      s.tsq.reqMode ≠ .play → s.pins.tally ≠ .play →
      exec (.roll via [delay, mode]) s =
        .next ({ s.heard via with
          cul := { s.cul with roll := none },
          tsq := { s.tsq with
            state := .playing, reqMode := .play, reqSpeed := 0, reqTrack := 0, matched := false,
            wait := some { settle := 0, busy := 0 },
            pendingOp := some
              { kind := .mode, issuer := .nobody, seq := Via.seq via, origin := .directive 0x0B, target := 0, reversals := 0,
                lastSign := none } } }.report via 0x0B .done []))

/-- LOAD_ZONE: a start at or past the end is BAD_ZONE, an overlap ZONE_OVERLAP, a ninth zone ZONES_FULL, a zone round the place a
segment is recording ZONE_CONFLICT; otherwise the zone stands in the table by the order of its start, in place among the
others, and nothing else changes. A label that is not valid is BAD_TIMECODE. CLEAR_ZONES empties the table in every segment
state, and a segment goes on (R68, R151 to R153). -/
def Obligations.ZonesAreLoadedAndCleared : Prop :=
  ∀ (via : Via) (s : State) (cfg : Settings), s.dhd.config = some cfg →
    (∀ (a b : Label), s.obeysTape via 9 = true →
      let given : Instr := .loadZone via [a.hours, a.minutes, a.seconds, a.frames, b.hours, b.minutes, b.seconds, b.frames]
      (labelCount cfg.standard a = none ∨ labelCount cfg.standard b = none →
        exec given s = .next ((s.heard via).report via 0x0C .badTimecode [])) ∧
      (∀ m n, labelCount cfg.standard a = some m → labelCount cfg.standard b = some n →
        let zone : Zone := { start := m * 256, stop := n * 256 }
        (n ≤ m → exec given s = .next ((s.heard via).report via 0x0C .badZone [])) ∧
        (m < n → (∃ z ∈ s.rcc.zones, ∃ x, z.start ≤ x ∧ x < z.stop ∧ m * 256 ≤ x ∧ x < n * 256) →
          exec given s = .next ((s.heard via).report via 0x0C .zoneOverlap [])) ∧
        (m < n → (∀ z ∈ s.rcc.zones, z.start < z.stop → z.stop ≤ m * 256 ∨ n * 256 ≤ z.start) →
          (∀ z ∈ s.rcc.zones, z.start < z.stop) →
          (8 ≤ s.rcc.zones.length → exec given s = .next ((s.heard via).report via 0x0C .zonesFull [])) ∧
          (s.rcc.zones.length < 8 →
            (∀ x, s.rcc.state = .recording → s.own = some x → m * 256 ≤ x → x < n * 256 →
              exec given s = .next ((s.heard via).report via 0x0C .zoneConflict [])) ∧
            (s.rcc.state ≠ .recording ∨ s.own = none ∨ (∃ x, s.own = some x ∧ (x < m * 256 ∨ n * 256 ≤ x)) →
              ∃ before after, s.rcc.zones = before ++ after ∧ (∀ z ∈ before, z.start < m * 256) ∧
                (∀ z, after.head? = some z → m * 256 ≤ z.start) ∧
                exec given s =
                  .next ({ s.heard via with rcc := { s.rcc with zones := before ++ zone :: after } }.report via 0x0C .done [])))))) ∧
    (s.obeysTape via 1 = true →
      exec (.clearZones via []) s = .next ({ s.heard via with rcc := { s.rcc with zones := [] } }.report via 0x0D .done []))

/-- SET_TRANSITION in AT_REST or PRESET sets the preset record, the B bus and PRESET; TAKE in PRESET starts the transition at k = 0,
K, D, the edges and the gains those of k = 0, or completes one of length 0 at once. On air the first, and with no preset or on air the second,
is refused (R156, R158, R159, R160, R162, R163). -/
def Obligations.TransitionIsSetAndTaken : Prop :=
  ∀ (via : Via) (s : State),
    (∀ (source kind d1 d0 pattern split lever : Byte) (k : TransitionKind) (pat : Option Pattern),
      s.obeysChannel via 8 = true → source.toNat ≤ 7 → d1.toNat * 256 + d0.toNat ≤ 999 → -60 ≤ split.toInt →
      split.toInt ≤ 60 → lever.toNat ≤ 1 →
      (kind = 0 ∧ k = .cut ∧ pat = none) ∨ (kind = 1 ∧ k = .mix ∧ pat = none) ∨ (kind = 2 ∧ k = .dip ∧ pat = none) ∨
        (kind = 3 ∧ k = .wipe ∧ pattern.toNat ≤ 4 ∧
          pat = [Pattern.leftRight, .rightLeft, .topDown, .splitH, .boxOut][pattern.toNat]?) →
      let given : Instr := .setTransition via [source, kind, d1, d0, pattern, split, lever]
      (s.ten.state = .atRest ∨ s.ten.state = .preset →
        exec given s =
          .next ({ s.heard via with ten := { s.ten with
            state := .preset, bSel := source.toNat,
            preset := some
              { toSource := source.toNat, kind := k, duration := d1.toNat * 256 + d0.toNat, pattern := pat,
                split := split.toInt, leverAllowed := lever == 1 } } }.report via 0x0E .done [])) ∧
      (s.ten.state ≠ .atRest → s.ten.state ≠ .preset →
        exec given s = .next ((s.heard via).report via 0x0E .transitionActive []))) ∧
    (s.obeysChannel via 1 = true →
      (∀ p, s.ten.state = .preset → s.ten.preset = some p →
        (p.kind = .cut ∨ p.duration = 0 →
          ∃ t : State, exec (.take via []) s = .next (t.report via 0x10 .done []) ∧
            t = { s.heard via with ten := t.ten } ∧ t.ten.state = .atRest ∧ t.ten.aSel = p.toSource ∧ t.ten.bSel = s.ten.bSel ∧
            t.ten.preset = none ∧ t.ten.k = 0 ∧ t.ten.progress = 0 ∧ t.ten.outK = 0 ∧ t.ten.outD = 0 ∧
            t.ten.gainA = 1024 ∧ t.ten.gainB = 0 ∧ t.ten.edges = List.replicate s.lineCount (0, 0)) ∧
        (p.kind ≠ .cut → 1 ≤ p.duration →
          ∃ t : State, exec (.take via []) s = .next (t.report via 0x10 .done []) ∧
            t = { s.heard via with ten := t.ten } ∧ t.ten.state = .running ∧ t.ten.aSel = s.ten.aSel ∧ t.ten.bSel = s.ten.bSel ∧
            t.ten.preset = some p ∧ t.ten.k = 0 ∧ t.ten.progress = 0 ∧ t.ten.outK = 0 ∧ t.ten.outD = 0 ∧
            t.ten.audio = (clampInt 0 (2 * p.duration : Nat) (-p.split)).toNat * 1024 / (2 * p.duration) ∧
            t.ten.gainB = t.ten.audio ∧ t.ten.gainA = 1024 - t.ten.audio ∧ ∀ e ∈ t.ten.edges, e = (0, 0))) ∧
      (s.ten.state = .atRest → exec (.take via []) s = .next ((s.heard via).report via 0x10 .noPreset [])) ∧
      (s.ten.state = .running ∨ s.ten.state = .paused ∨ s.ten.state = .lever →
        exec (.take via []) s = .next ((s.heard via).report via 0x10 .transitionActive [])))

/-- SELECT_A in AT_REST or PRESET puts the source on the A bus at once and is DONE; in RUNNING, PAUSED or LEVER it is refused with
TRANSITION_ACTIVE (R157). -/
def Obligations.SelectASetsTheABus : Prop :=
  ∀ (via : Via) (source : Byte) (s : State), s.obeysChannel via 2 = true → source.toNat ≤ 7 →
    (s.ten.state = .atRest ∨ s.ten.state = .preset →
      exec (.selectA via [source]) s =
        .next ({ s.heard via with ten := { s.ten with aSel := source.toNat } }.report via 0x0F .done [])) ∧
    (s.ten.state = .running ∨ s.ten.state = .paused ∨ s.ten.state = .lever →
      exec (.selectA via [source]) s = .next ((s.heard via).report via 0x0F .transitionActive []))

/-- PAUSE and RESUME by the table of R164; ABORT TRANSITION on air completes the transition, the new source on the A bus, or
reverts it to its preset, the rest values standing either way; with nothing on air it is DONE and changes nothing (R163 to
R165). -/
def Obligations.PauseResumeAndAbort : Prop :=
  ∀ (via : Via) (s : State),
    (s.obeysChannel via 1 = true →
      exec (.pause via []) s = .next (match s.ten.state with
        | .atRest => (s.heard via).report via 0x11 .noPreset []
        | .lever => (s.heard via).report via 0x11 .transitionActive []
        | .running => { s.heard via with ten := { s.ten with state := .paused } }.report via 0x11 .done []
        | .preset | .paused => (s.heard via).report via 0x11 .done []) ∧
      exec (.resume via []) s = .next (match s.ten.state with
        | .atRest => (s.heard via).report via 0x12 .noPreset []
        | .lever => (s.heard via).report via 0x12 .transitionActive []
        | .paused => { s.heard via with ten := { s.ten with state := .running } }.report via 0x12 .done []
        | .preset | .running => (s.heard via).report via 0x12 .done [])) ∧
    (s.obeysChannel via 3 = true →
      (∀ p, s.ten.state = .running ∨ s.ten.state = .paused ∨ s.ten.state = .lever → s.ten.preset = some p →
        exec (.abortTransitionComplete via []) s =
          .next ({ s.heard via with ten := { s.ten with
            state := .atRest, aSel := p.toSource, preset := none, k := 0, progress := 0, audio := 0, outK := 0, outD := 0,
            gainA := 1024, gainB := 0, edges := List.replicate s.lineCount (0, 0) } }.report via 0x13 .done []) ∧
        exec (.abortTransitionRevert via []) s =
          .next ({ s.heard via with ten := { s.ten with
            state := .preset, k := 0, progress := 0, audio := 0, outK := 0, outD := 0, gainA := 1024, gainB := 0,
            edges := List.replicate s.lineCount (0, 0) } }.report via 0x13 .done [])) ∧
      (s.ten.state = .atRest ∨ s.ten.state = .preset →
        exec (.abortTransitionComplete via []) s = .next ((s.heard via).report via 0x13 .done []) ∧
        exec (.abortTransitionRevert via []) s = .next ((s.heard via).report via 0x13 .done [])))

/-- ABORT TRANSPORT_OP ends a cue with CUE_ABORTED and STILL, whose wait goes on where STILL was requested already, an eject with
ABORTED and STOP, empties the deferral slot with SUPERSEDED, and is answered DONE; that its DONE comes after their reports is the
model's own order (notes/assumptions/22.md). With nothing in flight it only answers. ABORT SEGMENT ends a RECORDING segment by
emergency out with reason ABORTED, its notice sent and the record left for STATUS with the last recorded frame, the next one and what
remains of its duration, and in IDLE or GAP only answers (R96, R97, R140, R147 to R150). -/
def Obligations.AbortEndsOperationAndSegment : Prop :=
  ∀ (via : Via) (s : State), s.obeysTape via 2 = true →
    (∀ o, s.tsq.pendingOp = some o → o.kind = .cueTo ∨ o.kind = .jog → s.tsq.slot = none → s.tsq.reqMode ≠ .still →
      s.pins.tally ≠ .still →
      exec (.abortTransportOp via []) s =
        .next (let t := { s.heard via with tsq := { s.tsq with pendingOp := none } }.answer o.issuer o.seq o.kind.typeByte .cueAborted []
          ({ t with tsq := { t.tsq with
            state := .still, reqMode := .still, reqSpeed := 0, reqTrack := 0, matched := false,
            wait := some { settle := 0, busy := 0 } } }.report via 0x13 .done []))) ∧
    (∀ o, s.tsq.pendingOp = some o → o.kind = .cueTo ∨ o.kind = .jog → s.tsq.slot = none → s.tsq.reqMode = .still →
      s.tsq.recovery = .idle →
      exec (.abortTransportOp via []) s =
        .next ({ s.heard via with tsq := { s.tsq with
          state := .still, pendingOp := none, reqSpeed := 0, wait := if s.tsq.matched then none else s.tsq.wait } }.answer
            o.issuer o.seq o.kind.typeByte .cueAborted [] |>.report via 0x13 .done [])) ∧
    (∀ o, s.tsq.pendingOp = some o → o.kind = .eject → s.tsq.slot = none → s.tsq.reqMode ≠ .stop →
      s.pins.tally ≠ .stop →
      exec (.abortTransportOp via []) s =
        .next (let t := { s.heard via with tsq := { s.tsq with pendingOp := none } }.answer o.issuer o.seq 0x05 .aborted []
          ({ t with tsq := { t.tsq with
            state := .stopped, reqMode := .stop, reqSpeed := 0, reqTrack := 0, matched := false,
            wait := some { settle := 0, busy := 0 } } }.report via 0x13 .done []))) ∧
    (s.tsq.pendingOp = none → s.tsq.slot = none →
      exec (.abortTransportOp via []) s = .next ((s.heard via).report via 0x13 .done [])) ∧
    (∀ h, s.tsq.pendingOp = none → s.tsq.slot = some h →
      exec (.abortTransportOp via []) s =
        .next (({ s.heard via with tsq := { s.tsq with slot := none } }.answer h.issuer h.seq h.motion.typeByte .superseded []).report
          via 0x13 .done [])) ∧
    (s.rcc.state ≠ .recording → s.tsq.slot = none → exec (.abortSegment via []) s = .next ((s.heard via).report via 0x13 .done [])) ∧
    (∀ g own c, s.rcc.state = .recording → s.rcc.record = some g → s.own = some own → s.dhd.config = some c →
      ∃ t : State, exec (.abortSegment via []) s = .next (t.report via 0x13 .done []) ∧ t.rcc.record = none ∧
        t.rcc.state = (if c.turnaround = 0 then .idle else .gap) ∧ t.rcc.gapCount = 2 * c.turnaround ∧
        t.rcc.zones = s.rcc.zones ∧ t.holdsEvent .segmentAborted = true ∧
        t.dhd.sense = some
          { code := .aborted, origin := .cue g.origin, address := some (own / 256),
            nextFrame := some ((own / 256 + 1) % c.standard.framesPerDay),
            remaining := g.duration.map fun d =>
              d - (((own / 256 : Nat) + 1 - g.inFrame : Int) % (c.standard.framesPerDay : Int)).toNat } ∧
        (s.nothingToReport → s.SegmentNoticed t g .aborted (s.recordedTo g)) ∧
        (s.tsq.state = .recording → s.tsq.slot = none → s.tsq.reqMode = .record → s.tsq.recovery = .idle →
          t.tsq.state = .playing ∧ t.tsq.reqMode = .play) ∧
        t.psu = s.psu ∧ t.ten = s.ten ∧ t.cul = s.cul ∧ t.pins = s.pins ∧ t.csv.state = s.csv.state ∧ (s.heard via).Bystanders t)

/-- ALL_STOP from the port is answered DONE and makes the station drive the stop signal, its own frame cut short; the stop event is
the signal's own, later. A listen-only station takes the stop event of its own at once. From the line it is BAD_PARAMETER
(R33, R38, R68, R174). That the row with the port as its way leaves SEND's outcome, unread and buffer as they were is the model's
choice (notes/assumptions/41.md). -/
def Obligations.AllStopEmitsTheSignal : Prop :=
  ∀ (s : State), s.dhd.config.isSome = true →
    (∀ seq, s.lif.listenOnly = false →
      ∃ t : State, exec (.allStop (.port seq) []) s = .next t ∧ t.lif.emitting = true ∧ t.lif.sending = none ∧
        (s.lif.watch = .steady → t.lif.watch = .abandoned) ∧ t.tsq = s.tsq ∧ t.csv = s.csv ∧ t.cul = s.cul ∧
        t.rcc = s.rcc ∧ t.ten = s.ten ∧ t.psu = s.psu ∧
        (s.lpt.rxQueue.length < 8 →
          t.lpt = { s.lpt with rxQueue := s.lpt.rxQueue ++
            [{ bytes := [s.sourceNumber.setWidth 8, 2, seq, 2, 0x14, 0x00], place := 0 }] })) ∧
    (∀ seq, s.lif.listenOnly = true → (s.rcc.state = .recording → s.rcc.record.isSome = true) →
      ∃ t : State, exec (.allStop (.port seq) []) s = .next t ∧ t.holdsEvent .allStop = true ∧ t.csv.state = .off ∧
        t.cul.cues = [] ∧ t.cul.roll = none ∧ t.rcc.state ≠ .recording ∧ t.ten.state ≠ .running ∧
        t.lif.emitting = s.lif.emitting) ∧
    (∀ source dest seq parity, s.obeys (.line source dest seq parity) 1 = true →
      exec (.allStop (.line source dest seq parity) []) s =
        .next (s.lineBusy.report (.line source dest seq parity) 0x14 .badParameter []))

/-! ### The local port -/

/-- A byte written joins the end of the assembly buffer, the 36th being lost with the overrun mark set; CLEAR empties the buffer and
clears the mark; NEXT removes the head message; a write of address 3 sets the two enables; a write of address 2, or of any
other byte at address 1, does nothing (R172, R175, R176).
A read of address 0 returns the byte at the head's read place and moves the place by one, and returns 0 and moves nothing at the
head's end or with the queue empty; it removes no message (R175). A read of address 1 returns the status byte of R176, at most
one of its bits 1 to 3 set, and clears outcome unread. INT stands for a message or an unread outcome that its enable lets
through (R176). -/
def Obligations.PortAccessesActOnThePort : Prop :=
  (∀ (byte : Byte) (s : State),
    (s.lpt.buffer.length < 35 →
      exec (.assemblyByteWrite byte) s = .next { s with lpt := { s.lpt with buffer := s.lpt.buffer ++ [byte] } }) ∧
    (35 ≤ s.lpt.buffer.length →
      exec (.assemblyByteWrite byte) s = .next { s with lpt := { s.lpt with overrun := true } }) ∧
    exec .clear s = .next { s with lpt := { s.lpt with buffer := [], overrun := false } } ∧
    (∀ m rest, s.lpt.rxQueue = m :: rest → exec .next s = .next { s with lpt := { s.lpt with rxQueue := rest } }) ∧
    (s.lpt.rxQueue = [] → exec .next s = .next s) ∧
    exec (.interruptMaskWrite byte) s =
      .next { s with lpt := { s.lpt with maskRx := byte.getLsbD 0, maskSend := byte.getLsbD 1 } } ∧
    exec (.portWriteNoEffect 2 byte) s = .next s ∧
    (byte ≠ 1 → byte ≠ 2 → byte ≠ 3 → exec (.portWriteNoEffect 1 byte) s = .next s)) ∧
  (∀ s : State,
    (∀ m rest b, s.lpt.rxQueue = m :: rest → m.bytes[m.place]? = some b →
      exec .receiveByteRead s =
        .next { s with lpt := { s.lpt with readData := b, rxQueue := { m with place := m.place + 1 } :: rest } }) ∧
    (∀ m rest, s.lpt.rxQueue = m :: rest → m.bytes.length ≤ m.place →
      exec .receiveByteRead s = .next { s with lpt := { s.lpt with readData := 0 } }) ∧
    (s.lpt.rxQueue = [] → exec .receiveByteRead s = .next { s with lpt := { s.lpt with readData := 0 } }) ∧
    (∃ b : Byte, exec .statusByteRead s = .next { s with lpt := { s.lpt with readData := b, unread := false } } ∧
      (b.getLsbD 0 = true ↔ s.lpt.rxQueue ≠ []) ∧ (b.getLsbD 1 = true ↔ s.lpt.outcome = .taken) ∧
      (b.getLsbD 2 = true ↔ s.lpt.outcome = .refused) ∧ (b.getLsbD 3 = true ↔ s.lpt.outcome = .invalid) ∧
      (b.getLsbD 4 = true ↔ s.lif.listenOnly = true) ∧ b.toNat < 32) ∧
    (s.intLine = true ↔
      (s.lpt.maskRx = true ∧ s.lpt.rxQueue ≠ []) ∨ (s.lpt.maskSend = true ∧ s.lpt.unread = true)))

/-- SEND: a buffer that overran, is shorter than 3 bytes, names a destination of 31 or more, a length above 32 or other than that of
its payload, or a ROLL for the line with no delay of 2 or more, is INVALID and kept; one for the line is REFUSED and kept at a
listen-only station or a transmit queue of 7, and otherwise joins the queue behind the directives there; one for the own
station, or ALL_STOP, is TAKEN and handed over as a directive from the port. Outcome unread is set each time (R172 to R174).
That the directive's own row, with the port as its way, is the handing over alone is the model's choice (notes/assumptions/41.md). -/
def Obligations.SendHandsOverTheBuffer : Prop :=
  ∀ s : State,
    (s.lpt.overrun = true ∨ s.lpt.buffer.length < 3 →
      exec .send s = .next { s with lpt := { s.lpt with outcome := .invalid, unread := true } }) ∧
    (∀ (dest seq len : Byte) (payload : List Byte), s.lpt.overrun = false →
      s.lpt.buffer = dest :: seq :: len :: payload →
      let self : Prop :=
        payload.head? = some 0x14 ∨ s.isOwn dest.toNat = true ∨ (dest = 0 ∧ s.dhd.stn = 0) ∨ (dest = 0 ∧ s.dhd.stn = 31)
      let unfit : Prop :=
        payload = [0x0B] ∨ ∃ delay rest, payload = 0x0B :: delay :: rest ∧ delay.toNat < 2
      let taken : Lpt := { s.lpt with outcome := .taken, unread := true, buffer := [] }
      (31 ≤ dest.toNat ∨ 32 < len.toNat ∨ payload.length ≠ len.toNat ∨ (¬self ∧ unfit) →
        exec .send s = .next { s with lpt := { s.lpt with outcome := .invalid, unread := true } }) ∧
      (dest.toNat < 31 → len.toNat ≤ 32 → payload.length = len.toNat →
        (¬self → ¬unfit →
          (s.lif.listenOnly = true ∨ 7 ≤ s.lif.nonAnnouncements →
            exec .send s = .next { s with lpt := { s.lpt with outcome := .refused, unread := true } }) ∧
          (s.lif.listenOnly = false → s.lif.nonAnnouncements < 7 →
            exec .send s =
              .next { s with
                lpt := taken,
                lif := { s.lif with
                  waiting := s.lif.waiting.takeWhile (fun m => m.kind = .directive) ++
                    { kind := .directive, dest := dest.setWidth 5, seq := seq, payload := payload, age := 0 } ::
                      s.lif.waiting.dropWhile (fun m => m.kind = .directive) } })) ∧
        (∀ i, self → directiveOf i = some (.port seq, payload) → exec .send s = exec i { s with lpt := taken })))
end

