-- ==== Sys2Proof/Laws/State.lean ====
section
/-! SUPPORT. What each update of the state leaves and sets, field by field, each true by unfolding the record. -/

namespace Sys2Proof.Machine

/-! ### latch -/

@[simp] theorem State.latch_ftu (e : Event) (s : State) : (s.latch e).ftu = s.ftu := rfl
@[simp] theorem State.latch_lif (e : Event) (s : State) : (s.latch e).lif = s.lif := rfl
@[simp] theorem State.latch_psu (e : Event) (s : State) : (s.latch e).psu = s.psu := rfl
@[simp] theorem State.latch_ptb (e : Event) (s : State) : (s.latch e).ptb = s.ptb := rfl
@[simp] theorem State.latch_tsq (e : Event) (s : State) : (s.latch e).tsq = s.tsq := rfl
@[simp] theorem State.latch_csv (e : Event) (s : State) : (s.latch e).csv = s.csv := rfl
@[simp] theorem State.latch_cul (e : Event) (s : State) : (s.latch e).cul = s.cul := rfl
@[simp] theorem State.latch_rcc (e : Event) (s : State) : (s.latch e).rcc = s.rcc := rfl
@[simp] theorem State.latch_ten (e : Event) (s : State) : (s.latch e).ten = s.ten := rfl
@[simp] theorem State.latch_lpt (e : Event) (s : State) : (s.latch e).lpt = s.lpt := rfl
@[simp] theorem State.latch_pins (e : Event) (s : State) : (s.latch e).pins = s.pins := rfl
@[simp] theorem State.latch_order (e : Event) (s : State) : (s.latch e).order = s.order := rfl
@[simp] theorem State.latch_pending (e : Event) (s : State) : (s.latch e).pending = s.pending := rfl
@[simp] theorem State.latch_dhd_events (e : Event) (s : State) :
    (s.latch e).dhd.events = s.dhd.events ||| e.mask := rfl
@[simp] theorem State.latch_dhd_config (e : Event) (s : State) :
    (s.latch e).dhd.config = s.dhd.config := rfl
@[simp] theorem State.latch_dhd_sense (e : Event) (s : State) :
    (s.latch e).dhd.sense = s.dhd.sense := rfl
@[simp] theorem State.latch_dhd_stn (e : Event) (s : State) :
    (s.latch e).dhd.stn = s.dhd.stn := rfl
@[simp] theorem State.latch_dhd_transportFitted (e : Event) (s : State) :
    (s.latch e).dhd.transportFitted = s.dhd.transportFitted := rfl
@[simp] theorem State.latch_dhd_channelFitted (e : Event) (s : State) :
    (s.latch e).dhd.channelFitted = s.dhd.channelFitted := rfl

/-! ### writeSense -/

@[simp] theorem State.writeSense_ftu (r : Sense) (s : State) : (s.writeSense r).ftu = s.ftu := rfl
@[simp] theorem State.writeSense_lif (r : Sense) (s : State) : (s.writeSense r).lif = s.lif := rfl
@[simp] theorem State.writeSense_psu (r : Sense) (s : State) : (s.writeSense r).psu = s.psu := rfl
@[simp] theorem State.writeSense_ptb (r : Sense) (s : State) : (s.writeSense r).ptb = s.ptb := rfl
@[simp] theorem State.writeSense_tsq (r : Sense) (s : State) : (s.writeSense r).tsq = s.tsq := rfl
@[simp] theorem State.writeSense_csv (r : Sense) (s : State) : (s.writeSense r).csv = s.csv := rfl
@[simp] theorem State.writeSense_cul (r : Sense) (s : State) : (s.writeSense r).cul = s.cul := rfl
@[simp] theorem State.writeSense_rcc (r : Sense) (s : State) : (s.writeSense r).rcc = s.rcc := rfl
@[simp] theorem State.writeSense_ten (r : Sense) (s : State) : (s.writeSense r).ten = s.ten := rfl
@[simp] theorem State.writeSense_lpt (r : Sense) (s : State) : (s.writeSense r).lpt = s.lpt := rfl
@[simp] theorem State.writeSense_pins (r : Sense) (s : State) : (s.writeSense r).pins = s.pins := rfl
@[simp] theorem State.writeSense_order (r : Sense) (s : State) : (s.writeSense r).order = s.order := rfl
@[simp] theorem State.writeSense_pending (r : Sense) (s : State) : (s.writeSense r).pending = s.pending := rfl
@[simp] theorem State.writeSense_dhd_sense (r : Sense) (s : State) :
    (s.writeSense r).dhd.sense = some r := rfl
@[simp] theorem State.writeSense_dhd_events (r : Sense) (s : State) :
    (s.writeSense r).dhd.events = s.dhd.events := rfl
@[simp] theorem State.writeSense_dhd_config (r : Sense) (s : State) :
    (s.writeSense r).dhd.config = s.dhd.config := rfl
@[simp] theorem State.writeSense_dhd_stn (r : Sense) (s : State) :
    (s.writeSense r).dhd.stn = s.dhd.stn := rfl
@[simp] theorem State.writeSense_dhd_transportFitted (r : Sense) (s : State) :
    (s.writeSense r).dhd.transportFitted = s.dhd.transportFitted := rfl
@[simp] theorem State.writeSense_dhd_channelFitted (r : Sense) (s : State) :
    (s.writeSense r).dhd.channelFitted = s.dhd.channelFitted := rfl

/-! ### setPending -/

@[simp] theorem State.setPending_dhd (o : Option PendingOp) (s : State) : (s.setPending o).dhd = s.dhd := rfl
@[simp] theorem State.setPending_ftu (o : Option PendingOp) (s : State) : (s.setPending o).ftu = s.ftu := rfl
@[simp] theorem State.setPending_lif (o : Option PendingOp) (s : State) : (s.setPending o).lif = s.lif := rfl
@[simp] theorem State.setPending_psu (o : Option PendingOp) (s : State) : (s.setPending o).psu = s.psu := rfl
@[simp] theorem State.setPending_ptb (o : Option PendingOp) (s : State) : (s.setPending o).ptb = s.ptb := rfl
@[simp] theorem State.setPending_csv (o : Option PendingOp) (s : State) : (s.setPending o).csv = s.csv := rfl
@[simp] theorem State.setPending_cul (o : Option PendingOp) (s : State) : (s.setPending o).cul = s.cul := rfl
@[simp] theorem State.setPending_rcc (o : Option PendingOp) (s : State) : (s.setPending o).rcc = s.rcc := rfl
@[simp] theorem State.setPending_ten (o : Option PendingOp) (s : State) : (s.setPending o).ten = s.ten := rfl
@[simp] theorem State.setPending_lpt (o : Option PendingOp) (s : State) : (s.setPending o).lpt = s.lpt := rfl
@[simp] theorem State.setPending_pins (o : Option PendingOp) (s : State) : (s.setPending o).pins = s.pins := rfl
@[simp] theorem State.setPending_order (o : Option PendingOp) (s : State) : (s.setPending o).order = s.order := rfl
@[simp] theorem State.setPending_pending (o : Option PendingOp) (s : State) : (s.setPending o).pending = s.pending := rfl
@[simp] theorem State.setPending_tsq (o : Option PendingOp) (s : State) :
    (s.setPending o).tsq = { s.tsq with pendingOp := o } := rfl

/-! ### setTransport -/

@[simp] theorem State.setTransport_dhd (t : TransportState) (s : State) : (s.setTransport t).dhd = s.dhd := rfl
@[simp] theorem State.setTransport_ftu (t : TransportState) (s : State) : (s.setTransport t).ftu = s.ftu := rfl
@[simp] theorem State.setTransport_lif (t : TransportState) (s : State) : (s.setTransport t).lif = s.lif := rfl
@[simp] theorem State.setTransport_psu (t : TransportState) (s : State) : (s.setTransport t).psu = s.psu := rfl
@[simp] theorem State.setTransport_ptb (t : TransportState) (s : State) : (s.setTransport t).ptb = s.ptb := rfl
@[simp] theorem State.setTransport_csv (t : TransportState) (s : State) : (s.setTransport t).csv = s.csv := rfl
@[simp] theorem State.setTransport_cul (t : TransportState) (s : State) : (s.setTransport t).cul = s.cul := rfl
@[simp] theorem State.setTransport_rcc (t : TransportState) (s : State) : (s.setTransport t).rcc = s.rcc := rfl
@[simp] theorem State.setTransport_ten (t : TransportState) (s : State) : (s.setTransport t).ten = s.ten := rfl
@[simp] theorem State.setTransport_lpt (t : TransportState) (s : State) : (s.setTransport t).lpt = s.lpt := rfl
@[simp] theorem State.setTransport_pins (t : TransportState) (s : State) : (s.setTransport t).pins = s.pins := rfl
@[simp] theorem State.setTransport_order (t : TransportState) (s : State) : (s.setTransport t).order = s.order := rfl
@[simp] theorem State.setTransport_pending (t : TransportState) (s : State) : (s.setTransport t).pending = s.pending := rfl
@[simp] theorem State.setTransport_tsq (t : TransportState) (s : State) :
    (s.setTransport t).tsq = { s.tsq with state := t } := rfl

/-! ### setRequest -/

@[simp] theorem State.setRequest_dhd (m : ReqMode) (s : State) : (s.setRequest m).dhd = s.dhd := rfl
@[simp] theorem State.setRequest_ftu (m : ReqMode) (s : State) : (s.setRequest m).ftu = s.ftu := rfl
@[simp] theorem State.setRequest_lif (m : ReqMode) (s : State) : (s.setRequest m).lif = s.lif := rfl
@[simp] theorem State.setRequest_psu (m : ReqMode) (s : State) : (s.setRequest m).psu = s.psu := rfl
@[simp] theorem State.setRequest_ptb (m : ReqMode) (s : State) : (s.setRequest m).ptb = s.ptb := rfl
@[simp] theorem State.setRequest_csv (m : ReqMode) (s : State) : (s.setRequest m).csv = s.csv := rfl
@[simp] theorem State.setRequest_cul (m : ReqMode) (s : State) : (s.setRequest m).cul = s.cul := rfl
@[simp] theorem State.setRequest_rcc (m : ReqMode) (s : State) : (s.setRequest m).rcc = s.rcc := rfl
@[simp] theorem State.setRequest_ten (m : ReqMode) (s : State) : (s.setRequest m).ten = s.ten := rfl
@[simp] theorem State.setRequest_lpt (m : ReqMode) (s : State) : (s.setRequest m).lpt = s.lpt := rfl
@[simp] theorem State.setRequest_pins (m : ReqMode) (s : State) : (s.setRequest m).pins = s.pins := rfl
@[simp] theorem State.setRequest_order (m : ReqMode) (s : State) : (s.setRequest m).order = s.order := rfl
@[simp] theorem State.setRequest_pending (m : ReqMode) (s : State) : (s.setRequest m).pending = s.pending := rfl

/-! ### adoptRequest -/

@[simp] theorem State.adoptRequest_dhd (m : ReqMode) (v : Int) (s : State) : (s.adoptRequest m v).dhd = s.dhd := rfl
@[simp] theorem State.adoptRequest_ftu (m : ReqMode) (v : Int) (s : State) : (s.adoptRequest m v).ftu = s.ftu := rfl
@[simp] theorem State.adoptRequest_lif (m : ReqMode) (v : Int) (s : State) : (s.adoptRequest m v).lif = s.lif := rfl
@[simp] theorem State.adoptRequest_psu (m : ReqMode) (v : Int) (s : State) : (s.adoptRequest m v).psu = s.psu := rfl
@[simp] theorem State.adoptRequest_ptb (m : ReqMode) (v : Int) (s : State) : (s.adoptRequest m v).ptb = s.ptb := rfl
@[simp] theorem State.adoptRequest_csv (m : ReqMode) (v : Int) (s : State) : (s.adoptRequest m v).csv = s.csv := rfl
@[simp] theorem State.adoptRequest_cul (m : ReqMode) (v : Int) (s : State) : (s.adoptRequest m v).cul = s.cul := rfl
@[simp] theorem State.adoptRequest_rcc (m : ReqMode) (v : Int) (s : State) : (s.adoptRequest m v).rcc = s.rcc := rfl
@[simp] theorem State.adoptRequest_ten (m : ReqMode) (v : Int) (s : State) : (s.adoptRequest m v).ten = s.ten := rfl
@[simp] theorem State.adoptRequest_lpt (m : ReqMode) (v : Int) (s : State) : (s.adoptRequest m v).lpt = s.lpt := rfl
@[simp] theorem State.adoptRequest_pins (m : ReqMode) (v : Int) (s : State) : (s.adoptRequest m v).pins = s.pins := rfl
@[simp] theorem State.adoptRequest_order (m : ReqMode) (v : Int) (s : State) : (s.adoptRequest m v).order = s.order := rfl
@[simp] theorem State.adoptRequest_pending (m : ReqMode) (v : Int) (s : State) : (s.adoptRequest m v).pending = s.pending := rfl

/-! ### chaseOff -/

@[simp] theorem State.chaseOff_dhd (s : State) : (s.chaseOff).dhd = s.dhd := rfl
@[simp] theorem State.chaseOff_ftu (s : State) : (s.chaseOff).ftu = s.ftu := rfl
@[simp] theorem State.chaseOff_lif (s : State) : (s.chaseOff).lif = s.lif := rfl
@[simp] theorem State.chaseOff_psu (s : State) : (s.chaseOff).psu = s.psu := rfl
@[simp] theorem State.chaseOff_ptb (s : State) : (s.chaseOff).ptb = s.ptb := rfl
@[simp] theorem State.chaseOff_tsq (s : State) : (s.chaseOff).tsq = s.tsq := rfl
@[simp] theorem State.chaseOff_cul (s : State) : (s.chaseOff).cul = s.cul := rfl
@[simp] theorem State.chaseOff_rcc (s : State) : (s.chaseOff).rcc = s.rcc := rfl
@[simp] theorem State.chaseOff_ten (s : State) : (s.chaseOff).ten = s.ten := rfl
@[simp] theorem State.chaseOff_lpt (s : State) : (s.chaseOff).lpt = s.lpt := rfl
@[simp] theorem State.chaseOff_pins (s : State) : (s.chaseOff).pins = s.pins := rfl
@[simp] theorem State.chaseOff_order (s : State) : (s.chaseOff).order = s.order := rfl
@[simp] theorem State.chaseOff_pending (s : State) : (s.chaseOff).pending = s.pending := rfl
@[simp] theorem State.chaseOff_csv_state (s : State) :
    (s.chaseOff).csv.state = .off := rfl
@[simp] theorem State.chaseOff_csv_record (s : State) :
    (s.chaseOff).csv.record = s.csv.record := rfl
@[simp] theorem State.chaseOff_csv_target (s : State) :
    (s.chaseOff).csv.target = s.csv.target := rfl

/-! ### setTarget -/

@[simp] theorem State.setTarget_dhd (x : Nat) (s : State) : (s.setTarget x).dhd = s.dhd := rfl
@[simp] theorem State.setTarget_ftu (x : Nat) (s : State) : (s.setTarget x).ftu = s.ftu := rfl
@[simp] theorem State.setTarget_lif (x : Nat) (s : State) : (s.setTarget x).lif = s.lif := rfl
@[simp] theorem State.setTarget_psu (x : Nat) (s : State) : (s.setTarget x).psu = s.psu := rfl
@[simp] theorem State.setTarget_ptb (x : Nat) (s : State) : (s.setTarget x).ptb = s.ptb := rfl
@[simp] theorem State.setTarget_tsq (x : Nat) (s : State) : (s.setTarget x).tsq = s.tsq := rfl
@[simp] theorem State.setTarget_cul (x : Nat) (s : State) : (s.setTarget x).cul = s.cul := rfl
@[simp] theorem State.setTarget_rcc (x : Nat) (s : State) : (s.setTarget x).rcc = s.rcc := rfl
@[simp] theorem State.setTarget_ten (x : Nat) (s : State) : (s.setTarget x).ten = s.ten := rfl
@[simp] theorem State.setTarget_lpt (x : Nat) (s : State) : (s.setTarget x).lpt = s.lpt := rfl
@[simp] theorem State.setTarget_pins (x : Nat) (s : State) : (s.setTarget x).pins = s.pins := rfl
@[simp] theorem State.setTarget_order (x : Nat) (s : State) : (s.setTarget x).order = s.order := rfl
@[simp] theorem State.setTarget_pending (x : Nat) (s : State) : (s.setTarget x).pending = s.pending := rfl
@[simp] theorem State.setTarget_csv (x : Nat) (s : State) :
    (s.setTarget x).csv = { s.csv with target := x } := rfl

/-! ### setFollow -/

@[simp] theorem State.setFollow_dhd (f : FollowStep) (s : State) : (s.setFollow f).dhd = s.dhd := rfl
@[simp] theorem State.setFollow_ftu (f : FollowStep) (s : State) : (s.setFollow f).ftu = s.ftu := rfl
@[simp] theorem State.setFollow_lif (f : FollowStep) (s : State) : (s.setFollow f).lif = s.lif := rfl
@[simp] theorem State.setFollow_psu (f : FollowStep) (s : State) : (s.setFollow f).psu = s.psu := rfl
@[simp] theorem State.setFollow_ptb (f : FollowStep) (s : State) : (s.setFollow f).ptb = s.ptb := rfl
@[simp] theorem State.setFollow_tsq (f : FollowStep) (s : State) : (s.setFollow f).tsq = s.tsq := rfl
@[simp] theorem State.setFollow_cul (f : FollowStep) (s : State) : (s.setFollow f).cul = s.cul := rfl
@[simp] theorem State.setFollow_rcc (f : FollowStep) (s : State) : (s.setFollow f).rcc = s.rcc := rfl
@[simp] theorem State.setFollow_ten (f : FollowStep) (s : State) : (s.setFollow f).ten = s.ten := rfl
@[simp] theorem State.setFollow_lpt (f : FollowStep) (s : State) : (s.setFollow f).lpt = s.lpt := rfl
@[simp] theorem State.setFollow_pins (f : FollowStep) (s : State) : (s.setFollow f).pins = s.pins := rfl
@[simp] theorem State.setFollow_order (f : FollowStep) (s : State) : (s.setFollow f).order = s.order := rfl
@[simp] theorem State.setFollow_pending (f : FollowStep) (s : State) : (s.setFollow f).pending = s.pending := rfl
@[simp] theorem State.setFollow_csv (f : FollowStep) (s : State) :
    (s.setFollow f).csv = { s.csv with followStep := f } := rfl

/-! ### setZones -/

@[simp] theorem State.setZones_dhd (zs : List Zone) (s : State) : (s.setZones zs).dhd = s.dhd := rfl
@[simp] theorem State.setZones_ftu (zs : List Zone) (s : State) : (s.setZones zs).ftu = s.ftu := rfl
@[simp] theorem State.setZones_lif (zs : List Zone) (s : State) : (s.setZones zs).lif = s.lif := rfl
@[simp] theorem State.setZones_psu (zs : List Zone) (s : State) : (s.setZones zs).psu = s.psu := rfl
@[simp] theorem State.setZones_ptb (zs : List Zone) (s : State) : (s.setZones zs).ptb = s.ptb := rfl
@[simp] theorem State.setZones_tsq (zs : List Zone) (s : State) : (s.setZones zs).tsq = s.tsq := rfl
@[simp] theorem State.setZones_csv (zs : List Zone) (s : State) : (s.setZones zs).csv = s.csv := rfl
@[simp] theorem State.setZones_cul (zs : List Zone) (s : State) : (s.setZones zs).cul = s.cul := rfl
@[simp] theorem State.setZones_ten (zs : List Zone) (s : State) : (s.setZones zs).ten = s.ten := rfl
@[simp] theorem State.setZones_lpt (zs : List Zone) (s : State) : (s.setZones zs).lpt = s.lpt := rfl
@[simp] theorem State.setZones_pins (zs : List Zone) (s : State) : (s.setZones zs).pins = s.pins := rfl
@[simp] theorem State.setZones_order (zs : List Zone) (s : State) : (s.setZones zs).order = s.order := rfl
@[simp] theorem State.setZones_pending (zs : List Zone) (s : State) : (s.setZones zs).pending = s.pending := rfl
@[simp] theorem State.setZones_rcc (zs : List Zone) (s : State) :
    (s.setZones zs).rcc = { s.rcc with zones := zs } := rfl

/-! ### enterGap -/

@[simp] theorem State.enterGap_dhd (s : State) : (s.enterGap).dhd = s.dhd := rfl
@[simp] theorem State.enterGap_ftu (s : State) : (s.enterGap).ftu = s.ftu := rfl
@[simp] theorem State.enterGap_lif (s : State) : (s.enterGap).lif = s.lif := rfl
@[simp] theorem State.enterGap_psu (s : State) : (s.enterGap).psu = s.psu := rfl
@[simp] theorem State.enterGap_ptb (s : State) : (s.enterGap).ptb = s.ptb := rfl
@[simp] theorem State.enterGap_tsq (s : State) : (s.enterGap).tsq = s.tsq := rfl
@[simp] theorem State.enterGap_csv (s : State) : (s.enterGap).csv = s.csv := rfl
@[simp] theorem State.enterGap_cul (s : State) : (s.enterGap).cul = s.cul := rfl
@[simp] theorem State.enterGap_ten (s : State) : (s.enterGap).ten = s.ten := rfl
@[simp] theorem State.enterGap_lpt (s : State) : (s.enterGap).lpt = s.lpt := rfl
@[simp] theorem State.enterGap_pins (s : State) : (s.enterGap).pins = s.pins := rfl
@[simp] theorem State.enterGap_order (s : State) : (s.enterGap).order = s.order := rfl
@[simp] theorem State.enterGap_pending (s : State) : (s.enterGap).pending = s.pending := rfl

/-! ### endGap -/

@[simp] theorem State.endGap_dhd (s : State) : (s.endGap).dhd = s.dhd := rfl
@[simp] theorem State.endGap_ftu (s : State) : (s.endGap).ftu = s.ftu := rfl
@[simp] theorem State.endGap_lif (s : State) : (s.endGap).lif = s.lif := rfl
@[simp] theorem State.endGap_psu (s : State) : (s.endGap).psu = s.psu := rfl
@[simp] theorem State.endGap_ptb (s : State) : (s.endGap).ptb = s.ptb := rfl
@[simp] theorem State.endGap_tsq (s : State) : (s.endGap).tsq = s.tsq := rfl
@[simp] theorem State.endGap_csv (s : State) : (s.endGap).csv = s.csv := rfl
@[simp] theorem State.endGap_cul (s : State) : (s.endGap).cul = s.cul := rfl
@[simp] theorem State.endGap_ten (s : State) : (s.endGap).ten = s.ten := rfl
@[simp] theorem State.endGap_lpt (s : State) : (s.endGap).lpt = s.lpt := rfl
@[simp] theorem State.endGap_pins (s : State) : (s.endGap).pins = s.pins := rfl
@[simp] theorem State.endGap_order (s : State) : (s.endGap).order = s.order := rfl
@[simp] theorem State.endGap_pending (s : State) : (s.endGap).pending = s.pending := rfl

/-! ### setCues -/

@[simp] theorem State.setCues_dhd (cs : List Cue) (s : State) : (s.setCues cs).dhd = s.dhd := rfl
@[simp] theorem State.setCues_ftu (cs : List Cue) (s : State) : (s.setCues cs).ftu = s.ftu := rfl
@[simp] theorem State.setCues_lif (cs : List Cue) (s : State) : (s.setCues cs).lif = s.lif := rfl
@[simp] theorem State.setCues_psu (cs : List Cue) (s : State) : (s.setCues cs).psu = s.psu := rfl
@[simp] theorem State.setCues_ptb (cs : List Cue) (s : State) : (s.setCues cs).ptb = s.ptb := rfl
@[simp] theorem State.setCues_tsq (cs : List Cue) (s : State) : (s.setCues cs).tsq = s.tsq := rfl
@[simp] theorem State.setCues_csv (cs : List Cue) (s : State) : (s.setCues cs).csv = s.csv := rfl
@[simp] theorem State.setCues_rcc (cs : List Cue) (s : State) : (s.setCues cs).rcc = s.rcc := rfl
@[simp] theorem State.setCues_ten (cs : List Cue) (s : State) : (s.setCues cs).ten = s.ten := rfl
@[simp] theorem State.setCues_lpt (cs : List Cue) (s : State) : (s.setCues cs).lpt = s.lpt := rfl
@[simp] theorem State.setCues_pins (cs : List Cue) (s : State) : (s.setCues cs).pins = s.pins := rfl
@[simp] theorem State.setCues_order (cs : List Cue) (s : State) : (s.setCues cs).order = s.order := rfl
@[simp] theorem State.setCues_pending (cs : List Cue) (s : State) : (s.setCues cs).pending = s.pending := rfl
@[simp] theorem State.setCues_cul (cs : List Cue) (s : State) :
    (s.setCues cs).cul = { s.cul with cues := cs } := rfl

/-! ### setRoll -/

@[simp] theorem State.setRoll_dhd (r : Option RollSlot) (s : State) : (s.setRoll r).dhd = s.dhd := rfl
@[simp] theorem State.setRoll_ftu (r : Option RollSlot) (s : State) : (s.setRoll r).ftu = s.ftu := rfl
@[simp] theorem State.setRoll_lif (r : Option RollSlot) (s : State) : (s.setRoll r).lif = s.lif := rfl
@[simp] theorem State.setRoll_psu (r : Option RollSlot) (s : State) : (s.setRoll r).psu = s.psu := rfl
@[simp] theorem State.setRoll_ptb (r : Option RollSlot) (s : State) : (s.setRoll r).ptb = s.ptb := rfl
@[simp] theorem State.setRoll_tsq (r : Option RollSlot) (s : State) : (s.setRoll r).tsq = s.tsq := rfl
@[simp] theorem State.setRoll_csv (r : Option RollSlot) (s : State) : (s.setRoll r).csv = s.csv := rfl
@[simp] theorem State.setRoll_rcc (r : Option RollSlot) (s : State) : (s.setRoll r).rcc = s.rcc := rfl
@[simp] theorem State.setRoll_ten (r : Option RollSlot) (s : State) : (s.setRoll r).ten = s.ten := rfl
@[simp] theorem State.setRoll_lpt (r : Option RollSlot) (s : State) : (s.setRoll r).lpt = s.lpt := rfl
@[simp] theorem State.setRoll_pins (r : Option RollSlot) (s : State) : (s.setRoll r).pins = s.pins := rfl
@[simp] theorem State.setRoll_order (r : Option RollSlot) (s : State) : (s.setRoll r).order = s.order := rfl
@[simp] theorem State.setRoll_pending (r : Option RollSlot) (s : State) : (s.setRoll r).pending = s.pending := rfl
@[simp] theorem State.setRoll_cul (r : Option RollSlot) (s : State) :
    (s.setRoll r).cul = { s.cul with roll := r } := rfl

/-! ### setTen -/

@[simp] theorem State.setTen_dhd (t : Ten) (s : State) : (s.setTen t).dhd = s.dhd := rfl
@[simp] theorem State.setTen_ftu (t : Ten) (s : State) : (s.setTen t).ftu = s.ftu := rfl
@[simp] theorem State.setTen_lif (t : Ten) (s : State) : (s.setTen t).lif = s.lif := rfl
@[simp] theorem State.setTen_psu (t : Ten) (s : State) : (s.setTen t).psu = s.psu := rfl
@[simp] theorem State.setTen_ptb (t : Ten) (s : State) : (s.setTen t).ptb = s.ptb := rfl
@[simp] theorem State.setTen_tsq (t : Ten) (s : State) : (s.setTen t).tsq = s.tsq := rfl
@[simp] theorem State.setTen_csv (t : Ten) (s : State) : (s.setTen t).csv = s.csv := rfl
@[simp] theorem State.setTen_cul (t : Ten) (s : State) : (s.setTen t).cul = s.cul := rfl
@[simp] theorem State.setTen_rcc (t : Ten) (s : State) : (s.setTen t).rcc = s.rcc := rfl
@[simp] theorem State.setTen_lpt (t : Ten) (s : State) : (s.setTen t).lpt = s.lpt := rfl
@[simp] theorem State.setTen_pins (t : Ten) (s : State) : (s.setTen t).pins = s.pins := rfl
@[simp] theorem State.setTen_order (t : Ten) (s : State) : (s.setTen t).order = s.order := rfl
@[simp] theorem State.setTen_pending (t : Ten) (s : State) : (s.setTen t).pending = s.pending := rfl
@[simp] theorem State.setTen_ten (t : Ten) (s : State) :
    (s.setTen t).ten = t := rfl

/-! ### setLpt -/

@[simp] theorem State.setLpt_dhd (l : Lpt) (s : State) : (s.setLpt l).dhd = s.dhd := rfl
@[simp] theorem State.setLpt_ftu (l : Lpt) (s : State) : (s.setLpt l).ftu = s.ftu := rfl
@[simp] theorem State.setLpt_lif (l : Lpt) (s : State) : (s.setLpt l).lif = s.lif := rfl
@[simp] theorem State.setLpt_psu (l : Lpt) (s : State) : (s.setLpt l).psu = s.psu := rfl
@[simp] theorem State.setLpt_ptb (l : Lpt) (s : State) : (s.setLpt l).ptb = s.ptb := rfl
@[simp] theorem State.setLpt_tsq (l : Lpt) (s : State) : (s.setLpt l).tsq = s.tsq := rfl
@[simp] theorem State.setLpt_csv (l : Lpt) (s : State) : (s.setLpt l).csv = s.csv := rfl
@[simp] theorem State.setLpt_cul (l : Lpt) (s : State) : (s.setLpt l).cul = s.cul := rfl
@[simp] theorem State.setLpt_rcc (l : Lpt) (s : State) : (s.setLpt l).rcc = s.rcc := rfl
@[simp] theorem State.setLpt_ten (l : Lpt) (s : State) : (s.setLpt l).ten = s.ten := rfl
@[simp] theorem State.setLpt_pins (l : Lpt) (s : State) : (s.setLpt l).pins = s.pins := rfl
@[simp] theorem State.setLpt_order (l : Lpt) (s : State) : (s.setLpt l).order = s.order := rfl
@[simp] theorem State.setLpt_pending (l : Lpt) (s : State) : (s.setLpt l).pending = s.pending := rfl
@[simp] theorem State.setLpt_lpt (l : Lpt) (s : State) :
    (s.setLpt l).lpt = l := rfl

/-! ### setFtu -/

@[simp] theorem State.setFtu_dhd (f : Ftu) (s : State) : (s.setFtu f).dhd = s.dhd := rfl
@[simp] theorem State.setFtu_lif (f : Ftu) (s : State) : (s.setFtu f).lif = s.lif := rfl
@[simp] theorem State.setFtu_psu (f : Ftu) (s : State) : (s.setFtu f).psu = s.psu := rfl
@[simp] theorem State.setFtu_ptb (f : Ftu) (s : State) : (s.setFtu f).ptb = s.ptb := rfl
@[simp] theorem State.setFtu_tsq (f : Ftu) (s : State) : (s.setFtu f).tsq = s.tsq := rfl
@[simp] theorem State.setFtu_csv (f : Ftu) (s : State) : (s.setFtu f).csv = s.csv := rfl
@[simp] theorem State.setFtu_cul (f : Ftu) (s : State) : (s.setFtu f).cul = s.cul := rfl
@[simp] theorem State.setFtu_rcc (f : Ftu) (s : State) : (s.setFtu f).rcc = s.rcc := rfl
@[simp] theorem State.setFtu_ten (f : Ftu) (s : State) : (s.setFtu f).ten = s.ten := rfl
@[simp] theorem State.setFtu_lpt (f : Ftu) (s : State) : (s.setFtu f).lpt = s.lpt := rfl
@[simp] theorem State.setFtu_pins (f : Ftu) (s : State) : (s.setFtu f).pins = s.pins := rfl
@[simp] theorem State.setFtu_order (f : Ftu) (s : State) : (s.setFtu f).order = s.order := rfl
@[simp] theorem State.setFtu_pending (f : Ftu) (s : State) : (s.setFtu f).pending = s.pending := rfl
@[simp] theorem State.setFtu_ftu (f : Ftu) (s : State) :
    (s.setFtu f).ftu = f := rfl

/-! ### setWatch -/

@[simp] theorem State.setWatch_dhd (w : LineWatch) (s : State) : (s.setWatch w).dhd = s.dhd := rfl
@[simp] theorem State.setWatch_ftu (w : LineWatch) (s : State) : (s.setWatch w).ftu = s.ftu := rfl
@[simp] theorem State.setWatch_psu (w : LineWatch) (s : State) : (s.setWatch w).psu = s.psu := rfl
@[simp] theorem State.setWatch_ptb (w : LineWatch) (s : State) : (s.setWatch w).ptb = s.ptb := rfl
@[simp] theorem State.setWatch_tsq (w : LineWatch) (s : State) : (s.setWatch w).tsq = s.tsq := rfl
@[simp] theorem State.setWatch_csv (w : LineWatch) (s : State) : (s.setWatch w).csv = s.csv := rfl
@[simp] theorem State.setWatch_cul (w : LineWatch) (s : State) : (s.setWatch w).cul = s.cul := rfl
@[simp] theorem State.setWatch_rcc (w : LineWatch) (s : State) : (s.setWatch w).rcc = s.rcc := rfl
@[simp] theorem State.setWatch_ten (w : LineWatch) (s : State) : (s.setWatch w).ten = s.ten := rfl
@[simp] theorem State.setWatch_lpt (w : LineWatch) (s : State) : (s.setWatch w).lpt = s.lpt := rfl
@[simp] theorem State.setWatch_pins (w : LineWatch) (s : State) : (s.setWatch w).pins = s.pins := rfl
@[simp] theorem State.setWatch_order (w : LineWatch) (s : State) : (s.setWatch w).order = s.order := rfl
@[simp] theorem State.setWatch_pending (w : LineWatch) (s : State) : (s.setWatch w).pending = s.pending := rfl
@[simp] theorem State.setWatch_lif (w : LineWatch) (s : State) :
    (s.setWatch w).lif = { s.lif with watch := w } := rfl

/-! ### setConfig -/

@[simp] theorem State.setConfig_dhd (c : Settings) (s : State) : (s.setConfig c).dhd = { s.dhd with config := some c } := rfl
@[simp] theorem State.setConfig_ftu (c : Settings) (s : State) : (s.setConfig c).ftu = s.ftu := rfl
@[simp] theorem State.setConfig_lif (c : Settings) (s : State) : (s.setConfig c).lif = s.lif := rfl
@[simp] theorem State.setConfig_psu (c : Settings) (s : State) : (s.setConfig c).psu = s.psu := rfl
@[simp] theorem State.setConfig_ptb (c : Settings) (s : State) : (s.setConfig c).ptb = s.ptb := rfl
@[simp] theorem State.setConfig_tsq (c : Settings) (s : State) : (s.setConfig c).tsq = s.tsq := rfl
@[simp] theorem State.setConfig_csv (c : Settings) (s : State) : (s.setConfig c).csv = s.csv := rfl
@[simp] theorem State.setConfig_cul (c : Settings) (s : State) : (s.setConfig c).cul = s.cul := rfl
@[simp] theorem State.setConfig_rcc (c : Settings) (s : State) : (s.setConfig c).rcc = s.rcc := rfl
@[simp] theorem State.setConfig_ten (c : Settings) (s : State) : (s.setConfig c).ten = s.ten := rfl
@[simp] theorem State.setConfig_lpt (c : Settings) (s : State) : (s.setConfig c).lpt = s.lpt := rfl
@[simp] theorem State.setConfig_pins (c : Settings) (s : State) : (s.setConfig c).pins = s.pins := rfl
@[simp] theorem State.setConfig_order (c : Settings) (s : State) : (s.setConfig c).order = s.order := rfl
@[simp] theorem State.setConfig_pending (c : Settings) (s : State) : (s.setConfig c).pending = s.pending := rfl

/-! ### reachMoment, tick -/

@[simp] theorem State.reachMoment_ftu (m : Nat) (s : State) :
    (s.reachMoment m).ftu = { s.ftu with now := max s.ftu.now m } := rfl
@[simp] theorem State.tick_ftu (s : State) : s.tick.ftu = { s.ftu with now := s.ftu.now + 1 } := rfl
@[simp] theorem State.reachMoment_dhd (m : Nat) (s : State) : (s.reachMoment m).dhd = s.dhd := rfl
@[simp] theorem State.reachMoment_lif (m : Nat) (s : State) : (s.reachMoment m).lif = s.lif := rfl
@[simp] theorem State.reachMoment_psu (m : Nat) (s : State) : (s.reachMoment m).psu = s.psu := rfl
@[simp] theorem State.reachMoment_ptb (m : Nat) (s : State) : (s.reachMoment m).ptb = s.ptb := rfl
@[simp] theorem State.reachMoment_tsq (m : Nat) (s : State) : (s.reachMoment m).tsq = s.tsq := rfl
@[simp] theorem State.reachMoment_csv (m : Nat) (s : State) : (s.reachMoment m).csv = s.csv := rfl
@[simp] theorem State.reachMoment_cul (m : Nat) (s : State) : (s.reachMoment m).cul = s.cul := rfl
@[simp] theorem State.reachMoment_rcc (m : Nat) (s : State) : (s.reachMoment m).rcc = s.rcc := rfl
@[simp] theorem State.reachMoment_ten (m : Nat) (s : State) : (s.reachMoment m).ten = s.ten := rfl
@[simp] theorem State.reachMoment_lpt (m : Nat) (s : State) : (s.reachMoment m).lpt = s.lpt := rfl
@[simp] theorem State.reachMoment_pins (m : Nat) (s : State) : (s.reachMoment m).pins = s.pins := rfl
@[simp] theorem State.reachMoment_order (m : Nat) (s : State) : (s.reachMoment m).order = s.order := rfl
@[simp] theorem State.reachMoment_pending (m : Nat) (s : State) : (s.reachMoment m).pending = s.pending := rfl
@[simp] theorem State.tick_dhd (s : State) : s.tick.dhd = s.dhd := rfl
@[simp] theorem State.tick_lif (s : State) : s.tick.lif = s.lif := rfl
@[simp] theorem State.tick_psu (s : State) : s.tick.psu = s.psu := rfl
@[simp] theorem State.tick_ptb (s : State) : s.tick.ptb = s.ptb := rfl
@[simp] theorem State.tick_tsq (s : State) : s.tick.tsq = s.tsq := rfl
@[simp] theorem State.tick_csv (s : State) : s.tick.csv = s.csv := rfl
@[simp] theorem State.tick_cul (s : State) : s.tick.cul = s.cul := rfl
@[simp] theorem State.tick_rcc (s : State) : s.tick.rcc = s.rcc := rfl
@[simp] theorem State.tick_ten (s : State) : s.tick.ten = s.ten := rfl
@[simp] theorem State.tick_lpt (s : State) : s.tick.lpt = s.lpt := rfl
@[simp] theorem State.tick_pins (s : State) : s.tick.pins = s.pins := rfl
@[simp] theorem State.tick_order (s : State) : s.tick.order = s.order := rfl
@[simp] theorem State.tick_pending (s : State) : s.tick.pending = s.pending := rfl

/-! ### markAcceptance -/

@[simp] theorem State.markAcceptance_dhd (s : State) : s.markAcceptance.dhd = s.dhd := rfl
@[simp] theorem State.markAcceptance_ftu (s : State) :
    s.markAcceptance.ftu = { s.ftu with accepted := some s.ftu.now } := rfl
@[simp] theorem State.markAcceptance_lif (s : State) : s.markAcceptance.lif = s.lif := rfl
@[simp] theorem State.markAcceptance_psu (s : State) : s.markAcceptance.psu = s.psu := rfl
@[simp] theorem State.markAcceptance_ptb (s : State) : s.markAcceptance.ptb = s.ptb := rfl
@[simp] theorem State.markAcceptance_tsq (s : State) : s.markAcceptance.tsq = s.tsq := rfl
@[simp] theorem State.markAcceptance_csv (s : State) : s.markAcceptance.csv = s.csv := rfl
@[simp] theorem State.markAcceptance_cul (s : State) : s.markAcceptance.cul = s.cul := rfl
@[simp] theorem State.markAcceptance_rcc (s : State) : s.markAcceptance.rcc = s.rcc := rfl
@[simp] theorem State.markAcceptance_ten (s : State) : s.markAcceptance.ten = s.ten := rfl
@[simp] theorem State.markAcceptance_lpt (s : State) : s.markAcceptance.lpt = s.lpt := rfl
@[simp] theorem State.markAcceptance_pins (s : State) : s.markAcceptance.pins = s.pins := rfl
@[simp] theorem State.markAcceptance_order (s : State) : s.markAcceptance.order = s.order := rfl
@[simp] theorem State.markAcceptance_pending (s : State) : s.markAcceptance.pending = s.pending := rfl

/-! ### lineBusy -/

@[simp] theorem State.lineBusy_dhd (s : State) : s.lineBusy.dhd = s.dhd := rfl
@[simp] theorem State.lineBusy_ftu (s : State) : s.lineBusy.ftu = s.ftu := rfl
@[simp] theorem State.lineBusy_psu (s : State) : s.lineBusy.psu = s.psu := rfl
@[simp] theorem State.lineBusy_ptb (s : State) : s.lineBusy.ptb = s.ptb := rfl
@[simp] theorem State.lineBusy_tsq (s : State) : s.lineBusy.tsq = s.tsq := rfl
@[simp] theorem State.lineBusy_csv (s : State) : s.lineBusy.csv = s.csv := rfl
@[simp] theorem State.lineBusy_cul (s : State) : s.lineBusy.cul = s.cul := rfl
@[simp] theorem State.lineBusy_rcc (s : State) : s.lineBusy.rcc = s.rcc := rfl
@[simp] theorem State.lineBusy_ten (s : State) : s.lineBusy.ten = s.ten := rfl
@[simp] theorem State.lineBusy_lpt (s : State) : s.lineBusy.lpt = s.lpt := rfl
@[simp] theorem State.lineBusy_pins (s : State) : s.lineBusy.pins = s.pins := rfl
@[simp] theorem State.lineBusy_order (s : State) : s.lineBusy.order = s.order := rfl
@[simp] theorem State.lineBusy_pending (s : State) : s.lineBusy.pending = s.pending := rfl
@[simp] theorem State.lineBusy_lif (s : State) : s.lineBusy.lif = { s.lif with idle := false } := rfl

/-! ### heard -/

@[simp] theorem State.heard_dhd (via : Via) (s : State) : (s.heard via).dhd = s.dhd := by cases via <;> rfl
@[simp] theorem State.heard_ftu (via : Via) (s : State) : (s.heard via).ftu = s.ftu := by cases via <;> rfl
@[simp] theorem State.heard_psu (via : Via) (s : State) : (s.heard via).psu = s.psu := by cases via <;> rfl
@[simp] theorem State.heard_ptb (via : Via) (s : State) : (s.heard via).ptb = s.ptb := by cases via <;> rfl
@[simp] theorem State.heard_tsq (via : Via) (s : State) : (s.heard via).tsq = s.tsq := by cases via <;> rfl
@[simp] theorem State.heard_csv (via : Via) (s : State) : (s.heard via).csv = s.csv := by cases via <;> rfl
@[simp] theorem State.heard_cul (via : Via) (s : State) : (s.heard via).cul = s.cul := by cases via <;> rfl
@[simp] theorem State.heard_rcc (via : Via) (s : State) : (s.heard via).rcc = s.rcc := by cases via <;> rfl
@[simp] theorem State.heard_ten (via : Via) (s : State) : (s.heard via).ten = s.ten := by cases via <;> rfl
@[simp] theorem State.heard_lpt (via : Via) (s : State) : (s.heard via).lpt = s.lpt := by cases via <;> rfl
@[simp] theorem State.heard_pins (via : Via) (s : State) : (s.heard via).pins = s.pins := by cases via <;> rfl
@[simp] theorem State.heard_order (via : Via) (s : State) : (s.heard via).order = s.order := by cases via <;> rfl
@[simp] theorem State.heard_pending (via : Via) (s : State) : (s.heard via).pending = s.pending := by cases via <;> rfl
@[simp] theorem State.heard_lif_waiting (via : Via) (s : State) : (s.heard via).lif.waiting = s.lif.waiting := by
  cases via <;> rfl
@[simp] theorem State.heard_lif_sending (via : Via) (s : State) : (s.heard via).lif.sending = s.lif.sending := by
  cases via <;> rfl
@[simp] theorem State.heard_lif_heldAnn (via : Via) (s : State) : (s.heard via).lif.heldAnn = s.lif.heldAnn := by
  cases via <;> rfl
@[simp] theorem State.heard_lif_watch (via : Via) (s : State) : (s.heard via).lif.watch = s.lif.watch := by
  cases via <;> rfl
@[simp] theorem State.heard_lif_emitting (via : Via) (s : State) : (s.heard via).lif.emitting = s.lif.emitting := by
  cases via <;> rfl
@[simp] theorem State.heard_lif_stopLevel (via : Via) (s : State) : (s.heard via).lif.stopLevel = s.lif.stopLevel := by
  cases via <;> rfl
@[simp] theorem State.heard_lif_duplicate (via : Via) (s : State) : (s.heard via).lif.duplicate = s.lif.duplicate := by
  cases via <;> rfl
@[simp] theorem State.heard_lif_listenOnly (via : Via) (s : State) : (s.heard via).lif.listenOnly = s.lif.listenOnly := by
  cases via <;> rfl
@[simp] theorem State.heard_port (q : Byte) (s : State) : s.heard (.port q) = s := rfl
@[simp] theorem State.heard_line (a b : BitVec 5) (q : Byte) (y : Parity) (s : State) :
    s.heard (.line a b q y) = s.lineBusy := rfl

/-! ### txDirective -/

@[simp] theorem State.txDirective_dhd (d : BitVec 5) (q : Byte) (p : List Byte) (s : State) : (s.txDirective d q p).dhd = s.dhd := rfl
@[simp] theorem State.txDirective_ftu (d : BitVec 5) (q : Byte) (p : List Byte) (s : State) : (s.txDirective d q p).ftu = s.ftu := rfl
@[simp] theorem State.txDirective_psu (d : BitVec 5) (q : Byte) (p : List Byte) (s : State) : (s.txDirective d q p).psu = s.psu := rfl
@[simp] theorem State.txDirective_ptb (d : BitVec 5) (q : Byte) (p : List Byte) (s : State) : (s.txDirective d q p).ptb = s.ptb := rfl
@[simp] theorem State.txDirective_tsq (d : BitVec 5) (q : Byte) (p : List Byte) (s : State) : (s.txDirective d q p).tsq = s.tsq := rfl
@[simp] theorem State.txDirective_csv (d : BitVec 5) (q : Byte) (p : List Byte) (s : State) : (s.txDirective d q p).csv = s.csv := rfl
@[simp] theorem State.txDirective_cul (d : BitVec 5) (q : Byte) (p : List Byte) (s : State) : (s.txDirective d q p).cul = s.cul := rfl
@[simp] theorem State.txDirective_rcc (d : BitVec 5) (q : Byte) (p : List Byte) (s : State) : (s.txDirective d q p).rcc = s.rcc := rfl
@[simp] theorem State.txDirective_ten (d : BitVec 5) (q : Byte) (p : List Byte) (s : State) : (s.txDirective d q p).ten = s.ten := rfl
@[simp] theorem State.txDirective_lpt (d : BitVec 5) (q : Byte) (p : List Byte) (s : State) : (s.txDirective d q p).lpt = s.lpt := rfl
@[simp] theorem State.txDirective_pins (d : BitVec 5) (q : Byte) (p : List Byte) (s : State) : (s.txDirective d q p).pins = s.pins := rfl
@[simp] theorem State.txDirective_order (d : BitVec 5) (q : Byte) (p : List Byte) (s : State) : (s.txDirective d q p).order = s.order := rfl
@[simp] theorem State.txDirective_pending (d : BitVec 5) (q : Byte) (p : List Byte) (s : State) : (s.txDirective d q p).pending = s.pending := rfl

/-! ### losePosition -/

@[simp] theorem State.losePosition_dhd (s : State) : (s.losePosition).dhd = s.dhd := rfl
@[simp] theorem State.losePosition_ftu (s : State) : (s.losePosition).ftu = s.ftu := rfl
@[simp] theorem State.losePosition_lif (s : State) : (s.losePosition).lif = s.lif := rfl
@[simp] theorem State.losePosition_ptb (s : State) : (s.losePosition).ptb = s.ptb := rfl
@[simp] theorem State.losePosition_tsq (s : State) : (s.losePosition).tsq = s.tsq := rfl
@[simp] theorem State.losePosition_csv (s : State) : (s.losePosition).csv = s.csv := rfl
@[simp] theorem State.losePosition_cul (s : State) : (s.losePosition).cul = s.cul := rfl
@[simp] theorem State.losePosition_rcc (s : State) : (s.losePosition).rcc = s.rcc := rfl
@[simp] theorem State.losePosition_ten (s : State) : (s.losePosition).ten = s.ten := rfl
@[simp] theorem State.losePosition_lpt (s : State) : (s.losePosition).lpt = s.lpt := rfl
@[simp] theorem State.losePosition_pins (s : State) : (s.losePosition).pins = s.pins := rfl
@[simp] theorem State.losePosition_order (s : State) : (s.losePosition).order = s.order := rfl
@[simp] theorem State.losePosition_pending (s : State) : (s.losePosition).pending = s.pending := rfl

/-! ### measureSpeed -/

@[simp] theorem State.measureSpeed_dhd (s : State) : (s.measureSpeed).dhd = s.dhd := rfl
@[simp] theorem State.measureSpeed_ftu (s : State) : (s.measureSpeed).ftu = s.ftu := rfl
@[simp] theorem State.measureSpeed_lif (s : State) : (s.measureSpeed).lif = s.lif := rfl
@[simp] theorem State.measureSpeed_ptb (s : State) : (s.measureSpeed).ptb = s.ptb := rfl
@[simp] theorem State.measureSpeed_tsq (s : State) : (s.measureSpeed).tsq = s.tsq := rfl
@[simp] theorem State.measureSpeed_csv (s : State) : (s.measureSpeed).csv = s.csv := rfl
@[simp] theorem State.measureSpeed_cul (s : State) : (s.measureSpeed).cul = s.cul := rfl
@[simp] theorem State.measureSpeed_rcc (s : State) : (s.measureSpeed).rcc = s.rcc := rfl
@[simp] theorem State.measureSpeed_ten (s : State) : (s.measureSpeed).ten = s.ten := rfl
@[simp] theorem State.measureSpeed_lpt (s : State) : (s.measureSpeed).lpt = s.lpt := rfl
@[simp] theorem State.measureSpeed_pins (s : State) : (s.measureSpeed).pins = s.pins := rfl
@[simp] theorem State.measureSpeed_order (s : State) : (s.measureSpeed).order = s.order := rfl
@[simp] theorem State.measureSpeed_pending (s : State) : (s.measureSpeed).pending = s.pending := rfl

/-! ### adoptWord -/

@[simp] theorem State.adoptWord_dhd (c : Nat) (s : State) : (s.adoptWord c).dhd = s.dhd := rfl
@[simp] theorem State.adoptWord_ftu (c : Nat) (s : State) : (s.adoptWord c).ftu = s.ftu := rfl
@[simp] theorem State.adoptWord_lif (c : Nat) (s : State) : (s.adoptWord c).lif = s.lif := rfl
@[simp] theorem State.adoptWord_ptb (c : Nat) (s : State) : (s.adoptWord c).ptb = s.ptb := rfl
@[simp] theorem State.adoptWord_tsq (c : Nat) (s : State) : (s.adoptWord c).tsq = s.tsq := rfl
@[simp] theorem State.adoptWord_csv (c : Nat) (s : State) : (s.adoptWord c).csv = s.csv := rfl
@[simp] theorem State.adoptWord_cul (c : Nat) (s : State) : (s.adoptWord c).cul = s.cul := rfl
@[simp] theorem State.adoptWord_rcc (c : Nat) (s : State) : (s.adoptWord c).rcc = s.rcc := rfl
@[simp] theorem State.adoptWord_ten (c : Nat) (s : State) : (s.adoptWord c).ten = s.ten := rfl
@[simp] theorem State.adoptWord_lpt (c : Nat) (s : State) : (s.adoptWord c).lpt = s.lpt := rfl
@[simp] theorem State.adoptWord_pins (c : Nat) (s : State) : (s.adoptWord c).pins = s.pins := rfl
@[simp] theorem State.adoptWord_order (c : Nat) (s : State) : (s.adoptWord c).order = s.order := rfl
@[simp] theorem State.adoptWord_pending (c : Nat) (s : State) : (s.adoptWord c).pending = s.pending := rfl

/-! ### agePeers -/

@[simp] theorem State.agePeers_dhd (s : State) : (s.agePeers).dhd = s.dhd := rfl
@[simp] theorem State.agePeers_ftu (s : State) : (s.agePeers).ftu = s.ftu := rfl
@[simp] theorem State.agePeers_lif (s : State) : (s.agePeers).lif = s.lif := rfl
@[simp] theorem State.agePeers_psu (s : State) : (s.agePeers).psu = s.psu := rfl
@[simp] theorem State.agePeers_tsq (s : State) : (s.agePeers).tsq = s.tsq := rfl
@[simp] theorem State.agePeers_csv (s : State) : (s.agePeers).csv = s.csv := rfl
@[simp] theorem State.agePeers_cul (s : State) : (s.agePeers).cul = s.cul := rfl
@[simp] theorem State.agePeers_rcc (s : State) : (s.agePeers).rcc = s.rcc := rfl
@[simp] theorem State.agePeers_ten (s : State) : (s.agePeers).ten = s.ten := rfl
@[simp] theorem State.agePeers_lpt (s : State) : (s.agePeers).lpt = s.lpt := rfl
@[simp] theorem State.agePeers_pins (s : State) : (s.agePeers).pins = s.pins := rfl
@[simp] theorem State.agePeers_order (s : State) : (s.agePeers).order = s.order := rfl
@[simp] theorem State.agePeers_pending (s : State) : (s.agePeers).pending = s.pending := rfl

/-! ### judgeForeign -/

@[simp] theorem State.judgeForeign_dhd (s : State) : (s.judgeForeign).dhd = s.dhd := rfl
@[simp] theorem State.judgeForeign_ftu (s : State) : (s.judgeForeign).ftu = s.ftu := rfl
@[simp] theorem State.judgeForeign_lif (s : State) : (s.judgeForeign).lif = s.lif := rfl
@[simp] theorem State.judgeForeign_psu (s : State) : (s.judgeForeign).psu = s.psu := rfl
@[simp] theorem State.judgeForeign_tsq (s : State) : (s.judgeForeign).tsq = s.tsq := rfl
@[simp] theorem State.judgeForeign_csv (s : State) : (s.judgeForeign).csv = s.csv := rfl
@[simp] theorem State.judgeForeign_cul (s : State) : (s.judgeForeign).cul = s.cul := rfl
@[simp] theorem State.judgeForeign_rcc (s : State) : (s.judgeForeign).rcc = s.rcc := rfl
@[simp] theorem State.judgeForeign_ten (s : State) : (s.judgeForeign).ten = s.ten := rfl
@[simp] theorem State.judgeForeign_lpt (s : State) : (s.judgeForeign).lpt = s.lpt := rfl
@[simp] theorem State.judgeForeign_pins (s : State) : (s.judgeForeign).pins = s.pins := rfl
@[simp] theorem State.judgeForeign_order (s : State) : (s.judgeForeign).order = s.order := rfl
@[simp] theorem State.judgeForeign_pending (s : State) : (s.judgeForeign).pending = s.pending := rfl

/-! ### clearRecords -/

@[simp] theorem State.clearRecords_ftu (s : State) : (s.clearRecords).ftu = s.ftu := rfl
@[simp] theorem State.clearRecords_lif (s : State) : (s.clearRecords).lif = s.lif := rfl
@[simp] theorem State.clearRecords_psu (s : State) : (s.clearRecords).psu = s.psu := rfl
@[simp] theorem State.clearRecords_ptb (s : State) : (s.clearRecords).ptb = s.ptb := rfl
@[simp] theorem State.clearRecords_tsq (s : State) : (s.clearRecords).tsq = s.tsq := rfl
@[simp] theorem State.clearRecords_csv (s : State) : (s.clearRecords).csv = s.csv := rfl
@[simp] theorem State.clearRecords_cul (s : State) : (s.clearRecords).cul = s.cul := rfl
@[simp] theorem State.clearRecords_rcc (s : State) : (s.clearRecords).rcc = s.rcc := rfl
@[simp] theorem State.clearRecords_ten (s : State) : (s.clearRecords).ten = s.ten := rfl
@[simp] theorem State.clearRecords_lpt (s : State) : (s.clearRecords).lpt = s.lpt := rfl
@[simp] theorem State.clearRecords_pins (s : State) : (s.clearRecords).pins = s.pins := rfl
@[simp] theorem State.clearRecords_order (s : State) : (s.clearRecords).order = s.order := rfl
@[simp] theorem State.clearRecords_pending (s : State) : (s.clearRecords).pending = s.pending := rfl
@[simp] theorem State.clearRecords_dhd_sense (s : State) :
    (s.clearRecords).dhd.sense = none := rfl
@[simp] theorem State.clearRecords_dhd_events (s : State) :
    (s.clearRecords).dhd.events = 0 := rfl
@[simp] theorem State.clearRecords_dhd_config (s : State) :
    (s.clearRecords).dhd.config = s.dhd.config := rfl
@[simp] theorem State.clearRecords_dhd_stn (s : State) :
    (s.clearRecords).dhd.stn = s.dhd.stn := rfl
@[simp] theorem State.clearRecords_dhd_transportFitted (s : State) :
    (s.clearRecords).dhd.transportFitted = s.dhd.transportFitted := rfl
@[simp] theorem State.clearRecords_dhd_channelFitted (s : State) :
    (s.clearRecords).dhd.channelFitted = s.dhd.channelFitted := rfl

/-! ### withPending -/

@[simp] theorem State.withPending_dhd (q : List Instr) (s : State) : (s.withPending q).dhd = s.dhd := rfl
@[simp] theorem State.withPending_ftu (q : List Instr) (s : State) : (s.withPending q).ftu = s.ftu := rfl
@[simp] theorem State.withPending_lif (q : List Instr) (s : State) : (s.withPending q).lif = s.lif := rfl
@[simp] theorem State.withPending_psu (q : List Instr) (s : State) : (s.withPending q).psu = s.psu := rfl
@[simp] theorem State.withPending_ptb (q : List Instr) (s : State) : (s.withPending q).ptb = s.ptb := rfl
@[simp] theorem State.withPending_tsq (q : List Instr) (s : State) : (s.withPending q).tsq = s.tsq := rfl
@[simp] theorem State.withPending_csv (q : List Instr) (s : State) : (s.withPending q).csv = s.csv := rfl
@[simp] theorem State.withPending_cul (q : List Instr) (s : State) : (s.withPending q).cul = s.cul := rfl
@[simp] theorem State.withPending_rcc (q : List Instr) (s : State) : (s.withPending q).rcc = s.rcc := rfl
@[simp] theorem State.withPending_ten (q : List Instr) (s : State) : (s.withPending q).ten = s.ten := rfl
@[simp] theorem State.withPending_lpt (q : List Instr) (s : State) : (s.withPending q).lpt = s.lpt := rfl
@[simp] theorem State.withPending_pins (q : List Instr) (s : State) : (s.withPending q).pins = s.pins := rfl
@[simp] theorem State.withPending_order (q : List Instr) (s : State) : (s.withPending q).order = s.order := rfl
@[simp] theorem State.withPending_pending (q : List Instr) (s : State) :
    (s.withPending q).pending = q := rfl

end Sys2Proof.Machine
end

