-- ==== Sys2Proof/Laws/Ops.lean ====
section
/-! SUPPORT. What the shared operations can do to the state: for each, everything it leaves as it stands, said once. Later
proofs cite these and do not unfold the operations. -/

namespace Sys2Proof.Machine

/-! ### What a report, a notice or a latched event can touch -/

/-- Everything but the transmit queue, the receive queue and the sense record stands, and no latched event goes. -/
structure State.MessageFrame (s t : State) : Prop where
  ftu : t.ftu = s.ftu
  psu : t.psu = s.psu
  ptb : t.ptb = s.ptb
  tsq : t.tsq = s.tsq
  csv : t.csv = s.csv
  cul : t.cul = s.cul
  rcc : t.rcc = s.rcc
  ten : t.ten = s.ten
  pins : t.pins = s.pins
  order : t.order = s.order
  pending : t.pending = s.pending
  config : t.dhd.config = s.dhd.config
  stn : t.dhd.stn = s.dhd.stn
  transportFitted : t.dhd.transportFitted = s.dhd.transportFitted
  channelFitted : t.dhd.channelFitted = s.dhd.channelFitted
  listenOnly : t.lif.listenOnly = s.lif.listenOnly
  duplicate : t.lif.duplicate = s.lif.duplicate
  watch : t.lif.watch = s.lif.watch
  emitting : t.lif.emitting = s.lif.emitting
  idle : t.lif.idle = s.lif.idle
  stopLevel : t.lif.stopLevel = s.lif.stopLevel
  events : ∀ e, s.holdsEvent e = true → t.holdsEvent e = true

theorem State.MessageFrame.refl (s : State) : s.MessageFrame s := by
  constructor <;> first | rfl | exact fun _ h => h

theorem State.MessageFrame.trans {s t u : State} (h : s.MessageFrame t) (k : t.MessageFrame u) : s.MessageFrame u where
  ftu := k.ftu.trans h.ftu
  psu := k.psu.trans h.psu
  ptb := k.ptb.trans h.ptb
  tsq := k.tsq.trans h.tsq
  csv := k.csv.trans h.csv
  cul := k.cul.trans h.cul
  rcc := k.rcc.trans h.rcc
  ten := k.ten.trans h.ten
  pins := k.pins.trans h.pins
  order := k.order.trans h.order
  pending := k.pending.trans h.pending
  config := k.config.trans h.config
  stn := k.stn.trans h.stn
  transportFitted := k.transportFitted.trans h.transportFitted
  channelFitted := k.channelFitted.trans h.channelFitted
  listenOnly := k.listenOnly.trans h.listenOnly
  duplicate := k.duplicate.trans h.duplicate
  watch := k.watch.trans h.watch
  emitting := k.emitting.trans h.emitting
  idle := k.idle.trans h.idle
  stopLevel := k.stopLevel.trans h.stopLevel
  events := fun e x => k.events e (h.events e x)

/-- A kind latched is in the set. -/
theorem State.holdsEvent_latch (e : Event) (s : State) : (s.latch e).holdsEvent e = true := by
  cases e <;> simp [State.holdsEvent, State.latch, Event.mask, Event.place]

/-- A kind in the set stays in it when another is latched (R74). -/
theorem State.holdsEvent_stays (e f : Event) (s : State) (h : s.holdsEvent f = true) : (s.latch e).holdsEvent f = true := by
  simp only [State.holdsEvent, State.latch, BitVec.getLsbD_or, Bool.or_eq_true] at *
  exact .inl h

theorem State.latch_frame (e : Event) (s : State) : s.MessageFrame (s.latch e) := by
  constructor <;> first | rfl | exact fun f h => s.holdsEvent_stays e f h

theorem State.writeSense_frame (r : Sense) (s : State) : s.MessageFrame (s.writeSense r) := by
  constructor <;> first | rfl | exact fun _ h => h

theorem State.txJoin_frame (m : TxMsg) (s : State) : s.MessageFrame (s.txJoin m) := by
  unfold State.txJoin
  split
  · exact .refl s
  · split
    · exact s.latch_frame _
    · constructor <;> first | rfl | exact fun _ h => h

theorem State.rxJoin_frame (bytes : List Byte) (s : State) : s.MessageFrame (s.rxJoin bytes) := by
  unfold State.rxJoin
  split
  · exact s.latch_frame _
  · constructor <;> first | rfl | exact fun _ h => h

theorem State.answer_frame (i : Issuer) (q y : Byte) (c : Code) (r : List Byte) (s : State) :
    s.MessageFrame (s.answer i q y c r) := by
  cases i with
  | nobody => exact .refl s
  | port => exact s.rxJoin_frame _
  | station n => exact s.txJoin_frame _

theorem State.reply_frame (i : Issuer) (q y : Byte) (r : Reply) (s : State) : s.MessageFrame (s.reply i q y r) := by
  unfold State.reply
  split
  · exact s.answer_frame ..
  · exact .refl s

theorem State.raiseNotice_frame (d : Nat) (p : List Byte) (s : State) : s.MessageFrame (s.raiseNotice d p) := by
  unfold State.raiseNotice
  dsimp only
  split
  · exact s.rxJoin_frame _
  · exact s.txJoin_frame _

/-- The held announcement taking its place changes the waiting messages and the held one alone. -/
theorem Lif.placeHeld_eq (l : Lif) :
    l.placeHeld = { l with waiting := l.placeHeld.waiting, heldAnn := l.placeHeld.heldAnn } := by
  unfold Lif.placeHeld
  split <;> rfl

/-- A change of what waits, is sent or is held in the transmit queue. -/
theorem State.queue_frame (l : Lif) (s : State) (w : List TxMsg) (x : Option Sending) (h : Option TxMsg)
    (e : l = { s.lif with waiting := w, sending := x, heldAnn := h }) : s.MessageFrame { s with lif := l } := by
  subst e
  constructor <;> first | rfl | exact fun _ h => h

/-- A message cut short leaves everything but the transmit queue and the latched events as it stands. -/
theorem State.cutShort_frame (s : State) : s.MessageFrame s.cutShort := by
  unfold State.cutShort
  split
  · exact .refl s
  · extract_lets
    split
    · exact State.queue_frame _ s _ none _ (Lif.placeHeld_eq _)
    · split
      · split
        · exact State.queue_frame _ s _ none _ (Lif.placeHeld_eq _)
        · exact State.queue_frame _ s _ none _ rfl
      · split
        · exact State.MessageFrame.trans (State.queue_frame _ s _ none _ rfl) (State.latch_frame _ _)
        · exact State.queue_frame _ s _ none _ rfl

/-- Once cut short, nothing of the station's own is on the line. -/
theorem State.cutShort_sending (s : State) : s.cutShort.lif.sending = none := by
  unfold State.cutShort
  split
  · assumption
  · extract_lets _ l
    have h : l.placeHeld.sending = none := by rw [Lif.placeHeld_eq]
    split
    · exact h
    · split
      · split
        · exact h
        · rfl
      · split <;> rfl

theorem State.sent_frame (s : State) : s.MessageFrame s.sent := by
  unfold State.sent
  split
  · exact .refl s
  · exact State.queue_frame _ s _ none _ (Lif.placeHeld_eq _)

theorem State.segmentNotice_frame (g : Segment) (c : Code) (s : State) : s.MessageFrame (s.segmentNotice g c) := by
  unfold State.segmentNotice
  split
  · exact s.raiseNotice_frame ..
  · exact .refl s

theorem State.cueNotice_frame (c : Cue) (r : Code) (s : State) : s.MessageFrame (s.cueNotice c r) := by
  unfold State.cueNotice
  split
  · exact s.raiseNotice_frame ..
  · exact .refl s

theorem State.missCue_frame (c : Cue) (r : Code) (s : State) : s.MessageFrame (s.missCue c r) :=
  ((s.latch_frame _).trans (State.writeSense_frame _ _)).trans (State.cueNotice_frame ..)

/-! ### What the transport's work can touch beside the transport -/

/-- Everything but the transport, the chase, the queues of messages and the sense record stands, and no latched event goes. -/
structure State.DeckFrame (s t : State) : Prop where
  ftu : t.ftu = s.ftu
  psu : t.psu = s.psu
  ptb : t.ptb = s.ptb
  cul : t.cul = s.cul
  rcc : t.rcc = s.rcc
  ten : t.ten = s.ten
  pins : t.pins = s.pins
  order : t.order = s.order
  pending : t.pending = s.pending
  config : t.dhd.config = s.dhd.config
  stn : t.dhd.stn = s.dhd.stn
  transportFitted : t.dhd.transportFitted = s.dhd.transportFitted
  channelFitted : t.dhd.channelFitted = s.dhd.channelFitted
  listenOnly : t.lif.listenOnly = s.lif.listenOnly
  duplicate : t.lif.duplicate = s.lif.duplicate
  watch : t.lif.watch = s.lif.watch
  emitting : t.lif.emitting = s.lif.emitting
  idle : t.lif.idle = s.lif.idle
  stopLevel : t.lif.stopLevel = s.lif.stopLevel
  events : ∀ e, s.holdsEvent e = true → t.holdsEvent e = true

theorem State.DeckFrame.refl (s : State) : s.DeckFrame s := by
  constructor <;> first | rfl | exact fun _ h => h

theorem State.DeckFrame.trans {s t u : State} (h : s.DeckFrame t) (k : t.DeckFrame u) : s.DeckFrame u where
  ftu := k.ftu.trans h.ftu
  psu := k.psu.trans h.psu
  ptb := k.ptb.trans h.ptb
  cul := k.cul.trans h.cul
  rcc := k.rcc.trans h.rcc
  ten := k.ten.trans h.ten
  pins := k.pins.trans h.pins
  order := k.order.trans h.order
  pending := k.pending.trans h.pending
  config := k.config.trans h.config
  stn := k.stn.trans h.stn
  transportFitted := k.transportFitted.trans h.transportFitted
  channelFitted := k.channelFitted.trans h.channelFitted
  listenOnly := k.listenOnly.trans h.listenOnly
  duplicate := k.duplicate.trans h.duplicate
  watch := k.watch.trans h.watch
  emitting := k.emitting.trans h.emitting
  idle := k.idle.trans h.idle
  stopLevel := k.stopLevel.trans h.stopLevel
  events := fun e x => k.events e (h.events e x)

theorem State.MessageFrame.deck {s t : State} (h : s.MessageFrame t) : s.DeckFrame t where
  ftu := h.ftu
  psu := h.psu
  ptb := h.ptb
  cul := h.cul
  rcc := h.rcc
  ten := h.ten
  pins := h.pins
  order := h.order
  pending := h.pending
  config := h.config
  stn := h.stn
  transportFitted := h.transportFitted
  channelFitted := h.channelFitted
  listenOnly := h.listenOnly
  duplicate := h.duplicate
  watch := h.watch
  emitting := h.emitting
  idle := h.idle
  stopLevel := h.stopLevel
  events := h.events

/-- A change of the transport's own record alone. -/
theorem State.tsq_deck (q : Tsq) (s : State) : s.DeckFrame { s with tsq := q } := by
  constructor <;> first | rfl | exact fun _ h => h

/-- A change of the chase's own record alone. -/
theorem State.csv_deck (c : Csv) (s : State) : s.DeckFrame { s with csv := c } := by
  constructor <;> first | rfl | exact fun _ h => h

theorem State.setPending_deck (o : Option PendingOp) (s : State) : s.DeckFrame (s.setPending o) := s.tsq_deck _

theorem State.setTransport_deck (t : TransportState) (s : State) : s.DeckFrame (s.setTransport t) := s.tsq_deck _

theorem State.setRequest_deck (m : ReqMode) (s : State) : s.DeckFrame (s.setRequest m) := s.tsq_deck _

theorem State.chaseOff_deck (s : State) : s.DeckFrame s.chaseOff := s.csv_deck _

theorem State.judgeRest_deck (o : PendingOp) (s : State) : s.DeckFrame (s.judgeRest o) := by
  unfold State.judgeRest
  split
  · split
    · exact ((s.setPending_deck _).trans (State.setTransport_deck _ _)).trans (State.answer_frame ..).deck
    · exact .refl s
  · exact .refl s

theorem State.matchPending_deck (s : State) : s.DeckFrame s.matchPending := by
  unfold State.matchPending
  split
  · exact .refl s
  · split
    · exact s.setPending_deck _
    · split
      · exact (s.setPending_deck _).trans (State.answer_frame ..).deck
      · exact .refl s
    all_goals
      split
      · exact s.judgeRest_deck _
      · exact .refl s

theorem State.matchRecovery_deck (s : State) : s.DeckFrame s.matchRecovery := by
  unfold State.matchRecovery
  split
  · exact s.tsq_deck _
  · exact .refl s

theorem State.matchFollow_deck (s : State) : s.DeckFrame s.matchFollow := by
  unfold State.matchFollow
  split
  · split
    · split
      · exact s.csv_deck _
      · exact .refl s
    · exact .refl s
  · exact .refl s

theorem State.onMatched_deck (s : State) : s.DeckFrame s.onMatched :=
  (((s.tsq_deck _).trans (State.matchRecovery_deck _)).trans (State.matchPending_deck _)).trans (State.matchFollow_deck _)

theorem State.onMatched_or_stay {s t : State} (h : s.DeckFrame t) (b : Bool) :
    s.DeckFrame (if b then t.onMatched else t) := by
  split
  · exact h.trans t.onMatched_deck
  · exact h

theorem State.drive_deck (m : ReqMode) (v : Int) (k : BitVec 5) (s : State) : s.DeckFrame (s.drive m v k) := by
  unfold State.drive
  extract_lets
  by_cases h : s.tsq.reqMode = m
  · rw [if_pos h]
    exact State.onMatched_or_stay (s.tsq_deck _) _
  · rw [if_neg h]
    exact State.onMatched_or_stay (s.tsq_deck _) _

theorem State.startWait_deck (s : State) : s.DeckFrame s.startWait := by
  unfold State.startWait
  dsimp only
  split
  · exact (s.tsq_deck _).trans (State.onMatched_deck _)
  · exact s.tsq_deck _

theorem State.tryStop_deck (s : State) : s.DeckFrame s.tryStop := (s.tsq_deck _).trans (State.startWait_deck _)

theorem State.driveStanding_deck (s : State) : s.DeckFrame s.driveStanding := by
  unfold State.driveStanding
  split <;> exact s.drive_deck ..

theorem State.chaseRequest_deck (r : ChaseReq) (s : State) : s.DeckFrame (s.chaseRequest r) := by
  unfold State.chaseRequest
  dsimp only
  split
  · exact (s.tsq_deck _).trans (State.tsq_deck _ _)
  · exact s.tsq_deck _
  · exact (s.tsq_deck _).trans (State.driveStanding_deck _)

theorem State.emptySlot_deck (c : Code) (s : State) : s.DeckFrame (s.emptySlot c) := by
  unfold State.emptySlot
  split
  · exact (s.tsq_deck _).trans (State.answer_frame ..).deck
  · exact .refl s

theorem State.endPending_deck (a b : Code) (s : State) : s.DeckFrame (s.endPending a b) := by
  unfold State.endPending
  split
  · exact .refl s
  · split
    · exact s.setPending_deck _
    all_goals exact (s.setPending_deck _).trans (State.answer_frame ..).deck

theorem State.approach_deck (e : Int) (s : State) : s.DeckFrame (s.approach e) := by
  unfold State.approach
  split
  · exact .refl s
  · split <;> exact s.drive_deck ..

theorem State.takeMode_deck (t : TransportState) (m : ReqMode) (v : Int) (i : Issuer) (q : Byte) (o : Origin)
    (s : State) : s.DeckFrame (s.takeMode t m v i q o) :=
  ((s.setTransport_deck _).trans (State.setPending_deck _ _)).trans (State.drive_deck ..)

theorem State.takeSeek_deck (k : OpKind) (n : Nat) (i : Issuer) (q : Byte) (s : State) :
    s.DeckFrame (s.takeSeek k n i q) := by
  unfold State.takeSeek
  dsimp only
  split
  · exact ((s.setTransport_deck _).trans (State.setPending_deck _ _)).trans (State.approach_deck ..)
  · exact (s.setTransport_deck _).trans (State.setPending_deck _ _)

theorem State.takeMotion_deck (m : Motion) (i : Issuer) (q : Byte) (s : State) :
    s.DeckFrame (s.takeMotion m i q).1 := by
  cases m with
  | still | play | shuttle => exact s.takeMode_deck ..
  | eject => exact ((s.setTransport_deck _).trans (State.setPending_deck _ _)).trans (State.drive_deck ..)
  | cueTo | jog => exact s.takeSeek_deck ..

theorem State.requestMotion_deck (m : Motion) (i : Issuer) (q : Byte) (s : State) :
    s.DeckFrame (s.requestMotion m i q).1 := by
  unfold State.requestMotion
  split
  · exact .refl s
  · split
    · exact .refl s
    · exact s.tsq_deck _
  · exact s.takeMotion_deck ..

theorem State.settle_deck (s : State) : s.DeckFrame s.settle := by
  unfold State.settle
  split
  · split
    · dsimp only
      exact ((s.tsq_deck _).trans (State.requestMotion_deck ..)).trans (State.reply_frame ..).deck
    · exact .refl s
  · exact .refl s

theorem State.engageTransport_deck (s : State) : s.DeckFrame s.engageTransport :=
  (s.endPending_deck ..).trans (State.setTransport_deck ..)

theorem State.abortOp_deck (s : State) : s.DeckFrame s.abortOp := by
  unfold State.abortOp
  dsimp only
  refine State.DeckFrame.trans ?_ (State.settle_deck _)
  refine State.DeckFrame.trans ?_ (State.emptySlot_deck ..)
  split
  · split <;> first
    | exact .refl s
    | exact ((s.endPending_deck ..).trans (State.setTransport_deck ..)).trans (State.drive_deck ..)
  · exact .refl s

theorem State.stopTransport_deck (s : State) : s.DeckFrame s.stopTransport := by
  unfold State.stopTransport
  split
  · exact .refl s
  · dsimp only
    have h := (s.emptySlot_deck .superseded).trans (State.endPending_deck .allStopped .allStopped _)
    split
    · exact h
    · split
      · exact h.trans (State.tryStop_deck _)
      · exact (h.trans (State.setTransport_deck ..)).trans (State.drive_deck ..)

theorem State.restartTransport_deck (s : State) : s.DeckFrame s.restartTransport := by
  unfold State.restartTransport
  dsimp only
  split
  · exact (s.tsq_deck _).trans (State.tsq_deck ..)
  · split
    · exact (s.tsq_deck _).trans (State.tryStop_deck _)
    · exact (((s.tsq_deck _).trans (State.setTransport_deck ..)).trans (State.setRequest_deck ..)).trans
        (State.startWait_deck _)

theorem State.driveEndingMode_deck (s : State) : s.DeckFrame s.driveEndingMode := by
  unfold State.driveEndingMode
  split
  · exact (s.setTransport_deck ..).trans (State.drive_deck ..)
  · exact s.driveStanding_deck
  · exact .refl s

/-! ### The end of a segment: the segment's own record changes as well, but never the zones -/

theorem State.emergencyOut_zones (c : Code) (d : Bool) (s : State) :
    (s.emergencyOut c d).rcc.zones = s.rcc.zones := by
  unfold State.emergencyOut
  split
  · rename_i g _ _
    unfold State.abortSegmentAt
    dsimp only
    rw [show ∀ t : State, t.enterGap.rcc.zones = t.rcc.zones from fun _ => rfl, (State.segmentNotice_frame ..).rcc]
    simp only [State.latch_rcc, State.writeSense_rcc]
    split
    · rw [s.driveEndingMode_deck.rcc]
    · rfl
  · rfl

/-- A segment that ends is in GAP, or IDLE with a turnaround gap of 0 (R150). -/
theorem State.enterGap_ends (s : State) : s.enterGap.rcc.state ≠ .recording := by
  unfold State.enterGap
  by_cases z : s.gapFields = 0 <;> simp [z]

/-- After an emergency out no segment is RECORDING, but where RECORDING stood with no segment record. -/
theorem State.emergencyOut_ends (c : Code) (d : Bool) (s : State) (h : s.rcc.state = .recording → s.rcc.record.isSome = true) :
    (s.emergencyOut c d).rcc.state ≠ .recording := by
  unfold State.emergencyOut
  split
  · exact State.enterGap_ends _
  · intro k
    obtain ⟨g, hg⟩ := Option.isSome_iff_exists.mp (h k)
    exact absurd hg (by rename_i hx; exact fun e => hx g k e)

/-- Nothing the end of a segment does touches more than the deck's work does, but the segment's own record; no zone goes. -/
theorem State.emergencyOut_frame (c : Code) (d : Bool) (s : State) :
    ∃ u, s.DeckFrame u ∧ (s.emergencyOut c d = u ∨ s.emergencyOut c d = u.enterGap) := by
  unfold State.emergencyOut
  split
  · rename_i g _ _
    refine ⟨_, ?_, .inr rfl⟩
    refine State.DeckFrame.trans ?_ (State.segmentNotice_frame ..).deck
    refine State.DeckFrame.trans ?_ (State.latch_frame ..).deck
    refine State.DeckFrame.trans ?_ (State.writeSense_frame ..).deck
    split
    · exact s.driveEndingMode_deck
    · exact .refl s
  · exact ⟨s, .refl s, .inl rfl⟩

end Sys2Proof.Machine
end

