-- ==== Sys2Proof/Laws/Bystanders.lean ====
section
/-! SUPPORT. For each operation an effect on the deck, the chase or a segment is made of: the bystanders it leaves as they stand. -/

namespace Sys2Proof.Machine

theorem State.Bystanders.refl (s : State) : s.Bystanders s :=
  .mk rfl rfl rfl rfl rfl rfl rfl rfl (List.Sublist.refl _) rfl List.prefix_rfl rfl fun _ h => h

theorem State.Bystanders.trans {s t u : State} (h : s.Bystanders t) (k : t.Bystanders u) : s.Bystanders u where
  ftu := k.ftu.trans h.ftu
  ptb := k.ptb.trans h.ptb
  order := k.order.trans h.order
  pending := k.pending.trans h.pending
  stn := k.stn.trans h.stn
  transportFitted := k.transportFitted.trans h.transportFitted
  channelFitted := k.channelFitted.trans h.channelFitted
  config := k.config.trans h.config
  waiting := h.waiting.trans k.waiting
  lif := by rw [k.lif, h.lif]
  rxQueue := h.rxQueue.trans k.rxQueue
  lpt := by rw [k.lpt, h.lpt]
  events := fun e x => k.events e (h.events e x)

theorem State.latch_by (e : Event) (s : State) : s.Bystanders (s.latch e) :=
  .mk rfl rfl rfl rfl rfl rfl rfl rfl (List.Sublist.refl _) rfl List.prefix_rfl rfl fun f h => s.holdsEvent_stays e f h

theorem State.writeSense_by (r : Sense) (s : State) : s.Bystanders (s.writeSense r) :=
  .mk rfl rfl rfl rfl rfl rfl rfl rfl (List.Sublist.refl _) rfl List.prefix_rfl rfl fun _ h => h

/-- A message that joins lets those that wait stand in their order. -/
theorem joinBehind_sublist (m : TxMsg) (q : List TxMsg) : q.Sublist (joinBehind m q) := by
  induction q with
  | nil => exact List.nil_sublist _
  | cons x q ih =>
    unfold joinBehind
    split
    · exact ih.cons_cons x
    · exact List.Sublist.cons m (List.Sublist.refl _)

theorem State.txJoin_by (m : TxMsg) (s : State) : s.Bystanders (s.txJoin m) := by
  unfold State.txJoin
  split
  · exact .refl s
  · split
    · exact s.latch_by _
    · exact .mk rfl rfl rfl rfl rfl rfl rfl rfl (joinBehind_sublist m _) rfl List.prefix_rfl rfl fun _ h => h

theorem State.rxJoin_by (bytes : List Byte) (s : State) : s.Bystanders (s.rxJoin bytes) := by
  unfold State.rxJoin
  split
  · exact s.latch_by _
  · exact .mk rfl rfl rfl rfl rfl rfl rfl rfl (List.Sublist.refl _) rfl (List.prefix_append _ _) rfl fun _ h => h

theorem State.answer_by (i : Issuer) (q y : Byte) (c : Code) (r : List Byte) (s : State) :
    s.Bystanders (s.answer i q y c r) := by
  cases i with
  | nobody => exact .refl s
  | port => exact s.rxJoin_by _
  | station n => exact s.txJoin_by _

theorem State.reply_by (i : Issuer) (q y : Byte) (r : Reply) (s : State) : s.Bystanders (s.reply i q y r) := by
  unfold State.reply
  split
  · exact s.answer_by ..
  · exact .refl s

theorem State.raiseNotice_by (d : Nat) (p : List Byte) (s : State) : s.Bystanders (s.raiseNotice d p) := by
  unfold State.raiseNotice
  dsimp only
  split
  · exact s.rxJoin_by _
  · exact s.txJoin_by _

theorem State.segmentNotice_by (g : Segment) (c : Code) (s : State) : s.Bystanders (s.segmentNotice g c) := by
  unfold State.segmentNotice
  split
  · exact s.raiseNotice_by ..
  · exact .refl s

/-- A change of the segment's own record alone. -/
theorem State.rcc_by (r : Rcc) (s : State) : s.Bystanders { s with rcc := r } := by
  exact .mk rfl rfl rfl rfl rfl rfl rfl rfl (List.Sublist.refl _) rfl List.prefix_rfl rfl fun _ h => h

/-- A change of the transport's own record alone. -/
theorem State.tsq_by (q : Tsq) (s : State) : s.Bystanders { s with tsq := q } := by
  exact .mk rfl rfl rfl rfl rfl rfl rfl rfl (List.Sublist.refl _) rfl List.prefix_rfl rfl fun _ h => h

/-- A change of the chase's own record alone. -/
theorem State.csv_by (c : Csv) (s : State) : s.Bystanders { s with csv := c } := by
  exact .mk rfl rfl rfl rfl rfl rfl rfl rfl (List.Sublist.refl _) rfl List.prefix_rfl rfl fun _ h => h

theorem State.setPending_by (o : Option PendingOp) (s : State) : s.Bystanders (s.setPending o) := s.tsq_by _

theorem State.setTransport_by (t : TransportState) (s : State) : s.Bystanders (s.setTransport t) := s.tsq_by _

theorem State.setRequest_by (m : ReqMode) (s : State) : s.Bystanders (s.setRequest m) := s.tsq_by _

theorem State.chaseOff_by (s : State) : s.Bystanders s.chaseOff := s.csv_by _

theorem State.judgeRest_by (o : PendingOp) (s : State) : s.Bystanders (s.judgeRest o) := by
  unfold State.judgeRest
  split
  · split
    · exact ((s.setPending_by _).trans (State.setTransport_by _ _)).trans (State.answer_by ..)
    · exact .refl s
  · exact .refl s

theorem State.matchPending_by (s : State) : s.Bystanders s.matchPending := by
  unfold State.matchPending
  split
  · exact .refl s
  · split
    · exact s.setPending_by _
    · split
      · exact (s.setPending_by _).trans (State.answer_by ..)
      · exact .refl s
    all_goals
      split
      · exact s.judgeRest_by _
      · exact .refl s

theorem State.matchRecovery_by (s : State) : s.Bystanders s.matchRecovery := by
  unfold State.matchRecovery
  split
  · exact s.tsq_by _
  · exact .refl s

theorem State.matchFollow_by (s : State) : s.Bystanders s.matchFollow := by
  unfold State.matchFollow
  split
  · split
    · split
      · exact s.csv_by _
      · exact .refl s
    · exact .refl s
  · exact .refl s

theorem State.onMatched_by (s : State) : s.Bystanders s.onMatched :=
  (((s.tsq_by _).trans (State.matchRecovery_by _)).trans (State.matchPending_by _)).trans (State.matchFollow_by _)

theorem State.onMatched_or_stay_by {s t : State} (h : s.Bystanders t) (b : Bool) :
    s.Bystanders (if b then t.onMatched else t) := by
  split
  · exact h.trans t.onMatched_by
  · exact h

theorem State.drive_by (m : ReqMode) (v : Int) (k : BitVec 5) (s : State) : s.Bystanders (s.drive m v k) := by
  unfold State.drive
  extract_lets
  by_cases h : s.tsq.reqMode = m
  · rw [if_pos h]
    exact State.onMatched_or_stay_by (s.tsq_by _) _
  · rw [if_neg h]
    exact State.onMatched_or_stay_by (s.tsq_by _) _

theorem State.startWait_by (s : State) : s.Bystanders s.startWait := by
  unfold State.startWait
  dsimp only
  split
  · exact (s.tsq_by _).trans (State.onMatched_by _)
  · exact s.tsq_by _

theorem State.tryStop_by (s : State) : s.Bystanders s.tryStop := (s.tsq_by _).trans (State.startWait_by _)

theorem State.driveStanding_by (s : State) : s.Bystanders s.driveStanding := by
  unfold State.driveStanding
  split <;> exact s.drive_by ..

theorem State.chaseRequest_by (r : ChaseReq) (s : State) : s.Bystanders (s.chaseRequest r) := by
  unfold State.chaseRequest
  dsimp only
  split
  · exact (s.tsq_by _).trans (State.tsq_by _ _)
  · exact s.tsq_by _
  · exact (s.tsq_by _).trans (State.driveStanding_by _)

theorem State.emptySlot_by (c : Code) (s : State) : s.Bystanders (s.emptySlot c) := by
  unfold State.emptySlot
  split
  · exact (s.tsq_by _).trans (State.answer_by ..)
  · exact .refl s

theorem State.endPending_by (a b : Code) (s : State) : s.Bystanders (s.endPending a b) := by
  unfold State.endPending
  split
  · exact .refl s
  · split
    · exact s.setPending_by _
    all_goals exact (s.setPending_by _).trans (State.answer_by ..)

theorem State.approach_by (e : Int) (s : State) : s.Bystanders (s.approach e) := by
  unfold State.approach
  split
  · exact .refl s
  · split <;> exact s.drive_by ..

theorem State.takeMode_by (t : TransportState) (m : ReqMode) (v : Int) (i : Issuer) (q : Byte) (o : Origin)
    (s : State) : s.Bystanders (s.takeMode t m v i q o) :=
  ((s.setTransport_by _).trans (State.setPending_by _ _)).trans (State.drive_by ..)

theorem State.takeSeek_by (k : OpKind) (n : Nat) (i : Issuer) (q : Byte) (s : State) :
    s.Bystanders (s.takeSeek k n i q) := by
  unfold State.takeSeek
  dsimp only
  split
  · exact ((s.setTransport_by _).trans (State.setPending_by _ _)).trans (State.approach_by ..)
  · exact (s.setTransport_by _).trans (State.setPending_by _ _)

theorem State.takeMotion_by (m : Motion) (i : Issuer) (q : Byte) (s : State) :
    s.Bystanders (s.takeMotion m i q).1 := by
  cases m with
  | still | play | shuttle => exact s.takeMode_by ..
  | eject => exact ((s.setTransport_by _).trans (State.setPending_by _ _)).trans (State.drive_by ..)
  | cueTo | jog => exact s.takeSeek_by ..

theorem State.requestMotion_by (m : Motion) (i : Issuer) (q : Byte) (s : State) :
    s.Bystanders (s.requestMotion m i q).1 := by
  unfold State.requestMotion
  split
  · exact .refl s
  · split
    · exact .refl s
    · exact s.tsq_by _
  · exact s.takeMotion_by ..

theorem State.settle_by (s : State) : s.Bystanders s.settle := by
  unfold State.settle
  split
  · split
    · dsimp only
      exact ((s.tsq_by _).trans (State.requestMotion_by ..)).trans (State.reply_by ..)
    · exact .refl s
  · exact .refl s

theorem State.engageTransport_by (s : State) : s.Bystanders s.engageTransport :=
  (s.endPending_by ..).trans (State.setTransport_by ..)

theorem State.abortOp_by (s : State) : s.Bystanders s.abortOp := by
  unfold State.abortOp
  dsimp only
  refine State.Bystanders.trans ?_ (State.settle_by _)
  refine State.Bystanders.trans ?_ (State.emptySlot_by ..)
  split
  · split <;> first
    | exact .refl s
    | exact ((s.endPending_by ..).trans (State.setTransport_by ..)).trans (State.drive_by ..)
  · exact .refl s

theorem State.stopTransport_by (s : State) : s.Bystanders s.stopTransport := by
  unfold State.stopTransport
  split
  · exact .refl s
  · dsimp only
    have h := (s.emptySlot_by .superseded).trans (State.endPending_by .allStopped .allStopped _)
    split
    · exact h
    · split
      · exact h.trans (State.tryStop_by _)
      · exact (h.trans (State.setTransport_by ..)).trans (State.drive_by ..)

theorem State.restartTransport_by (s : State) : s.Bystanders s.restartTransport := by
  unfold State.restartTransport
  dsimp only
  split
  · exact (s.tsq_by _).trans (State.tsq_by ..)
  · split
    · exact (s.tsq_by _).trans (State.tryStop_by _)
    · exact (((s.tsq_by _).trans (State.setTransport_by ..)).trans (State.setRequest_by ..)).trans
        (State.startWait_by _)

theorem State.driveEndingMode_by (s : State) : s.Bystanders s.driveEndingMode := by
  unfold State.driveEndingMode
  split
  · exact (s.setTransport_by ..).trans (State.drive_by ..)
  · exact s.driveStanding_by
  · exact .refl s

theorem State.emergencyOut_by (c : Code) (d : Bool) (s : State) : s.Bystanders (s.emergencyOut c d) := by
  unfold State.emergencyOut
  split
  · refine State.Bystanders.trans ?_ (State.rcc_by ..)
    refine State.Bystanders.trans ?_ (State.segmentNotice_by ..)
    refine State.Bystanders.trans ?_ (State.latch_by ..)
    refine State.Bystanders.trans ?_ (State.writeSense_by ..)
    split
    · exact s.driveEndingMode_by
    · exact .refl s
  · exact .refl s

end Sys2Proof.Machine
end

