-- ==== Sys2Proof/Laws/Directives.lean ====
section
/-! SUPPORT. How a directive comes to its owner: the checks of R65 taken off once, so that a statement about a directive row
need not unfold them. -/

namespace Sys2Proof.Machine

/-- What the way of a directive makes of the line changes no check. -/
theorem State.checkDirective_heard (v via : Via) (p : List Byte) (s : State) :
    (s.heard v).checkDirective via p = s.checkDirective via p := by cases v <;> rfl

/-- A directive that is heard is checked, and its owner's result reported. -/
theorem State.takeDirective_of_hears (s : State) (via : Via) (p : List Byte) (h : s.hears via p.length = true) :
    s.takeDirective via p =
      match s.checkDirective via p with
      | .bad c => (s.heard via).report via (byteAt p 0) c []
      | .ok d => ((s.heard via).runOwner d via).1.reply (Via.issuer via) (Via.seq via) (byteAt p 0)
          ((s.heard via).runOwner d via).2 := by
  rw [← s.checkDirective_heard via via p]
  cases via with
  | port q =>
    simp only [State.takeDirective, State.handDirective, State.addressed, State.ignores, Via.fromLine, State.report,
      State.heard]
    cases s.checkDirective (.port q) p <;> rfl
  | line source dest q parity =>
    simp only [State.hears, Bool.and_eq_true, bne_iff_ne, ne_eq, beq_iff_eq, decide_eq_true_eq,
      Bool.not_eq_eq_eq_not, Bool.not_true] at h
    obtain ⟨⟨⟨⟨⟨⟨hw, h0⟩, h31⟩, hd⟩, hp⟩, ha⟩, hl⟩ := h
    have hp' : ¬ 32 < p.length := by omega
    have ha' : s.lineBusy.addressed (.line source dest q parity) = true := ha
    simp only [State.takeDirective, State.handDirective, State.ignores, hw, h0, h31, hd, hp', ha', State.lineBusy_lif, hl,
      State.report, State.heard]
    cases s.lineBusy.checkDirective (.line source dest q parity) p <;> simp

/-- A directive a READY station obeys is heard. -/
theorem State.hears_of_obeys {s : State} {via : Via} {n : Nat} (h : s.obeys via n = true) : s.hears via n = true := by
  simp only [State.obeys, Bool.and_eq_true] at h
  exact h.1.1

/-- A directive of a known type that a READY station obeys comes to the fitted set and the parameter check. -/
theorem State.checkDirective_of_obeys (s : State) (via : Via) (type : Byte) (q : List Byte) (n : Nat)
    (h : s.obeys via n = true) (ht : typeUnknown (type :: q) = false) :
    s.checkDirective via (type :: q) =
      if (needsTransport (type :: q) && !s.dhd.transportFitted) || (needsChannel (type :: q) && !s.dhd.channelFitted) then
        .bad .notFitted
      else parseParams s.ownNumber s.standard (Via.fromLine via) (type :: q) := by
  simp only [State.obeys, Bool.and_eq_true] at h
  obtain ⟨⟨-, hc⟩, hp⟩ := h
  have hn : s.dhd.config.isNone = false := by
    cases hx : s.dhd.config <;> simp_all
  have hpm : s.permits via (type :: q) = true := by
    cases via with
    | port => rfl
    | line source dest sq par =>
      simp only [State.controlledBy, Bool.or_eq_true] at hp
      simp only [State.permits, Bool.or_eq_true]
      tauto
  simp [State.checkDirective, ht, hn, hpm]

/-- A directive of a known type that a READY station with the functions it needs obeys: the parameter check, then its owner. -/
theorem State.takeDirective_of_obeys (s : State) (via : Via) (type : Byte) (q : List Byte) (n : Nat)
    (hn : n = q.length + 1) (h : s.obeys via n = true) (ht : typeUnknown (type :: q) = false)
    (hT : needsTransport (type :: q) = true → s.dhd.transportFitted = true)
    (hC : needsChannel (type :: q) = true → s.dhd.channelFitted = true) :
    s.takeDirective via (type :: q) =
      match parseParams s.ownNumber s.standard (Via.fromLine via) (type :: q) with
      | .bad c => (s.heard via).report via type c []
      | .ok d => ((s.heard via).runOwner d via).1.reply (Via.issuer via) (Via.seq via) type
          ((s.heard via).runOwner d via).2 := by
  subst hn
  rw [s.takeDirective_of_hears via (type :: q) (State.hears_of_obeys h), s.checkDirective_of_obeys via type q _ h ht]
  have hf : (needsTransport (type :: q) && !s.dhd.transportFitted || needsChannel (type :: q) && !s.dhd.channelFitted) =
      false := by
    cases a : needsTransport (type :: q) <;> cases b : needsChannel (type :: q) <;> simp_all
  rw [hf]
  simp only [Bool.false_eq_true, if_false]
  cases parseParams s.ownNumber s.standard (Via.fromLine via) (type :: q) <;> rfl

theorem State.obeysTape_iff (s : State) (via : Via) (n : Nat) :
    s.obeysTape via n = true ↔ s.obeys via n = true ∧ s.dhd.transportFitted = true := by
  simp [State.obeysTape]

theorem State.obeysChannel_iff (s : State) (via : Via) (n : Nat) :
    s.obeysChannel via n = true ↔ s.obeys via n = true ∧ s.dhd.channelFitted = true := by
  simp [State.obeysChannel]

/-- A station that obeys a directive is configured. -/
theorem State.config_of_obeys {s : State} {via : Via} {n : Nat} (h : s.obeys via n = true) :
    ∃ c, s.dhd.config = some c := by
  simp only [State.obeys, Bool.and_eq_true] at h
  exact Option.isSome_iff_exists.mp h.1.2

/-- What is obeyed at a length is obeyed at a shorter one. -/
theorem State.obeys_mono {s : State} {via : Via} {n m : Nat} (h : s.obeys via n = true) (hm : m ≤ n) :
    s.obeys via m = true := by
  cases via with
  | port => exact h
  | line source dest q parity =>
    simp only [State.obeys, State.hears, Bool.and_eq_true, decide_eq_true_eq] at *
    obtain ⟨⟨⟨⟨⟨h1, h2⟩, h3⟩, h4⟩, h5⟩, h6⟩ := h
    exact ⟨⟨⟨⟨⟨h1, by omega⟩, h3⟩, h4⟩, h5⟩, h6⟩

end Sys2Proof.Machine
end

