-- ==== Sys2Proof/Laws/FieldTiming.lean ====
section
/-! SUPPORT. What the field timing can do: a field start leaves the Field Timing Unit as `markField` sets it, and the timers that end
before a moment are each given their field start, no more and no fewer. Later proofs cite these and do not unfold the operations. -/

namespace Sys2Proof.Machine

/-! ### What the work of the blocks leaves of the field timing -/

/-- The Field Timing Unit, the configuration and the queue stand. -/
structure State.KeepsTime (s t : State) : Prop where
  ftu : t.ftu = s.ftu
  config : t.dhd.config = s.dhd.config
  pending : t.pending = s.pending

theorem State.KeepsTime.refl (s : State) : s.KeepsTime s := ⟨rfl, rfl, rfl⟩

theorem State.KeepsTime.trans {s t u : State} (h : s.KeepsTime t) (k : t.KeepsTime u) : s.KeepsTime u :=
  ⟨k.ftu.trans h.ftu, k.config.trans h.config, k.pending.trans h.pending⟩

theorem State.Bystanders.time {s t : State} (h : s.Bystanders t) : s.KeepsTime t := ⟨h.ftu, h.config, h.pending⟩

theorem State.MessageFrame.time {s t : State} (h : s.MessageFrame t) : s.KeepsTime t := ⟨h.ftu, h.config, h.pending⟩

theorem State.Bystanders.ite {s a b : State} {p : Prop} [Decidable p] (h : s.Bystanders a) (k : s.Bystanders b) :
    s.Bystanders (if p then a else b) := by split <;> assumption

theorem State.latched_by {s t : State} (h : s.Bystanders t) (e : Event) (r : Sense) :
    s.Bystanders ((t.latch e).writeSense r) := (h.trans (State.latch_by ..)).trans (State.writeSense_by ..)

theorem State.enterFaulted_by (c : Code) (s : State) : s.Bystanders (s.enterFaulted c) :=
  ((((State.latched_by ((s.setTransport_by _).trans (State.setRequest_by ..)) _ _).trans (State.endPending_by ..)).trans
    (State.chaseOff_by _)).trans (State.emergencyOut_by ..)).trans (State.tsq_by ..)

theorem State.waitRunsOut_by (s : State) : s.Bystanders s.waitRunsOut := by
  unfold State.waitRunsOut
  split
  · exact (State.latched_by (s.tsq_by _) _ _).trans (State.settle_by _)
  · exact (s.enterFaulted_by _).trans (State.settle_by _)

theorem State.faultStep_by (s : State) : s.Bystanders s.faultStep := by
  unfold State.faultStep
  repeat' split
  · exact .refl s
  · exact ((s.tsq_by _).trans (State.enterFaulted_by ..)).trans (State.settle_by _)
  · exact s.tsq_by _
  · exact s.tsq_by _

theorem State.recoveryStep_by (c : Settings) (s : State) : s.Bystanders (s.recoveryStep c) := by
  unfold State.recoveryStep State.offTimeEnds State.waitStep
  repeat' split
  all_goals first
    | exact .refl s
    | exact s.tsq_by _
    | exact s.waitRunsOut_by
    | exact s.tryStop_by.trans (State.settle_by _)

theorem State.failSeek_by (o : PendingOp) (s : State) : s.Bystanders (s.failSeek o) :=
  (((((s.setPending_by _).trans (State.setTransport_by ..)).trans (State.writeSense_by ..)).trans
    (State.answer_by ..)).trans (State.drive_by ..)).trans (State.settle_by _)

theorem State.cueStep_by (s : State) : s.Bystanders s.cueStep := by
  unfold State.cueStep
  split
  · split
    · dsimp only
      split
      · exact (s.setPending_by _).trans (State.failSeek_by ..)
      · exact ((s.setPending_by _).trans (State.approach_by ..)).trans (State.settle_by _)
    · exact .refl s
  · exact .refl s

theorem State.slotStep_by (c : Settings) (s : State) : s.Bystanders (s.slotStep c) := by
  unfold State.slotStep
  repeat' split
  all_goals first
    | exact .refl s
    | exact s.tsq_by _
    | exact (s.writeSense_by _).trans (State.emptySlot_by ..)

theorem State.transportFieldStart_by (s : State) : s.Bystanders s.transportFieldStart := by
  unfold State.transportFieldStart
  split
  · rename_i c _
    refine State.Bystanders.ite ?_ (.refl s)
    have recovered := State.Bystanders.ite (p := s.faultStep.tsq.state = .faulted ∧ s.tsq.state ≠ .faulted) s.faultStep_by
      (s.faultStep_by.trans (State.recoveryStep_by c _))
    exact (State.Bystanders.ite (recovered.trans (State.cueStep_by _)) recovered).trans (State.slotStep_by ..)
  · exact .refl s

/-! ### The chase -/

theorem State.leaveLock_by (s : State) : s.Bystanders s.leaveLock := by
  unfold State.leaveLock
  split
  · exact (s.latch_by _).trans (State.emergencyOut_by ..)
  · exact .refl s

theorem State.followApproach_by (e : Int) (s : State) : s.Bystanders (s.followApproach e) := by
  unfold State.followApproach
  repeat' split
  all_goals first
    | exact .refl s
    | exact s.chaseRequest_by _

theorem State.chaseLaw_by (r : ChaseRecord) (m e : Int) (s : State) : s.Bystanders (s.chaseLaw r m e) := by
  unfold State.chaseLaw State.followLaw
  repeat' split
  all_goals first
    | exact .refl s
    | exact s.chaseRequest_by _
    | exact s.followApproach_by _
    | exact (s.csv_by _).trans (State.followApproach_by ..)

theorem State.pullStep_by (r : ChaseRecord) (s : State) : s.Bystanders (s.pullStep r) := by
  unfold State.pullStep State.stopPulling
  repeat' split
  · exact (s.csv_by _).trans (State.chaseRequest_by ..)
  · exact State.latched_by ((s.csv_by _).trans (State.chaseRequest_by ..)) _ _
  · exact s.csv_by _

theorem State.chaseCounts_by (r : ChaseRecord) (e : Int) (s : State) : s.Bystanders (s.chaseCounts r e) := by
  unfold State.chaseCounts State.lockStep State.blankStep
  repeat' split
  all_goals first
    | exact .refl s
    | exact s.csv_by _
    | exact (s.csv_by _).trans (State.pullStep_by ..)
    | exact ((s.csv_by _).trans (State.latch_by ..)).trans (State.emergencyOut_by ..)

theorem State.chaseServo_by (d : Standard) (r : ChaseRecord) (m e : Int) (s : State) :
    s.Bystanders (s.chaseServo d r m e) :=
  ((State.Bystanders.ite (.refl s) s.leaveLock_by).trans (State.csv_by ..)).trans (State.chaseLaw_by ..)

theorem State.chaseStep_by (d : Standard) (r : ChaseRecord) (m e : Int) (s : State) :
    s.Bystanders (s.chaseStep d r m e) := by
  unfold State.chaseStep
  repeat' split
  · exact (s.csv_by _).trans (State.chaseLaw_by ..)
  · exact s.csv_by _
  · exact (s.chaseServo_by ..).trans (State.chaseCounts_by ..)

theorem State.chaseFieldStart_by (s : State) : s.Bystanders s.chaseFieldStart := by
  unfold State.chaseFieldStart
  repeat' split
  all_goals first
    | exact .refl s
    | exact ((s.leaveLock_by.trans (State.csv_by ..)).trans (State.chaseRequest_by ..)).trans (State.settle_by _)
    | exact ((s.csv_by _).trans (State.chaseStep_by ..)).trans (State.settle_by _)

theorem State.startChase_by (r : ChaseRecord) (o : Origin) (s : State) : s.Bystanders (s.startChase r o) := by
  have begun := State.Bystanders.ite (p := s.csv.state = .off) s.engageTransport_by s.leaveLock_by
  unfold State.startChase
  dsimp only
  split
  · exact ((begun.trans (State.csv_by ..)).trans (State.chaseRequest_by ..)).trans (State.settle_by _)
  · exact (((begun.trans (State.csv_by ..)).trans (State.csv_by ..)).trans (State.chaseServo_by ..)).trans
      (State.settle_by _)

theorem State.engageStored_by (o : Origin) (s : State) : s.Bystanders (s.engageStored o).1 := by
  unfold State.engageStored
  repeat' split
  all_goals first
    | exact .refl s
    | exact s.startChase_by ..

theorem State.disableChase_by (s : State) : s.Bystanders s.disableChase := by
  unfold State.disableChase
  split
  · exact .refl s
  · exact ((((s.emergencyOut_by ..).trans (State.chaseOff_by _)).trans (State.setTransport_by ..)).trans
      (State.drive_by ..)).trans (State.settle_by _)

/-! ### The segment -/

theorem State.abortSegmentAt_by (g : Segment) (c : Code) (d : Bool) (s : State) :
    s.Bystanders (s.abortSegmentAt g c d) :=
  ((((State.Bystanders.ite s.driveEndingMode_by (.refl s)).trans (State.writeSense_by ..)).trans
    (State.latch_by ..)).trans (State.segmentNotice_by ..)).trans (State.rcc_by ..)

theorem State.endNormally_by (g : Segment) (s : State) : s.Bystanders (s.endNormally g) :=
  (s.driveEndingMode_by.trans (State.segmentNotice_by ..)).trans (State.rcc_by ..)

theorem State.segmentStep_by (g : Segment) (s : State) : s.Bystanders (s.segmentStep g) := by
  unfold State.segmentStep
  dsimp only
  split
  · exact (s.abortSegmentAt_by ..).trans (State.settle_by _)
  · split
    · exact (s.endNormally_by ..).trans (State.settle_by _)
    · split
      · exact (s.abortSegmentAt_by ..).trans (State.settle_by _)
      · exact s.rcc_by _

theorem State.recordFieldStart_by (s : State) : s.Bystanders s.recordFieldStart := by
  unfold State.recordFieldStart
  repeat' split
  all_goals first
    | exact .refl s
    | exact s.rcc_by _
    | exact s.segmentStep_by _

theorem State.requestRecord_by (k : BitVec 5) (s : State) : s.Bystanders (s.requestRecord k) :=
  State.Bystanders.ite ((s.setPending_by _).trans (State.drive_by ..))
    (((s.setPending_by _).trans (State.setTransport_by ..)).trans (State.drive_by ..))

theorem State.beginSegment_by (g : Segment) (s : State) : s.Bystanders (s.beginSegment g) := by
  unfold State.beginSegment
  exact ((s.rcc_by _).trans (State.requestRecord_by ..)).trans (State.settle_by _)

theorem State.recordIn_by (i : Nat) (k : BitVec 5) (d : Option Nat) (g : Guard) (l : List Nat) (n : Option Nat)
    (s : State) : s.Bystanders (s.recordIn i k d g l n).1 := by
  unfold State.recordIn
  split
  · exact .refl s
  · exact s.beginSegment_by _

theorem State.recordOut_by (s : State) : s.Bystanders s.recordOut.1 := by
  unfold State.recordOut
  split
  · exact (s.endNormally_by _).trans (State.settle_by _)
  · exact .refl s

/-! ### Cues and rolls -/

theorem State.ten_time (t : Ten) (s : State) : s.KeepsTime (s.setTen t) := ⟨rfl, rfl, rfl⟩

theorem State.transportStop_by (q : Byte) (o : Origin) (s : State) : s.Bystanders (s.transportStop q o).1 := by
  unfold State.transportStop
  split
  · exact .refl s
  · have ended := (((s.endPending_by .cueAborted .aborted).trans (State.emptySlot_by .superseded _)).trans
      (State.chaseOff_by _)).trans (State.emergencyOut_by .aborted false _)
    exact (State.Bystanders.ite (ended.trans (State.tryStop_by _)) (((ended.trans (State.setTransport_by ..)).trans
      (State.setPending_by ..)).trans (State.drive_by ..))).trans (State.settle_by _)

theorem State.cueMotion_by (m : Motion) (t : TransportState) (r : ReqMode) (i : Nat) (s : State) :
    s.Bystanders (s.cueMotion m t r i).1 := by
  unfold State.cueMotion
  split
  · exact .refl s
  · exact .refl s
  · exact s.takeMode_by ..

theorem State.takeTransition_time (s : State) : s.KeepsTime s.takeTransition.1 := by
  unfold State.takeTransition State.beginTransition
  repeat' split
  all_goals first
    | exact .refl s
    | exact s.ten_time _

theorem State.handOver_time (c : Cue) (s : State) : s.KeepsTime (s.handOver c).1 := by
  unfold State.handOver
  split
  · exact (s.recordIn_by ..).time
  · exact s.recordOut_by.time
  · exact s.takeTransition_time
  · exact (s.transportStop_by ..).time
  · exact ((s.cueMotion_by ..).trans (State.settle_by _)).time
  · exact ((s.cueMotion_by ..).trans (State.settle_by _)).time
  · exact (s.engageStored_by _).time
  · exact s.disableChase_by.time
  · exact ⟨rfl, rfl, rfl⟩

theorem State.cueNotice_time (c : Cue) (r : Code) (s : State) : s.KeepsTime (s.cueNotice c r) := (s.cueNotice_frame c r).time

theorem State.fireCue_time (c : Cue) (s : State) : s.KeepsTime (s.fireCue c) := by
  unfold State.fireCue
  split
  · exact (s.missCue_frame ..).time
  · split
    · exact (s.missCue_frame ..).time
    · dsimp only
      split
      · exact (s.handOver_time c).trans (State.missCue_frame ..).time
      · exact (s.handOver_time c).trans (State.cueNotice_time ..)

theorem State.judgeCues_time (l : List Cue) (s : State) : s.KeepsTime (State.judgeCues l s).1 := by
  induction l generalizing s with
  | nil => exact .refl s
  | cons c cs ih =>
    unfold State.judgeCues
    split
    · exact ih s
    · exact (s.fireCue_time c).trans (ih _)
    · exact (s.missCue_frame ..).time.trans (ih _)

theorem State.rollPlay_by (q : Byte) (s : State) : s.Bystanders (s.rollPlay q).1 := by
  unfold State.rollPlay
  split
  · exact .refl s
  · exact s.takeMode_by ..
  · exact s.takeMode_by ..
  · exact .refl s

theorem State.carryRoll_by (r : RollSlot) (s : State) : s.Bystanders (s.carryRoll r) := by
  have carried : s.Bystanders (if r.engage then s.engageStored (.directive 0x0B) else s.rollPlay r.seq).1 := by
    split
    · exact s.engageStored_by _
    · exact s.rollPlay_by _
  unfold State.carryRoll
  dsimp only
  split
  · exact carried.trans (State.writeSense_by ..)
  · exact carried.trans (State.settle_by _)

theorem State.cul_time (c : Cul) (s : State) : s.KeepsTime { s with cul := c } := ⟨rfl, rfl, rfl⟩

theorem State.rollDue_time (n : Count32) (s : State) : s.KeepsTime (s.rollDue n) := by
  unfold State.rollDue
  split
  · split
    · exact (s.cul_time _).trans (State.carryRoll_by ..).time
    · exact .refl s
  · exact .refl s

theorem State.cueFieldStart_time (s : State) : s.KeepsTime s.cueFieldStart :=
  (((s.cul_time _).trans (State.rollDue_time ..)).trans (State.judgeCues_time ..)).trans (State.cul_time ..)

/-! ### The field start -/

theorem State.KeepsTime.ite {s a b : State} {p : Prop} [Decidable p] (h : s.KeepsTime a) (k : s.KeepsTime b) :
    s.KeepsTime (if p then a else b) := by split <;> assumption

theorem State.transitionFieldStart_time (s : State) : s.KeepsTime s.transitionFieldStart :=
  .ite (s.ten_time _) (.refl s)

theorem State.recordCueTransition_time (s : State) : s.KeepsTime s.recordCueTransition := by
  have first := State.KeepsTime.ite (p := s.order.rccFirst = true) s.recordFieldStart_by.time (.refl s)
  have second := (State.KeepsTime.ite (p := s.order.tenFirst = true) (first.trans (State.transitionFieldStart_time _)) first).trans
    (State.cueFieldStart_time _)
  have third := State.KeepsTime.ite (p := s.order.rccFirst = true) second (second.trans (State.recordFieldStart_by _).time)
  exact .ite third (third.trans (State.transitionFieldStart_time _))

theorem State.announceField_time (s : State) : s.KeepsTime s.announceField := by
  unfold State.announceField State.txAnnounce
  repeat' split
  all_goals exact ⟨rfl, rfl, rfl⟩

theorem State.ageTxq_time (s : State) : s.KeepsTime s.ageTxq := by
  unfold State.ageTxq
  dsimp only
  split <;> exact ⟨rfl, rfl, rfl⟩

/-- The work of the blocks at a field start leaves the field timing, the configuration and the queue as they stand. -/
theorem State.fieldWork_time (s : State) : s.KeepsTime s.fieldWork :=
  ((((((State.KeepsTime.mk (s := s) (t := s.measureSpeed.agePeers) rfl rfl rfl).trans (State.ageTxq_time _)).trans (State.transportFieldStart_by _).time).trans
    (State.chaseFieldStart_by _).time).trans (State.recordCueTransition_time _)).trans (State.announceField_time _))

theorem State.fieldStart_time (p : Parity) (m : Nat) (x : FieldSource) (pins : FieldPins) (s : State) :
    (s.markField p m x pins).KeepsTime (s.fieldStart p m x pins) := State.fieldWork_time _

/-- A field start sets what `markField` sets of the field timing and leaves the configuration (R42). -/
theorem State.fieldStart_clock (p : Parity) (m : Nat) (x : FieldSource) (pins : FieldPins) (s : State) :
    (s.fieldStart p m x pins).ftu =
        { s.ftu with
          now := max s.ftu.now m, counter := s.ftu.counter + 1, parity := p, firstGiven := true,
          lastFieldStart := some (m, x), accepted := none } ∧
      (s.fieldStart p m x pins).standard = s.standard :=
  have h := s.fieldStart_time p m x pins
  ⟨h.ftu, congrArg (·.map (·.standard)) h.config⟩

/-! ### The timers -/

/-- The timer that runs, with its end and the row that its end is (R43, R44, R46). -/
theorem State.timer_cases {s : State} {ends : Nat} (h : s.timerDue = some ends) :
    ∃ std, s.standard = some std ∧
      ((s.ftu.refState = .lockedRef ∧ ends = s.ftu.watchEnd std ∧ s.timerFires = s.watchRunsOut std s.pins.field) ∨
        (s.ftu.refState = .fallback ∧ s.ftu.returnStep = .idle ∧ s.ftu.timerRunning = true ∧
          ends = s.ftu.timerEnd std ∧ s.timerFires = s.timerRunsOut std s.pins.field) ∨
        (s.ftu.refState = .fallback ∧ s.ftu.returnStep = .skipped ∧ ends = s.ftu.returnEnd std ∧
          s.timerFires = s.returnWaitRunsOut std s.pins.field)) := by
  unfold State.timerDue at h
  split at h <;> simp_all [State.timerFires]

/-- The end of a timer is one of the three rows, taken with the lines as they stand. -/
theorem State.timerFires_row {s : State} {ends : Nat} (h : s.timerDue = some ends) :
    (∀ m, ends ≤ max s.ftu.now m → execRefWatchExpires m s.pins.field s = .next s.timerFires) ∨
      execInternalFieldStart s.pins.field s = .next s.timerFires ∨
      execReturnWaitExpires s.pins.field s = .next s.timerFires := by
  obtain ⟨std, hs, ⟨hr, rfl, hf⟩ | ⟨hr, hi, ht, rfl, hf⟩ | ⟨hr, hi, rfl, hf⟩⟩ := State.timer_cases h
  · exact .inl fun m hm => by simp [execRefWatchExpires, hs, hr, hf, hm]
  · exact .inr (.inl (by simp [execInternalFieldStart, hs, ht, hf]))
  · exact .inr (.inr (by simp [execReturnWaitExpires, hs, hr, hi, hf]))

/-- A field start that leaves the internal timer running has its next end one nominal period later (R44). -/
theorem State.internalField_due {s : State} {std : Standard} (m : Nat) (pins : FieldPins) (hs : s.standard = some std)
    (hr : s.ftu.refState = .fallback) (hi : s.ftu.returnStep = .idle) (ht : s.ftu.timerRunning = true) :
    (s.internalField m pins).standard = some std ∧ (s.internalField m pins).timerDue = some (m + std.period) ∧
      (s.internalField m pins).ftu.now = max s.ftu.now m := by
  unfold State.internalField
  obtain ⟨hftu, hstd⟩ := s.fieldStart_clock s.ftu.parity.opposite m .internal pins
  refine ⟨hstd.trans hs, ?_, congrArg Ftu.now hftu⟩
  unfold State.timerDue
  rw [hstd.trans hs, hftu]
  simp [hr, hi, ht, Ftu.timerEnd, Ftu.lastStart]

/-- A timer that comes to its end leaves the internal timer running, with its next end one nominal period later, and the present
moment at that end or where it stood if later (R43, R44, R46). -/
theorem State.timerFires_due {s : State} {ends : Nat} (h : s.timerDue = some ends) :
    ∃ std, s.standard = some std ∧ s.timerFires.standard = some std ∧
      s.timerFires.timerDue = some (ends + std.period) ∧ s.timerFires.ftu.now = max s.ftu.now ends := by
  obtain ⟨std, hs, ⟨hr, rfl, hf⟩ | ⟨hr, hi, ht, rfl, hf⟩ | ⟨hr, hi, rfl, hf⟩⟩ := State.timer_cases h <;> rw [hf]
  · exact ⟨std, hs, State.internalField_due _ _ hs rfl rfl rfl⟩
  · exact ⟨std, hs, State.internalField_due _ _ hs hr hi ht⟩
  · exact ⟨std, hs, State.internalField_due _ _ hs hr rfl rfl⟩

/-- A timer that does not end before the moment stays as it is (R43, R46). -/
theorem State.runTimers_inTime {moment : Nat} (most : Nat) (s : State)
    (h : ∀ ends, s.timerDue = some ends → moment ≤ ends) : s.runTimers most moment = s := by
  cases most with
  | zero => rfl
  | succ n =>
    unfold State.runTimers
    split
    · rename_i d hd
      exact if_neg (Nat.not_lt.2 (h d hd))
    · rfl

/-- A timer that ends before the moment comes to its end first. -/
theorem State.runTimers_late {moment ends : Nat} (most : Nat) {s : State} (h : s.timerDue = some ends)
    (late : ends < moment) : s.runTimers (most + 1) moment = s.timerFires.runTimers most moment := by
  rw [State.runTimers, h]
  exact if_pos late

/-- What is enough turns of the timers makes no difference: once none ends before the moment, more turns do nothing. -/
theorem State.runTimers_enough {moment : Nat} (most : Nat) (s : State)
    (h : ∀ ends, s.timerDue = some ends → moment ≤ ends + most) :
    (∀ ends, (s.runTimers most moment).timerDue = some ends → moment ≤ ends) ∧
      s.runTimers (most + 1) moment = s.runTimers most moment := by
  induction most generalizing s with
  | zero => exact ⟨h, s.runTimers_inTime _ h⟩
  | succ n ih =>
    cases hd : s.timerDue with
    | none =>
      have still : ∀ ends, s.timerDue = some ends → moment ≤ ends := fun e he => nomatch hd.symm.trans he
      rw [s.runTimers_inTime _ still, s.runTimers_inTime _ still]
      exact ⟨still, rfl⟩
    | some d =>
      by_cases late : d < moment
      · rw [State.runTimers_late _ hd late, State.runTimers_late _ hd late]
        refine ih _ fun e he => ?_
        obtain ⟨std, -, -, hdue, -⟩ := State.timerFires_due hd
        have := h d hd
        have : 1 ≤ std.period := by cases std <;> decide
        cases hdue.symm.trans he
        omega
      · have still : ∀ ends, s.timerDue = some ends → moment ≤ ends := fun e he => by cases hd.symm.trans he; omega
        rw [s.runTimers_inTime _ still, s.runTimers_inTime _ still]
        exact ⟨still, rfl⟩

/-- Time passes to a moment that no timer ends before: the moment alone changes. -/
theorem State.passTo_inTime {moment : Nat} (s : State) (h : s.onTime moment) : s.passTo moment = s.reachMoment moment := by
  unfold State.passTo
  rw [s.runTimers_inTime _ fun e he => by simpa [State.onTime, he] using h]

/-- Time passes to a moment that a timer ends before: as if the end of that timer had been taken first. -/
theorem State.passTo_late {moment ends : Nat} {s : State} (h : s.timerDue = some ends)
    (late : ends < max s.ftu.now moment) : s.passTo moment = s.timerFires.passTo moment := by
  obtain ⟨std, -, -, hdue, hnow⟩ := State.timerFires_due h
  have : 1 ≤ std.period := by cases std <;> decide
  obtain ⟨n, hn⟩ : ∃ n, max s.ftu.now moment = n + 1 := ⟨max s.ftu.now moment - 1, by omega⟩
  have same : max s.timerFires.ftu.now moment = n + 1 := by omega
  unfold State.passTo
  rw [same, hn, State.runTimers_late n h (by omega), (State.runTimers_enough n _ fun e he => ?_).2]
  cases hdue.symm.trans he
  omega

/-- After time has passed to a moment no timer ends before it. -/
theorem State.passTo_timers (moment : Nat) (s : State) :
    ∀ ends, (s.passTo moment).timerDue = some ends → max s.ftu.now moment ≤ ends :=
  (State.runTimers_enough _ s fun _ _ => Nat.le_add_left ..).1

/-! ### What an idle step can do -/

/-- An idle step lets a microsecond pass or is one of the three timer rows at the present moment. -/
theorem State.idle_cases (s : State) :
    s.idle = .next s.tick ∨ s.idle = execRefWatchExpires s.ftu.now s.pins.field s ∨
      s.idle = execInternalFieldStart s.pins.field s ∨ s.idle = execReturnWaitExpires s.pins.field s := by
  unfold State.idle
  split
  · rename_i ends h
    split
    · rename_i due
      obtain row | row | row := State.timerFires_row h
      · exact .inr (.inl (row _ (by omega)).symm)
      · exact .inr (.inr (.inl row.symm))
      · exact .inr (.inr (.inr row.symm))
    · exact .inl rfl
  · exact .inl rfl

end Sys2Proof.Machine
end

