-- ==== Sys2Proof/Laws/Line.lean ====
section
/-! SUPPORT. The receiver's side of the line undoes the transmitter's: stuff bits (R22, R23). -/

namespace Sys2Proof

/-- A receiver that removes stuff bits by the same count has the bits that were sent. -/
theorem unstuffBits_stuffBits (bits : List Bool) (run : Nat) : unstuffBits run (stuffBits run bits) = some bits := by
  induction bits generalizing run with
  | nil => cases run <;> rfl
  | cons b bits ih => cases b <;> cases run <;> simp [stuffBits, unstuffBits, ih]

end Sys2Proof
end

