-- ==== Sys2Proof/Tests/Slice0.lean ====
section
/-! SUPPORT. Small tests: each check of WellFormed refuses an ill-formed command, the spec's worked examples come out as the spec
gives them, and for each statement with hypotheses a named state and operands that meet all of them together. -/

open Sys2Proof Sys2Proof.Machine

namespace Sys2Proof.Tests

-- One theorem at a time: each is decided by the kernel, which waits for every declaration before it.
set_option Elab.async false

/-! ### Each check of WellFormed refuses an ill-formed command -/

/-- A good announcement frame of 14 bytes from station 3, and some that are not. -/
def ann (source : BitVec 5) (parity : Parity) (payload : List Byte) : Frame :=
  Frame.sealed { cls := 1, source := source, kind := 1, dest := 0, parity := parity, seq := 0, payload := payload, check := 0 }

def report (source dest : BitVec 5) (payload : List Byte) : Frame :=
  Frame.sealed { cls := 2, source := source, kind := 2, dest := dest, parity := .even, seq := 7, payload := payload, check := 0 }

/-- An announcement's payload of 14 bytes: READY, F25, standard byte `std`. -/
def annBytes (std : Byte) : List Byte := [1, std, 3, 3, 1, 4, 0, 0, 0, 0, 0, 0, 0, 0]

/-- Station 2 sends to station 1. -/
def fromLine : Via := .line 2 1 9 .even

theorem test_wf_accepts :
    (Instr.codingViolation 3).wf = true ∧ (Instr.announcementReceived (ann 3 .even (annBytes 1))).wf = true ∧
      (Instr.reportOrNoticeReceived (report 3 1 [5, 0])).wf = true ∧ (Instr.peerEntryRemoved 30).wf = true ∧
      (Instr.unknownType fromLine []).wf = true ∧ (Instr.portWriteNoEffect 1 0).wf = true ∧
      (Instr.take fromLine (List.replicate 31 0)).wf = true := by decide +kernel

theorem test_wf_refuses_short_run : (Instr.codingViolation 2).wf = false := by decide

theorem test_wf_refuses_good_frame_as_malformed :
    (Instr.malformedFrame (ann 3 .even (annBytes 1))).wf = false := by decide +kernel

theorem test_wf_refuses_bad_check_word :
    (Instr.announcementReceived { ann 3 .even (annBytes 1) with check := 0 }).wf = false := by decide +kernel

theorem test_wf_refuses_other_class :
    (Instr.announcementReceived (report 3 1 [5, 0])).wf = false ∧
      (Instr.reportOrNoticeReceived (ann 3 .even (annBytes 1))).wf = false := by decide +kernel

theorem test_wf_refuses_no_station : (Instr.peerEntryRemoved 0).wf = false ∧ (Instr.peerEntryRemoved 31).wf = false := by
  decide

theorem test_wf_refuses_known_type : (Instr.unknownType fromLine [0x14]).wf = false := by decide

theorem test_wf_refuses_commands_and_data :
    (Instr.portWriteNoEffect 0 0).wf = false ∧ (Instr.portWriteNoEffect 3 0).wf = false ∧
      (Instr.portWriteNoEffect 1 1).wf = false ∧ (Instr.portWriteNoEffect 1 2).wf = false ∧
      (Instr.portWriteNoEffect 1 3).wf = false := by decide

theorem test_wf_refuses_bad_sender :
    (Instr.take (.line 0 1 0 .even) []).wf = false ∧ (Instr.take (.line 31 1 0 .even) []).wf = false ∧
      (Instr.take (.line 2 31 0 .even) []).wf = false := by decide

theorem test_wf_refuses_long_payload :
    (Instr.take fromLine (List.replicate 32 0)).wf = false ∧ (Instr.transportStop fromLine (List.replicate 31 0)).wf = false ∧
      (Instr.statusPage1 fromLine (List.replicate 30 0)).wf = false := by decide

/-! ### The spec's worked examples -/

/-- R3: the two reference points; a dropped label has no count. -/
theorem test_dropframe_points :
    labelCount .f30d ⟨0, 1, 0, 2⟩ = some 1800 ∧ labelCount .f30d ⟨23, 59, 59, 29⟩ = some 2589407 ∧
      labelCount .f30d ⟨0, 1, 0, 1⟩ = none ∧ labelCount .f25 ⟨0, 0, 0, 25⟩ = none := by decide +kernel

/-- R5's table. -/
theorem test_dropframe_labels :
    countLabel .f30d 1799 = ⟨0, 0, 59, 29⟩ ∧ countLabel .f30d 1800 = ⟨0, 1, 0, 2⟩ ∧
      countLabel .f30d 17982 = ⟨0, 10, 0, 0⟩ := by decide +kernel

/-- R8's table. -/
theorem test_signed_difference :
    diff Standard.f25.day 256 552959872 = 384 ∧ diff Standard.f25.day 552959872 256 = -384 ∧
      diff Standard.f25.day 276480000 0 = -276480000 ∧ diff Standard.f25.day 0 276480000 = -276480000 := by
  decide +kernel

/-- R24's check word over the bytes of "123456789", the published check value of this polynomial and start (PRESUMED: the value is
not the spec's). -/
theorem test_check_word :
    checkWord ([0x31, 0x32, 0x33, 0x34, 0x35, 0x36, 0x37, 0x38, 0x39].flatMap fun b : Byte => bitsOf b) = 0x29B1 := by
  decide +kernel

/-- R22: a stuff bit after the second of two dominant bit periods, the start bit among them. -/
theorem test_stuff_bits :
    stuffBits 0 [false, false, true, false, true, false, false, false] =
      [false, false, true, true, false, true, false, false, true, false] := by decide

/-- R22 and R23: a receiver removes them by the same count, and a third dominant period is none. -/
theorem test_unstuff_bits :
    unstuffBits 0 [false, false, true, true, false, true, false, false, true, false] =
        some [false, false, true, false, true, false, false, false] ∧
      unstuffBits 0 [true, false, false, false, true] = none := by decide

/-- R55's table, from position 0. -/
theorem test_projection :
    project 552960000 1000 1024 2 = 1256 ∧ project 552960000 1000 (-1024) 3 = 616 ∧ project 552960000 1000 1120 1 = 1140 ∧
      project 552960000 1000 1000 3 = 1375 ∧ project 552960000 0 32767 8 = 32767 := by decide +kernel

/-- R160: a DIP at the middle of its course, and just before it. -/
theorem test_dip_levels :
    levelK .dip 511 = 0 ∧ levelD .dip 511 = 1022 ∧ levelK .dip 512 = 1024 ∧ levelD .dip 512 = 1024 := by decide

/-- R161: the edge pairs at P = 0 and P = 1024, and at the middle. -/
theorem test_wipe_edges :
    lineEdge .leftRight 288 0 5 = (0, 0) ∧ lineEdge .leftRight 288 1024 5 = (0, 720) ∧
      lineEdge .rightLeft 288 512 5 = (360, 720) ∧ lineEdge .topDown 288 512 143 = (0, 720) ∧
      lineEdge .topDown 288 512 144 = (0, 0) ∧ lineEdge .splitH 288 1024 5 = (0, 720) ∧
      lineEdge .boxOut 288 512 0 = (0, 0) ∧ lineEdge .boxOut 288 1024 287 = (0, 720) := by decide +kernel

/-- R113's table, for a master at play and a shuttle limit of 8,000. -/
theorem test_seek_law :
    [200000, 55808, 40000, 32008].map (fun e => clampInt (-8000) 8000 (seekSpeed 8000 1024 e)) = [8000, 8000, 6024, 5025] := by
  decide +kernel

/-- R19's table: pulses in the field, pulses a frame, measured speed. -/
theorem test_measured_speed :
    [(30, 60), (-30, 60), (300, 60), (960, 60), (50, 100), (1, 1), (0, 60)].map
        (fun (t : Int × Nat) => clampInt (-32767) 32767 (Int.tdiv (t.1 * 2048) t.2)) =
      [1024, -1024, 10240, 32767, 1024, 2048, 0] := by decide +kernel

/-- The opcode table gives no row any bits, so no word spells a command. -/
theorem test_no_word_spells_a_command : decodeTableWord 8 0 = none ∧ (State.reset.withFetchWord 8 0).pending = [] := by
  decide +kernel

/-! ### States the witnesses are built on -/

/-- The state a command leads to. -/
def after (i : Instr) (s : State) : State :=
  match exec i s with
  | .next t => t
  | .fault _ | .refused _ => s

/-- The command answers a next state. -/
def runs (i : Instr) (s : State) : Bool :=
  match exec i s with
  | .next _ => true
  | .fault _ | .refused _ => false

/-- A configuration at F25 with 60 pulses a frame and a shuttle limit of 8,000. -/
def settings : Settings :=
  { standard := .f25, tpf := 60, controlSet := 0, settleLimit := 25, busyLimit := 100, shuttleLimit := 8000,
    dropoutWindow := 2, autoRecover := true, offTimeChoice := 3, turnaround := 3 }

/-- Station 1, READY, with tape at rest in STILL at frame 1000, in the field of count 500. -/
def ready : State :=
  { State.reset with
    dhd := { State.reset.dhd with config := some settings },
    ftu := { Ftu.reset with now := 10005000, counter := 500, firstGiven := true, lastFieldStart := some (10000000, .pulse), lastPulse := some 10000000 },
    lif := { State.reset.lif with watch := .steady, idle := true },
    psu := { Psu.reset with source := .code, anchor := 1000 },
    tsq := { Tsq.reset true with state := .still, reqMode := .still, matched := true },
    pins := { State.reset.pins with threaded := true, tally := .still } }

/-- Station 1 before CONFIGURE, at an idle line. -/
def bare : State := { State.reset with lif := { State.reset.lif with watch := .steady, idle := true } }

/-- A shuttling deck, its request matched. -/
def shuttling : State :=
  { ready with
    tsq := { ready.tsq with state := .shuttling, reqMode := .var, reqSpeed := 2048 }, pins := { ready.pins with tally := .var } }

/-- A playing deck, its request matched. -/
def playing : State :=
  { ready with
    tsq := { ready.tsq with state := .playing, reqMode := .play }, pins := { ready.pins with tally := .play } }

/-- A deck with no tape. -/
def noTape : State :=
  { ready with
    tsq := { Tsq.reset false with reqMode := .stop }, pins := { ready.pins with threaded := false, tally := .stop },
    psu := Psu.reset }

/-- A faulted deck, no recovery under way. -/
def faulted : State :=
  { ready with
    tsq := { ready.tsq with state := .faulted, reqMode := .stop, matched := false }, pins := { ready.pins with tally := .play } }

def fieldPins : FieldPins := FieldPins.reset

/-- A segment of cue 9 that went in at frame 990, with a duration. -/
def segment : Segment :=
  { origin := 9, inFrame := 990, mask := 3, duration := some 40, remaining := some 30, lastFrame := 999, guardKind := .strict,
    lockList := [], notify := some 2 }

/-- A recorder in RECORDING. -/
def recording : State :=
  { playing with
    tsq := { playing.tsq with state := .recording, reqMode := .record, reqSpeed := 1024, reqTrack := 3 },
    pins := { playing.pins with tally := .record },
    rcc := { Rcc.reset with state := .recording, record := some segment } }

/-- The chase record of master 2. -/
def chaseOf2 : ChaseRecord :=
  { master := 2, offset := 0, lockWindow := 16, blankingCount := 4, pullLimit := 1, pullTimeLimit := 250, retries := 1,
    rerollOffTime := 25 }

/-- What master 2 announces: playing, at frame 1010. -/
def masterSays : Announcement :=
  { stationState := 1, standard := 1, fitted := 1, transport := 3, source := 1, speed := 1024, chaseSummary := 0, master := 0,
    recording := 0, transition := 0, progress := 0, flags := 0, position := some 258560 }

def masterEntry (stamp : Count32) : PeerEntry := { stamp := stamp, content := masterSays, foreign := false }

def masterView : PeerView :=
  { presence := .fresh, projection := some 258560, speed := 1024, transport := 3, chaseSummary := 0, master := 0,
    refLost := false }

/-- Station 2's place of the Peer Table, held and viewed. -/
def withMaster (s : State) : State :=
  { s with ptb := { entries := s.ptb.entries.set 1 (some (masterEntry 500)), views := s.ptb.views.set 1 masterView } }

/-- A chase of master 2 in a given state. -/
def chasing (state : ChaseState) : State :=
  withMaster
    { shuttling with
      tsq := { shuttling.tsq with state := .chasing, standing := .var 1024 },
      csv := { Csv.reset with state := state, record := some chaseOf2, engagedBy := .directive 8 } }

/-- A chasing recorder that is locked and in RECORDING. -/
def lockedRecording : State :=
  let c := chasing .locked
  { c with
    tsq := { c.tsq with reqMode := .record, reqTrack := 3 }, pins := { c.pins with tally := .record },
    rcc := recording.rcc }

/-- A cue operation under way for frame 2000, of the station 2. -/
def cueing : State :=
  { shuttling with
    tsq := { shuttling.tsq with
      state := .cueing,
      pendingOp := some
        { kind := .cueTo, issuer := .station 2, seq := 5, origin := .directive 6, target := 2000, reversals := 0,
          lastSign := none } } }

/-- An eject under way. -/
def ejecting : State :=
  { ready with
    tsq := { ready.tsq with
      state := .ejecting, reqMode := .eject, matched := false, wait := some { settle := 0, busy := 0 },
      pendingOp := some
        { kind := .eject, issuer := .port, seq := 5, origin := .directive 5, target := 0, reversals := 0,
          lastSign := none } } }

/-- A deck whose request waits for its tally. -/
def waiting : State :=
  { ready with
    tsq := { ready.tsq with
      state := .playing, reqMode := .play, matched := false, wait := some { settle := 24, busy := 0 } } }

/-- A directive in the deferral slot. -/
def held : Held := { motion := .still, issuer := .station 2, seq := 4, age := 249 }

def preset (kind : TransitionKind) (duration : Nat) (split : Int) : Preset :=
  { toSource := 7, kind := kind, duration := duration, pattern := none, split := split, leverAllowed := true }

/-- The transition engine in a given state, with a preset and a field index. -/
def engine (state : TransitionState) (p : Preset) (k : Nat) : State :=
  { ready with ten := { ready.ten with state := state, preset := some p, bSel := p.toSource, k := k } }

def message (kind : MsgKind) (age : Nat) (payload : List Byte) : TxMsg :=
  { kind := kind, dest := 2, seq := 1, payload := payload, age := age }

/-- The state with messages waiting. -/
def queued (ms : List TxMsg) (s : State) : State := { s with lif := { s.lif with waiting := ms } }

/-- The state with a message of its own on the line. -/
def sending (m : TxMsg) (leaves : Bool) (s : State) : State :=
  { s with lif := { s.lif with sending := some { msg := m, frame := s.frameOfMsg m, leaves := leaves } } }

def cue (id : Nat) (armed : Bool) : Cue :=
  { id := id, action := .pulse 4, reference := 0, trigger := none, armed := armed, lockList := [], notify := none }

def zoneAt (a b : Nat) : Zone := { start := a * 256, stop := b * 256 }

def withZones (zs : List Zone) (s : State) : State := { s with rcc := { s.rcc with zones := zs } }

def withCues (cs : List Cue) (s : State) : State := { s with cul := { s.cul with cues := cs } }

def withBuffer (bytes : List Byte) (s : State) : State := { s with lpt := { s.lpt with buffer := bytes } }

def withRx (ms : List RxMsg) (s : State) : State := { s with lpt := { s.lpt with rxQueue := ms } }

def listening (s : State) : State := { s with lif := { s.lif with listenOnly := true } }

/-- The state with another report of its deck, its chase and its position. -/
def onDeck (q : Tsq) (s : State) : State := { s with tsq := q }

/-- What stands in the state after a REF pulse with some lines. -/
def fieldAfter (p : FieldPins) (s : State) : State := after (.refPulse .odd 10020000 p) s

/-! ### Witnesses of the statements' hypotheses: the machine as a whole -/

/-- The same state at another moment. -/
def atMoment (moment : Nat) (s : State) : State := { s with ftu := { s.ftu with now := moment } }

/-- FALLBACK with the timer running and `n` good pulses, the last REF pulse at 10,000,000. -/
def fallback (n : Nat) (step : ReturnStep) : State :=
  { ready with
    ftu := { ready.ftu with
      refState := .fallback, timerRunning := step == .idle, goodPulses := n, returnStep := step, pulseSeen := true } }

def stepped (s : State) : Option State :=
  match step s with
  | .next t => some t
  | _ => none

/-- An idle step at a moment is a microsecond and nothing else. -/
def timed (moment : Nat) (s : State) : Bool := stepped (atMoment moment s) == some (atMoment (moment + 1) s)

/-- The bytes that follow CONFIGURE's type byte for `settings`. -/
def configureBytes : List Byte := [1, 60, 0, 0, 0, 0, 25, 0, 100, 0x1F, 0x40, 2, 1, 3, 3]

/-- CONFIGURE accepted at 10,010,000, no field start before it. -/
def accepted : State := after (.configure fromLine configureBytes) (atMoment 10010000 bare)

theorem witness_StepRunsTheFrontCommand :
    State.reset.pending = [] ∧ State.reset.dhd.config = none ∧ timed 0 State.reset = true ∧ ready.pending = [] ∧
      timed 10024999 ready = true ∧ timed 10025000 ready = false ∧
      stepped (atMoment 10025000 ready) =
        some (after (.refWatchExpires 10025000 ready.pins.field) (atMoment 10025000 ready)) ∧
      accepted.ftu.accepted = some 10010000 ∧ timed 10034999 accepted = true ∧ timed 10035000 accepted = false ∧
      timed 10019999 (fallback 0 .idle) = true ∧ timed 10020000 (fallback 0 .idle) = false ∧
      timed 10024999 (fallback 8 .skipped) = true ∧ timed 10025000 (fallback 8 .skipped) = false := by decide +kernel

theorem witness_TransportStaysLegal :
    (∀ s ∈ [lockedRecording, recording, cueing, ejecting], s.transportLegal) ∧
      step { lockedRecording with pending := [.lockLost] } = .next (after .lockLost lockedRecording) := by
  refine ⟨by decide +kernel, rfl⟩

theorem witness_ChasedMasterStaysUsable :
    (chasing .locked).masterLegal ∧
      step { chasing .locked with pending := [.tachPulse true] } = .next (after (.tachPulse true) (chasing .locked)) :=
  ⟨by decide +kernel, rfl⟩

theorem witness_ListsStayLegal :
    let s := withZones [zoneAt 10 20, zoneAt 20 30] (withCues [cue 1 false, cue 255 true] ready)
    s.zonesLegal ∧ s.cuesLegal ∧ s.peersLegal ∧ s.isOwn 1 = true ∧
      step { s with pending := [.dropCue fromLine [255]] } = .next (after (.dropCue fromLine [255]) s) :=
  ⟨by decide +kernel, by decide +kernel,
    ⟨by decide +kernel, by decide +kernel, fun n h => by
      obtain rfl : 1 = n := by simpa using (show ((1 : Nat) == n) = true from h)
      decide +kernel⟩,
    by decide +kernel, rfl⟩

theorem witness_LevelsStayInRange :
    let edged (l : List (Nat × Nat)) : State := { ready with ten := { ready.ten with edges := l } }
    (∀ s ∈ [engine .running (preset .mix 2 60) 63, ready], s.levelsLegal ∧ s.restLegal) ∧
      ((edged (List.replicate 288 (0, 0))).restLegal ∧ ¬(edged [(0, 720)]).restLegal) ∧
      step { ready with pending := [.selectA fromLine [7]] } = .next (after (.selectA fromLine [7]) ready) :=
  ⟨by decide +kernel, by decide +kernel, rfl⟩

theorem witness_TransmitQueueStaysOrdered :
    let s := queued (List.replicate 7 (message .report 15 [5, 0])) ready
    (s.txqLegal ∧ s.silentLegal ∧ s.flagsLegal ∧ s.lineLegal ∧ s.lif.idle = true ∧ (listening ready).silentLegal) ∧
      step { s with pending := [.txqMessageExpires] } = .next (after .txqMessageExpires s) :=
  ⟨by decide +kernel, rfl⟩

theorem witness_CountsStayInRange :
    let s (n : Nat) : State := { ready with psu := { ready.psu with candidate := some ⟨512, n⟩ } }
    (shuttling.speedLegal ∧ (withBuffer (List.replicate 35 0) ready).portLegal) ∧
      (ready.positionLegal ∧ ∀ n ∈ [91, 92], ((s n).positionLegal ↔ n = 91)) ∧
      (∀ z ∈ [ready, fallback 8 .idle, fallback 8 .skipped, atMoment 10000000 ready], z.clockLegal) ∧
      (∀ z ∈ [fallback 9 .idle, atMoment 9999999 ready], ¬z.clockLegal) ∧
      step { ready with pending := [.clear] } = .next (after .clear ready) :=
  have bounds : _ ∧ _ ∧ _ ∧ _ := by decide +kernel
  ⟨bounds.1, bounds.2.1, bounds.2.2.1, bounds.2.2.2, rfl⟩

theorem witness_NoRecordingInZoneAtFieldStart :
    let s := withZones [zoneAt 1001 1100] recording
    let i : Instr := .refPulse .odd 10020000 fieldPins
    exec i s = .next (after i s) ∧ s.transportLegal ∧ s.dhd.transportFitted = true ∧
      (after i s).ftu.counter = s.ftu.counter + 1 ∧ s.rcc.state = .recording :=
  ⟨rfl, by decide +kernel⟩

theorem witness_IdentityAndConfigurationHold :
    exec (.configure fromLine configureBytes) bare = .next (after (.configure fromLine configureBytes) bare) ∧
      (Instr.configure fromLine configureBytes).wf = true ∧
      (after (.configure fromLine configureBytes) bare).dhd.config = some settings ∧ bare.dhd.config = none ∧
      ready.dhd.config.isSome = true ∧ (listening ready).lif.listenOnly = true :=
  ⟨rfl, by decide +kernel⟩

theorem witness_LatchedEventsStand :
    let s := ready.latch .refLost
    exec (.statusPage1Clear fromLine []) s = .next (after (.statusPage1Clear fromLine []) s) ∧
      (Instr.statusPage1Clear fromLine []).wf = true ∧ s.holdsEvent .refLost = true ∧
      (after (.statusPage1Clear fromLine []) s).holdsEvent .refLost = false ∧
      (after (.statusPage1 fromLine []) s).holdsEvent .refLost = true :=
  ⟨rfl, by decide +kernel⟩

/-! ### Labels, positions and field timing -/

theorem witness_LabelsCountsAndDifferencesAgree :
    2589407 < Standard.f30d.framesPerDay ∧ labelCount .f30d ⟨23, 59, 59, 29⟩ = some 2589407 ∧
      Standard.f25.day - 1 < Standard.f25.day ∧ 276480000 < Standard.f25.day ∧
      2 * (276480000 + (Standard.f25.day - 0)) % (2 * Standard.f25.day) = Standard.f25.day := by decide +kernel

theorem witness_TachPulseMovesThePosition :
    ready.positionLegal ∧ ready.dhd.config = some settings ∧ ready.dhd.transportFitted = true ∧ ready.pins.threaded = true ∧
      ready.psu.source ≠ .noSource ∧ bare.positionLegal ∧ bare.dhd.config = none ∧ noTape.positionLegal ∧
      noTape.pins.threaded = false := by decide +kernel

theorem witness_TachPulseAtItsBounds :
    let s (q : Psu) : State := { ready with psu := q }
    let p := ready.psu
    let last (n : Nat) : Psu := { p with p := 59, motion := 59, missing := n }
    (s (last 1)).positionLegal ∧ (s (last 2)).positionLegal ∧ (s { last 3 with source := .tach }).positionLegal ∧
      (after (.tachPulse true) (s (last 1))).psu.missing = 2 ∧
      (after (.tachPulse true) (s (last 2))).psu.source = .tach ∧
      (after (.tachPulse true) (s (last 2))).holdsEvent .codeLost = true ∧
      (after (.tachPulse true) (s { p with candidate := some ⟨512, 89⟩ })).psu.candidate = some ⟨512, 90⟩ ∧
      (after (.tachPulse true) (s { p with candidate := some ⟨512, 90⟩ })).psu.candidate = none := by decide +kernel

theorem witness_CodeWordIsJudged :
    ready.dhd.config = some settings ∧ ready.dhd.transportFitted = true ∧ ready.pins.threaded = true ∧
      ready.own = some 256000 ∧ labelCount settings.standard ⟨0, 0, 40, 1⟩ = some 1001 ∧
      (diff settings.standard.day (1001 * 256) 256000).natAbs ≤ 384 ∧
      labelCount settings.standard ⟨0, 0, 40, 2⟩ = some 1002 ∧
      384 < (diff settings.standard.day (1002 * 256) 256000).natAbs ∧ ready.psu.candidate = none ∧
      (512 - (256 : Int)).natAbs ≤ 256 ∧ 256 < (512 - (255 : Int)).natAbs ∧
      labelCount settings.standard ⟨24, 0, 0, 0⟩ = none ∧ noTape.pins.threaded = false := by decide +kernel

theorem witness_CandidateExpiresAndCodeIsLost :
    ready.dhd.config = some settings ∧ 3 * settings.tpf / 2 = 90 ∧ ready.psu.source = .code ∧
      settings.dropoutWindow ≤ ({ ready with psu := { ready.psu with missing := 2 } } : State).psu.missing ∧
      ready.psu.missing < settings.dropoutWindow := by decide +kernel

theorem witness_FieldStartsAreGiven :
    let given (i : Instr) (s : State) : Option (Nat × FieldSource) × Nat :=
      ((after i s).ftu.lastFieldStart, (after i s).ftu.now)
    bare.dhd.config = none ∧ ready.ftu.refState = .lockedRef ∧ ready.dhd.config = some settings ∧
      given (.refPulse .odd 10020000 fieldPins) ready = (some (10020000, .pulse), 10020000) ∧
      given (.refWatchExpires 10025000 fieldPins) ready = (some (10025000, .internal), 10025000) ∧
      given (.refWatchExpires 10040000 fieldPins) accepted = (some (10035000, .internal), 10035000) ∧
      after (.refWatchExpires 10034999 fieldPins) accepted = accepted ∧
      given (.refPulse .odd 9 fieldPins) ready = (some (10005000, .pulse), 10005000) ∧
      given (.internalFieldStart fieldPins) (fallback 0 .idle) = (some (10020000, .internal), 10020000) ∧
      given (.returnWaitExpires fieldPins) (fallback 8 .skipped) = (some (10025000, .internal), 10025000) ∧
      (fallback 0 .idle).ftu.timerRunning = true ∧
      (fallback 8 .skipped).ftu.refState = .fallback ∧ (fallback 8 .skipped).ftu.returnStep = .skipped ∧
      (fallback 8 .skipped).ftu.lastPulse = some 10000000 := by decide +kernel

/-- FALLBACK with the last REF pulse at a moment other than that of the last field start. -/
def pulsedAt (moment n : Nat) : State :=
  { fallback n .idle with ftu := { (fallback n .idle).ftu with lastPulse := some moment } }

theorem witness_FallbackPulsesAreCounted :
    let s := pulsedAt 9990000
    (s 7).dhd.config = some settings ∧ (s 7).ftu.refState = .fallback ∧ (s 7).ftu.pulseSeen = true ∧
      (s 7).ftu.timerRunning = true ∧ 10015001 ≤ (s 7).ftu.lastStart + settings.standard.period ∧
      (s 7).ftu.lastPulse = some 9990000 ∧
      10015000 - 9990000 ≤ settings.standard.watchPeriod ∧ ¬10015001 - 9990000 ≤ settings.standard.watchPeriod ∧
      (s 7).ftu.goodPulses < 8 ∧ 8 ≤ (s 8).ftu.goodPulses ∧
      settings.standard.halfPeriod ≤ 10010000 - (s 8).ftu.lastStart ∧
      10009999 - (s 8).ftu.lastStart < settings.standard.halfPeriod ∧
      (after (.refPulse .odd 10010000 fieldPins) (s 8)).ftu.refState = .lockedRef ∧
      (after (.refPulse .odd 10009999 fieldPins) (s 8)).ftu.returnStep = .skipped ∧
      (after (.refPulse .odd 10015000 fieldPins) (s 7)).ftu.goodPulses = 8 ∧
      (after (.refPulse .odd 10015001 fieldPins) (s 7)).ftu.goodPulses = 0 ∧
      (fallback 8 .skipped).ftu.returnStep = .skipped ∧ (fallback 8 .skipped).ftu.lastPulse = some 10000000 ∧
      (after (.refPulse .odd 10025000 fieldPins) (fallback 8 .skipped)).ftu.refState = .lockedRef := by decide +kernel

/-- Late pulses, by R43 and R46: one with the end of the watch is a field start and one after it finds FALLBACK; one after the return
wait finds it given up at its end; a return pulse 1 µs into the next internal field is skipped; and one three fields late follows
the field starts of all three. -/
theorem witness_LatePulsesFollowTheTimers :
    let u (moment : Nat) (s : State) : Ftu := (after (.refPulse .odd moment fieldPins) s).ftu
    (u 10025000 ready).lastFieldStart = some (10025000, .pulse) ∧
      (u 10025001 ready).lastFieldStart = some (10025000, .internal) ∧ (u 10025001 ready).refState = .fallback ∧
      (after (.refPulse .odd 10025001 fieldPins) ready).holdsEvent .refLost = true ∧
      (u 10025001 ready).lastPulse = some 10025001 ∧ (u 10025001 ready).goodPulses = 0 ∧
      (u 10025001 (fallback 8 .skipped)).lastFieldStart = some (10025000, .internal) ∧
      (u 10025001 (fallback 8 .skipped)).refState = .fallback ∧ (u 10025001 (fallback 8 .skipped)).returnStep = .idle ∧
      (u 10020000 (fallback 8 .idle)).refState = .lockedRef ∧ (u 10020001 (fallback 8 .idle)).returnStep = .skipped ∧
      (u 10020001 (fallback 8 .idle)).lastFieldStart = some (10020000, .internal) ∧
      (u 10065001 ready).lastFieldStart = some (10065000, .internal) ∧
      (u 10065001 ready).counter = ready.ftu.counter + 3 ∧ (u 10065001 ready).now = 10065001 := by decide +kernel

/-- Entries of ages that the next field start finds at 8, 9, 250 and 251. -/
def aged : State :=
  { ready with
    ptb := { ready.ptb with
      entries := (((ready.ptb.entries.set 1 (some (masterEntry 493))).set 2 (some (masterEntry 492))).set 3
        (some (masterEntry 251))).set 4 (some (masterEntry 250)) } }

theorem witness_FieldStartMeasuresAndAges :
    let i : Instr := .refPulse .odd 10020000 fieldPins
    givesFieldStart i fieldPins aged ∧ exec i aged = .next (after i aged) ∧ (after i aged).ftu.counter = aged.ftu.counter + 1 ∧
      aged.peer 1 = none ∧ aged.peer 5 = some (masterEntry 250) ∧ (after i aged).peer 5 = none ∧
      (after i aged).peer 4 = some (masterEntry 251) ∧ (after i aged).peer 2 = some (masterEntry 493) ∧
      aged.isOwn 2 = false ∧ aged.isOwn 1 = true ∧ ((after i aged).ftu.counter - 493).toNat ≤ 8 :=
  ⟨.inl ⟨.odd, 10020000, rfl, by decide +kernel⟩, rfl, by decide +kernel⟩

theorem witness_FieldStartViews :
    let held (e : PeerEntry) : State := { ready with ptb := { ready.ptb with entries := ready.ptb.entries.set 1 (some e) } }
    let seen (e : PeerEntry) : PeerView := (after (.refPulse .odd 10020000 fieldPins) (held e)).view 2
    let e (stamp : Count32) : PeerEntry :=
      { masterEntry stamp with content := { masterSays with chaseSummary := 2, master := 7, flags := 1 } }
    (seen (e 493)).presence = .fresh ∧ (seen (e 492)).presence = .stale ∧ (seen (e 493)).transport = 3 ∧
      (seen (e 493)).chaseSummary = 2 ∧ (seen (e 493)).master = 7 ∧ (seen (e 493)).refLost = true ∧
      (seen (e 493)).projection = some 259584 ∧ (seen (e 492)).projection = none ∧
      (seen { e 493 with foreign := true }).presence = .absent := by decide +kernel

theorem witness_FieldStartAnnounces :
    let i : Instr := .refPulse .odd 10020000 fieldPins
    let s := sending (message .announce 0 []) false ready
    let z := queued [message .announce 0 [], message .report 14 [1], message .report 15 [2]]
      (sending (message .report 15 []) false ready)
    givesFieldStart i fieldPins s ∧ exec i ready = .next (after i ready) ∧ exec i s = .next (after i s) ∧
      (∀ x ∈ [ready, listening ready, z], x.onTime 10020000) ∧
      (after i s).ftu.counter = s.ftu.counter + 1 ∧ ready.lif.listenOnly = false ∧
      (ready.lif.sending.all fun x => !x.msg.isAnn) = true ∧ (s.lif.sending.any fun x => x.msg.isAnn) = true ∧
      (listening ready).lif.listenOnly = true ∧ ready.lif.waiting = [] ∧ ready.lif.heldAnn = none ∧
      ((after i z).lif.waiting.filter fun m => !m.isAnn) = [message .report 15 [1]] ∧
      (after i z).holdsEvent .txDropped = true ∧ ((after i z).lif.sending.map (·.msg.age)) = some 16 :=
  ⟨.inl ⟨.odd, 10020000, rfl, by decide +kernel⟩, rfl, rfl, by decide +kernel⟩

/-- A pulse with the fader present at a value. -/
def leverAt (n : Nat) : FieldPins := { fieldPins with lever := BitVec.ofNat 10 n, leverPresent := true }

/-- The engine in LEVER with a mix of 4 fields, the fader last at 100. -/
def faded : State :=
  let s := engine .lever (preset .mix 2 0) 0
  { s with ten := { s.ten with lastLever := some 100, progress := 500 } }

/-- The engine in PRESET with the same mix, the fader last at 100. -/
def atPreset : State := { faded with ten := { faded.ten with state := .preset, progress := 0 } }

theorem witness_TransitionStepsAtFieldStarts :
    let i (p : FieldPins) : Instr := .refPulse .odd 10020000 p
    let s := engine .running (preset .mix 2 0) 2
    let z := engine .running (preset .mix 2 0) 3
    givesFieldStart (i fieldPins) fieldPins s ∧ givesFieldStart (i (leverAt 15)) (leverAt 15) atPreset ∧
      exec (i fieldPins) s = .next (after (i fieldPins) s) ∧ exec (i fieldPins) z = .next (after (i fieldPins) z) ∧
      (∀ x ∈ [z, faded], x.onTime 10020000) ∧
      (after (i fieldPins) s).ftu.counter = s.ftu.counter + 1 ∧ s.dhd.channelFitted = true ∧
      s.ten.preset = some (preset .mix 2 0) ∧ (preset .mix 2 0).kind ≠ .cut ∧ 1 ≤ (preset .mix 2 0).duration ∧
      s.ten.state = .running ∧ s.ten.k + 1 < 2 * (preset .mix 2 0).duration ∧
      2 * (preset .mix 2 0).duration ≤ z.ten.k + 1 ∧ (after (i fieldPins) s).ten.state = .running ∧
      (after (i fieldPins) z).ten.state = .atRest ∧ faded.cul.cues = [] ∧ faded.ten.state = .lever ∧
      faded.ten.preset = some (preset .mix 2 0) ∧ (after (i fieldPins) faded).ten.state = .paused ∧
      (after (i (leverAt 1023)) faded).ten.state = .atRest ∧ (after (i (leverAt 0)) faded).ten.state = .preset ∧
      (after (i (leverAt 1)) faded).ten.progress = 1 ∧ (after (i (leverAt 1022)) faded).ten.progress = 1022 ∧
      atPreset.ten.lastLever.isSome = true ∧ (preset .mix 2 0).leverAllowed = true ∧
      (after (i (leverAt 16)) atPreset).ten.state = .lever ∧ (after (i (leverAt 17)) atPreset).ten.state = .preset :=
  ⟨.inl ⟨.odd, 10020000, rfl, by decide +kernel⟩, .inl ⟨.odd, 10020000, rfl, by decide +kernel⟩, rfl, rfl, by decide +kernel⟩

theorem witness_TransitionPictureAndPause :
    let u := fieldAfter fieldPins
    let dip := engine .running (preset .dip 512 0)
    let wipe (w : Pattern) := engine .running { preset .wipe 512 0 with pattern := some w }
    let paused : State := { faded with ten := { faded.ten with state := .paused } }
    let done := engine .running { preset .wipe 2 0 with pattern := some .topDown } 3
    (u done).ten.state = .atRest ∧ (u done).ten.edges = List.replicate 288 (0, 0) ∧ (u done).ten.outK = 0 ∧
      (fieldAfter (leverAt 0) faded).ten.edges = List.replicate 288 (0, 0) ∧ (u (dip 510)).ten.outD = 1022 ∧ (u (dip 511)).ten.outK = 1024 ∧ (u (dip 511)).ten.outD = 1024 ∧
      (u (wipe .leftRight 0)).ten.edges[5]? = some (0, 1) ∧ (u (wipe .topDown 511)).ten.edges[143]? = some (0, 720) ∧
      (u (wipe .topDown 511)).ten.edges[144]? = some (0, 0) ∧ (u (wipe .boxOut 511)).ten.edges[72]? = some (180, 540) ∧
      (fieldAfter (leverAt 516) paused).ten.state = .lever ∧ (fieldAfter (leverAt 517) paused).ten.state = .paused ∧
      (u paused).ten.state = .paused ∧ (u paused).ten.k = paused.ten.k := by decide +kernel

/-- One PULSE cue at frame 1000, the tape moving forward at `p` fine steps from a frame. -/
def triggered (armed : Bool) (frame : Nat) (p : Int) : State :=
  let s := withCues [{ cue 1 armed with trigger := some 1000 }] playing
  { s with psu := { s.psu with anchor := frame, p := p, fieldTotal := 30 } }

theorem witness_CuesAreJudgedAtFieldStarts :
    let i : Instr := .refPulse .odd 10020000 fieldPins
    let s := withCues [cue 1 false] ready
    let c := { cue 1 false with trigger := some 1000 }
    let lost := { triggered true 1000 0 with psu := { (triggered true 1000 0).psu with source := .noSource } }
    givesFieldStart i fieldPins s ∧ exec i s = .next (after i s) ∧
      exec i (triggered false 1000 0) = .next (after i (triggered false 1000 0)) ∧ exec i lost = .next (after i lost) ∧
      (∀ x ∈ [triggered false 1000 0, lost], x.onTime 10020000) ∧
      (after i s).ftu.counter = s.ftu.counter + 1 ∧ s.cul.cues = [cue 1 false] ∧ (cue 1 false).action = .pulse 4 ∧
      (cue 1 false).reference = 0 ∧ (cue 1 false).trigger = none ∧ (cue 1 false).lockList = [] ∧ ready.cul.cues = [] ∧
      (after i s).cul.pulses = 8 ∧ (triggered false 1000 0).cul.cues = [c] ∧
      (triggered false 1000 0).dhd.config = some settings ∧ (triggered false 1000 0).rcc.state ≠ .recording ∧
      0 < (after i (triggered false 1000 0)).psu.speed ∧
      (triggered false 750 0).own = some 192000 ∧ diff settings.standard.day 192000 256000 = -64000 ∧
      (after i (triggered false 750 0)).cul.cues = [{ c with armed := true }] ∧
      (after i (triggered false 749 59)).cul.cues = [c] ∧
      (after i (triggered false 999 59)).cul.cues = [{ c with armed := true }] ∧
      (after i (triggered false 1000 0)).cul.pulses = 8 ∧ (after i (triggered false 1001 59)).cul.pulses = 8 ∧
      (after i (triggered false 1002 0)).cul.cues = [c] ∧ (after i (triggered true 1002 0)).cul.cues = [] ∧
      (after i (triggered true 1002 0)).holdsEvent .cueMissed = true ∧ lost.own = none ∧
      (after i lost).holdsEvent .cueMissed = true ∧
      (after i { triggered false 1000 0 with psu := playing.psu }).cul.cues = [c] :=
  ⟨.inl ⟨.odd, 10020000, rfl, by decide +kernel⟩, rfl, rfl, rfl, by decide +kernel⟩

/-- One cue with no trigger, its outcome told to station 3. -/
def firing (a : CueAction) (s : State) : State := withCues [{ cue 7 false with action := a, notify := some 3 }] s

/-- The code the sense record holds after a REF pulse. -/
def codeAfter (s : State) : Option Code := (fieldAfter fieldPins s).dhd.sense.map (·.code)

/-- Master 2, LOCKED by its announcement of this field. -/
def lockedMaster (s : State) : State :=
  let e : PeerEntry := { masterEntry 501 with content := { masterSays with chaseSummary := 2 } }
  { s with ptb := { s.ptb with entries := s.ptb.entries.set 1 (some e) } }

theorem witness_CuesAreHandedToTheirOwners :
    let i : Instr := .refPulse .odd 10020000 fieldPins
    let u := fieldAfter fieldPins
    let record := CueAction.recordIn 5 (some 7) .strict
    let stored : State := { shuttling with csv := { shuttling.csv with record := some chaseOf2 } }
    let listed (l : List Nat) : State := withCues [{ cue 7 false with lockList := l }] (lockedMaster ready)
    let peer : State := withCues [{ cue 7 true with reference := 2, trigger := some 1010 }] (withMaster ready)
    exec i (firing record playing) = .next (u (firing record playing)) ∧ playing.dhd.config = some settings ∧
      playing.dhd.transportFitted = true ∧ playing.dhd.channelFitted = true ∧ playing.tsq.wait = none ∧
      playing.tsq.recovery = .idle ∧ playing.tsq.slot = none ∧ playing.tsq.pendingOp = none ∧ playing.cul.roll = none ∧
      playing.csv.state = .off ∧ playing.rcc.state = .idle ∧ playing.isOwn 3 = false ∧ playing.lif.nonAnnouncements < 7 ∧
      (u (firing record playing)).rcc.state = .recording ∧
      ((u (firing record playing)).lif.waiting.map (·.payload.take 4)).getLast? = some [1, 7, 0, 0] ∧
      codeAfter (firing record noTape) = some .noTape ∧ codeAfter (firing record ready) = some .transportNotReady ∧
      codeAfter (firing record (withZones [zoneAt 1000 1001] playing)) = some .isProtected ∧
      codeAfter (firing record { playing with psu := { playing.psu with source := .tach } }) = some .noCode ∧
      ((fieldAfter { fieldPins with inhibit := true } (firing record playing)).dhd.sense.map (·.code)) =
        some .recordInhibited ∧
      ((after (.internalFieldStart fieldPins) (firing record { playing with ftu := (fallback 0 .idle).ftu })).dhd.sense.map
        (·.code)) = some .noReference ∧
      codeAfter (firing .recordOut ready) = some .notRecording ∧
      (u (firing .recordOut { recording with rcc := { recording.rcc with fresh := true } })).tsq.state = .playing ∧
      (u (firing .transitionStart (engine .preset (preset .mix 2 0) 0))).ten.state = .running ∧
      (u (firing .transitionStart (engine .preset (preset .cut 2 0) 0))).ten.aSel = 7 ∧
      codeAfter (firing .transitionStart ready) = some .noPreset ∧
      codeAfter (firing .transitionStart (engine .paused (preset .mix 2 0) 0)) = some .transitionActive ∧
      (u (firing (.mode .stop) playing)).tsq.state = .stopped ∧ (u (firing (.mode .still) playing)).tsq.state = .still ∧
      (u (firing (.mode .play) ready)).tsq.pendingOp.isSome = true ∧
      codeAfter (firing (.mode .play) faulted) = some .transportNotReady ∧
      codeAfter (firing (.mode .stop) noTape) = some .noTape ∧ codeAfter (firing .chaseEngage ready) = some .noChaseRecord ∧
      (u (firing .chaseEngage stored)).tsq.state = .chasing ∧ (u (firing .chaseRelease (chasing .pulling))).csv.state = .off ∧
      (u (firing .chaseRelease ready)).cul.cues = [] ∧ (u (listed [2])).cul.pulses = 8 ∧
      codeAfter (listed [0]) = some .notLocked ∧ codeAfter (listed [2, 3]) = some .notLocked ∧
      (u peer).cul.pulses = 8 ∧
      codeAfter { peer with ptb := { peer.ptb with entries := peer.ptb.entries.set 1 (some (masterEntry 492)) } } =
        some .refStale :=
  ⟨rfl, by decide +kernel⟩

theorem witness_CuesInAChaseAndTogether :
    let u := fieldAfter fieldPins
    let near (s : State) : State :=
      { s with ptb := { s.ptb with
        entries := s.ptb.entries.set 1 (some { masterEntry 501 with content := { masterSays with position := some 256016 } }) } }
    let record := CueAction.recordIn 5 (some 7) .strict
    let chased := firing record (near (chasing .locked))
    let out := firing .recordOut { recording with rcc := { recording.rcc with
      record := some { segment with guardKind := .lenient, duration := none } } }
    let pulse (id n : Nat) : Cue := { cue id false with action := .pulse n, notify := some 1 }
    let two := withCues [pulse 3 1, { pulse 4 2 with trigger := some 2000 }, pulse 5 4] ready
    let pair (a b : CueAction) (s : State) : State := withCues [{ cue 7 false with action := a }, { cue 8 false with action := b }] s
    let stored : State := { shuttling with csv := { shuttling.csv with record := some chaseOf2 } }
    chased.tsq.state = .chasing ∧ (u chased).csv.state = .locked ∧ (u chased).rcc.state = .recording ∧
      (u chased).tsq.reqMode = .record ∧ (u chased).tsq.reqSpeed = 1024 + 4 ∧
      (u (firing record (near (chasing .pulling)))).rcc.state = .idle ∧
      (u out).tsq.state = .playing ∧ out.recordedTo { segment with duration := none } = (1000, none) ∧
      ((u out).lif.waiting.map (·.payload.take 3)).contains [2, 0, 0] = true ∧ two.cuesLegal ∧
      two.lpt.rxQueue.length + two.cul.cues.length ≤ 8 ∧ (u two).cul.pulses = 9 ∧ (u two).cul.cues.map (·.id) = [4] ∧
      (u two).lpt.rxQueue.map (·.bytes.drop 4) = [[1, 3, 0, 0], [1, 5, 0, 0]] ∧
      1 ≤ settings.turnaround ∧ (u (pair .recordOut record recording)).rcc.state = .gap ∧
      codeAfter (pair .recordOut record recording) = some .segmentBusy ∧
      (u (pair (.mode .stop) .chaseEngage stored)).csv.engagedBy = .cue 8 ∧
      (u (pair (.mode .stop) .chaseEngage stored)).tsq.state = .chasing := by decide +kernel

/-- The recorder at the tape position of a frame. -/
def recordingAt (frame : Nat) : State := { recording with psu := { recording.psu with anchor := frame } }

theorem witness_SegmentIsJudgedAtFieldStarts :
    let i : Instr := .refPulse .odd 10020000 fieldPins
    let z := withZones [zoneAt 10 20, zoneAt 1000 1001] recording
    let drop := { recording with psu := { recording.psu with source := .tach } }
    let off := { recording with ftu := { (fallback 0 .idle).ftu with returnStep := .idle } }
    givesFieldStart i fieldPins recording ∧ givesFieldStart (.internalFieldStart fieldPins) fieldPins off ∧
      exec i recording = .next (after i recording) ∧ exec i z = .next (after i z) ∧ exec i drop = .next (after i drop) ∧
      exec (.internalFieldStart fieldPins) off = .next (after (.internalFieldStart fieldPins) off) ∧
      (∀ x ∈ [z, drop], x.onTime 10020000) ∧
      (after i recording).ftu.counter = recording.ftu.counter + 1 ∧ recording.dhd.config = some settings ∧
      recording.dhd.transportFitted = true ∧ recording.rcc.state = .recording ∧ recording.rcc.record = some segment ∧
      recording.own = some 256000 ∧ recording.tsq.state = .recording ∧ recording.tsq.wait = none ∧
      recording.tsq.recovery = .idle ∧ recording.tsq.slot = none ∧ recording.csv.state = .off ∧ recording.cul.cues = [] ∧
      recording.cul.roll = none ∧ fieldPins.deckFault = false ∧ z.rcc.zones = [zoneAt 10 20] ++ zoneAt 1000 1001 :: [] ∧
      (after i z).rcc.state = .gap ∧ (after i recording).rcc.state = .recording ∧
      diff settings.standard.day (1029 * 256) ((990 + 40) % 2160000 * 256) < 0 ∧
      (after i (recordingAt 1029)).rcc.state = .recording ∧ (after i (recordingAt 1030)).rcc.state = .gap ∧
      segment.guardKind = .strict ∧ (after i recording).ftu.refState = .lockedRef ∧ recording.psu.source = .code ∧
      segment.lockList = [] ∧ drop.psu.source = .tach ∧ (after i drop).rcc.state = .gap ∧
      (after (.internalFieldStart fieldPins) off).ftu.refState = .fallback ∧
      (after (.internalFieldStart fieldPins) off).rcc.state = .gap :=
  ⟨.inl ⟨.odd, 10020000, rfl, by decide +kernel⟩, .inr (.inr (.inl rfl)), rfl, rfl, rfl, rfl, by decide +kernel⟩

theorem witness_SegmentGuardsAndGap :
    let u := fieldAfter fieldPins
    let guarded (l : List Nat) (s : State) : State :=
      { s with rcc := { s.rcc with record := some { segment with lockList := l } } }
    let gap (n : Nat) : State := { playing with rcc := { playing.rcc with state := .gap, gapCount := n } }
    let near : PeerEntry := { masterEntry 501 with content := { masterSays with position := some 256000 } }
    let chased : State := { lockedRecording with ptb := { lockedRecording.ptb with
      entries := lockedRecording.ptb.entries.set 1 (some near) } }
    let stray : State := { chased with ptb := withMaster chased |>.ptb, csv := { chased.csv with blankRun := 3 } }
    (u (guarded [0, 2] (lockedMaster recording))).rcc.state = .recording ∧
      codeAfter (guarded [0, 2] (withMaster recording)) = some .notLocked ∧
      codeAfter (guarded [2, 3] (lockedMaster recording)) = some .refStale ∧ chased.tsq.state = .chasing ∧
      chased.tsq.reqMode = .record ∧ chased.csv.state = .locked ∧ chased.csv.record.isSome = true ∧ chased.tsq.wait = none ∧
      chased.tsq.recovery = .idle ∧ chased.tsq.slot = none ∧ (u chased).csv.state = .locked ∧
      (u chased).rcc.state = .recording ∧ (u (withZones [zoneAt 1000 1001] chased)).tsq.state = .chasing ∧
      ((u (withZones [zoneAt 1000 1001] recording)).lif.waiting.map (·.payload)).contains
        [2, 1, 0x53, 0, 0, 39, 15, 0, 0, 39, 24, 1, 0, 30] = true ∧
      codeAfter (withZones [zoneAt 1000 1001] chased) = some .isProtected ∧ codeAfter stray = some .lockLost ∧
      (u stray).csv.state ≠ .locked ∧ (gap 1).tsq.state ≠ .chasing ∧ (u (gap 1)).rcc.state = .idle ∧
      (u (gap 2)).rcc.gapCount = 1 := by decide +kernel

/-- A chase with the own tape at frame 1000 whose master says a position and a speed at this field. -/
def chasingOf (state : ChaseState) (position : Nat) (speed : Int) (run timer blank : Nat) : State :=
  let s := chasing state
  let e : PeerEntry := { masterEntry 501 with content := { masterSays with position := some position, speed := speed } }
  { s with
    ptb := { s.ptb with entries := s.ptb.entries.set 1 (some e) },
    csv := { s.csv with lockRun := run, pullTimer := timer, blankRun := blank } }

theorem witness_ChaseActsAtFieldStarts :
    let i : Instr := .refPulse .odd 10020000 fieldPins
    let s := chasingOf .seeking 256000 1024 0 0 0
    let after' (s : State) : Csv := (after i s).csv
    givesFieldStart i fieldPins s ∧ exec i s = .next (after i s) ∧ (chasing .locked).onTime 10020000 ∧
      exec i (chasing .locked) = .next (after i (chasing .locked)) ∧
      (after i s).ftu.counter = s.ftu.counter + 1 ∧ s.dhd.config = some settings ∧ s.dhd.transportFitted = true ∧
      s.csv.record = some chaseOf2 ∧ s.csv.state ≠ .off ∧ s.csv.state ≠ .failed ∧ s.csv.state ≠ .reroll ∧
      s.tsq.state = .chasing ∧ s.tsq.wait = none ∧ s.tsq.recovery = .idle ∧ s.tsq.slot = none ∧
      s.rcc.state ≠ .recording ∧ s.cul.cues = [] ∧ s.cul.roll = none ∧ s.own = some 256000 ∧
      ((after i s).view 2).usable = true ∧ ((after i s).view 2).projection = some 256000 ∧
      ((after i noTape).view 2).usable = false ∧ settings.standard.seekThreshold = 32000 ∧ 1 ≤ chaseOf2.pullTimeLimit ∧
      (after' s).state = .pulling ∧ (after' (chasingOf .locked 256000 31 0 0 0)).state = .followStill ∧
      (after' (chasingOf .waiting 256000 32 0 0 0)).state = .pulling ∧
      (after' (chasingOf .followStill 288000 1024 0 0 0)).state = .pulling ∧
      (after' (chasingOf .followStill 288001 1024 0 0 0)).state = .seeking ∧
      (after' (chasingOf .pulling 320000 1024 7 249 0)).state = .pulling ∧
      (after' (chasingOf .pulling 320001 1024 7 249 0)).state = .seeking ∧
      (after' (chasingOf .pulling 256017 1024 7 249 0)).lockRun = 0 ∧
      (after' (chasingOf .pulling 256016 1024 6 249 0)).lockRun = 7 ∧
      (after' (chasingOf .pulling 256016 1024 7 249 0)).state = .locked ∧
      (after' (chasingOf .locked 256016 1024 0 0 3)).blankRun = 0 ∧
      (after' (chasingOf .locked 256017 1024 0 0 2)).blankRun = 3 ∧
      (after' (chasingOf .locked 256017 1024 0 0 3)).state = .pulling :=
  ⟨.inl ⟨.odd, 10020000, rfl, by decide +kernel⟩, rfl, by decide +kernel, rfl, by decide +kernel⟩

theorem witness_FollowStillApproaches :
    let f (step : FollowStep) (target : Nat) (m : ReqMode) (y : Bool) (t : Tally) : State :=
      let s := chasingOf .followStill target 0 0 0 0
      { s with
        csv := { s.csv with followStep := step }, tsq := { s.tsq with reqMode := m, matched := y },
        pins := { s.pins with tally := t } }
    let u (s : State) : State := fieldAfter fieldPins s
    (u (f .approaching 256129 .var true .var)).tsq.reqSpeed = 128 ∧
      (u (f .approaching 256128 .var true .var)).tsq.wait = some { settle := 0, busy := 0 } ∧
      (u (f .approaching 256128 .var true .var)).csv.followStep = .approaching ∧
      (u (f .approaching 256128 .still true .still)).csv.followStep = .parked ∧
      (u (f .approaching 288000 .still false .var)).tsq.reqMode = .still ∧
      (u (f .parked 256256 .still true .still)).csv.followStep = .parked ∧
      (u (f .parked 256257 .still true .still)).csv.followStep = .approaching ∧
      (u (f .parked 256257 .still true .still)).tsq.reqMode = .var := by decide +kernel

theorem witness_RerollAtFieldStarts :
    let u (s : State) : Csv := (fieldAfter fieldPins s).csv
    let reroll (n : Nat) : State :=
      let s := chasingOf .reroll 288001 1024 0 0 0
      { s with csv := { s.csv with offTime := n } }
    let pulling := chasingOf .pulling 256017 1024 0 250 0
    let tried : State := { pulling with csv := { pulling.csv with rerolls := 1 } }
    (u (reroll 23)).offTime = 24 ∧ (u (reroll 24)).state = .seeking ∧ (u pulling).state = .reroll ∧
      (u pulling).rerolls = 1 ∧ (u tried).state = .failed ∧ codeAfter tried = some .chaseFailed := by decide +kernel

/-! ### The suite line -/

theorem witness_StopInputEmitsOnce :
    ready.lif.stopLevel = false ∧ ready.lif.listenOnly = false ∧ ready.lif.watch = .steady ∧ ready.lif.sending = none ∧
      ({ ready with lif := { ready.lif with stopLevel := true } } : State).lif.stopLevel = true := by decide +kernel

theorem witness_StopEventStopsTheStation :
    (recording.rcc.state = .recording → recording.rcc.record.isSome = true) ∧ recording.rcc.state = .recording ∧
      recording.lif.watch = .steady ∧ recording.dhd.transportFitted = true ∧ recording.dhd.config.isSome = true ∧
      recording.tsq.state ≠ .unthreaded ∧ recording.tsq.state ≠ .faulted ∧ State.reset.lif.watch = .afterReset ∧
      (listening recording).lif.listenOnly = true ∧ (listening recording).lif.stopLevel = false := by decide +kernel

theorem witness_BadFramesAreDiscarded :
    ready.lif.watch = .steady ∧ ready.lif.sending = none ∧ ready.lif.emitting = false ∧ State.reset.lif.watch ≠ .steady ∧
      checkWord { ann 3 .even (annBytes 1) with check := 0 }.coveredBits ≠ { ann 3 .even (annBytes 1) with check := 0 }.check ∧
      (ann 31 .even (annBytes 1)).source = 31 ∧ 32 < (ann 3 .even (List.replicate 33 0)).payload.length ∧
      (after (.malformedFrame (ann 31 .even (annBytes 1))) ready).holdsEvent .lineError = true := by decide +kernel

theorem witness_HeadOfQueueIsBegun :
    let f := report 3 1 (List.replicate 32 0)
    let s := queued [message .directive 4 [0x0B, 5, 0], message .report 0 [5, 0]] ready
    let z := queued [message .directive 5 [0x0B, 5, 0], message .report 0 [5, 0]] ready
    s.lif.idle = true ∧ s.lif.watch = .steady ∧ s.lif.emitting = false ∧ s.lif.listenOnly = false ∧ s.lif.sending = none ∧
      (message .directive 4 [0x0B, 5, 0]).age < (5 : Byte).toNat ∧ (5 : Byte).toNat ≤ (message .directive 5 [0x0B, 5, 0]).age ∧
      ((after .frameTransmitStart s).lif.sending.map (·.frame.payload)) = some [0x0B, 1, 0] ∧
      ((after .frameTransmitStart z).lif.sending.map (·.frame.payload)) = some [5, 0] ∧
      State.reset.lif.watch ≠ .steady ∧ (after .frameTransmitStart s).lif.idle = false ∧
      f.payload.length ≤ 32 ∧ Frame.ofLineBits f.lineBits = some f ∧ f.lineBits.length ≤ 453 := by decide +kernel

theorem witness_MessagesLeaveTheLine :
    let x := message .report 15 [5, 0]
    let y := message .report 16 [5, 0]
    let a := message .announce 0 []
    let held : State := { sending a false ready with lif := { (sending a false ready).lif with heldAnn := some a } }
    (sending x false ready).lif.sending.isSome = true ∧ (sending x false ready).lif.heldAnn = none ∧ x.age < 16 ∧
      16 ≤ y.age ∧ held.lif.heldAnn = some a ∧ a.kind = .announce ∧ ready.lif.sending = none ∧
      (queued [x] ready).lif.waiting.filter (fun m => m.kind = .announce ∨ m.age < 15) ≠ (queued [x] ready).lif.waiting ∧
      (after .arbitrationLost (sending y false ready)).holdsEvent .txDropped = true := by decide +kernel

theorem witness_TwinMakesTheStationDuplicate :
    let f := ann 1 .even (annBytes 1)
    ready.lif.watch = .steady ∧ f.taken = true ∧ f.cls = 1 ∧ ready.isOwn f.source.toNat = true ∧ ready.lif.duplicate = false ∧
      ready.lif.sending = none ∧ (sending (message .announce 0 []) false ready).lif.sending.isSome = true ∧
      ready.isOwn (ann 3 .even (annBytes 1)).source.toNat = false := by decide +kernel

theorem witness_ReceivedMessagesAreStored :
    let f := ann 2 .even (annBytes 1)
    let g := report 3 1 [5, 0]
    let full := withRx (List.replicate 8 { bytes := [], place := 0 }) ready
    let older (stamp : Count32) : State :=
      { ready with ptb := { ready.ptb with entries := ready.ptb.entries.set 1 (some (masterEntry stamp)) } }
    ready.lif.watch = .steady ∧ f.taken = true ∧ f.cls = 1 ∧ ready.isOwn f.source.toNat = false ∧ f.payload.length = 14 ∧
      bare.ftu.firstGiven = false ∧ ready.ftu.firstGiven = true ∧ ready.peer f.source.toNat = none ∧
      aged.peer f.source.toNat = some (masterEntry 493) ∧ (500#32 - 493#32).toNat = 7 ∧
      (withMaster ready).peer f.source.toNat = some (masterEntry 500) ∧
      251 ≤ (aged.ftu.counter + 1 - (masterEntry 250).stamp).toNat ∧ aged.peer 5 = some (masterEntry 250) ∧
      (aged.ftu.counter + 1 - (masterEntry 251).stamp).toNat < 251 ∧ aged.peer 4 = some (masterEntry 251) ∧
      (500#32 - 2147484149#32).toNat = 2147483647 ∧
      (after (.announcementReceived f) (older 2147484149)).peer 2 ≠ some (masterEntry 2147484149) ∧
      (500#32 - 2147484148#32).toNat = 2147483648 ∧
      (after (.announcementReceived f) (older 2147484148)).peer 2 = some (masterEntry 2147484148) ∧
      g.taken = true ∧ g.cls = 2 ∧ ready.isOwn g.dest.toNat = true ∧ ready.lpt.rxQueue.length < 8 ∧
      8 ≤ full.lpt.rxQueue.length ∧ (report 3 2 [5, 0]).taken = true ∧
      ready.isOwn (report 3 2 [5, 0]).dest.toNat = false := by decide +kernel

/-! ### The deck -/

theorem witness_TallySatisfiesTheWait :
    waiting.pins.tally ≠ .play ∧ waiting.dhd.transportFitted = true ∧ waiting.dhd.config.isSome = true ∧
      waiting.tsq.wait.isSome = true ∧ Tally.mode .play = some waiting.tsq.reqMode ∧ waiting.tsq.recovery = .idle ∧
      waiting.tsq.slot = none ∧ waiting.tsq.state ≠ .chasing ∧ waiting.tsq.pendingOp = none ∧
      Tally.mode .unknown ≠ some waiting.tsq.reqMode ∧ bare.dhd.config = none ∧ noTape.tsq.wait = none ∧
      noTape.tsq.state = .unthreaded := by decide +kernel

/-- What waits for its tally: a request of a mode, an operation, a held directive. -/
def awaiting (t : TransportState) (m : ReqMode) (o : Option PendingOp) (h : Option Held) : State :=
  { ready with
    tsq := { ready.tsq with
      state := t, reqMode := m, matched := false, wait := some { settle := 0, busy := 0 }, pendingOp := o, slot := h },
    pins := { ready.pins with tally := .unknown } }

/-- The operation of station 2 for a frame. -/
def seek (kind : OpKind) (target : Nat) : PendingOp :=
  { kind := kind, issuer := .station 2, seq := 5, origin := .directive 6, target := target, reversals := 0, lastSign := none }

/-- The reports that wait, their type and code, after the deck shows a mode. -/
def reportsAfter (m : Tally) (s : State) : List (List Byte) := (after (.tallyChange m) s).lif.waiting.map (·.payload.take 2)

theorem witness_TallyCompletesWhatWaits :
    let u (m : Tally) (s : State) : Tsq := (after (.tallyChange m) s).tsq
    let try' : State := awaiting .faulted .stop none none
    let tried : State := { try' with tsq := { try'.tsq with recovery := .recoveryWait } }
    let near := awaiting .cueing .still (some (seek .cueTo 1001)) none
    let far := awaiting .cueing .still (some (seek .jog 1002)) none
    let eject := awaiting .ejecting .eject (some (seek .eject 0)) (some held)
    let follow (target : Nat) : State :=
      let s := awaiting .chasing .still none none
      { s with csv := { (chasing .followStill).csv with target := target } }
    let release (m : Motion) (src : PosSource) : State :=
      let s := awaiting .playing .play (some (seek .mode 0)) (some { held with motion := m })
      { s with psu := { s.psu with source := src } }
    (u .stop tried).state = .stopped ∧ (u .stop tried).recovery = .idle ∧ (u .still near).state = .still ∧
      near.own = some 256000 ∧ (diff settings.standard.day (1001 * 256) 256000).natAbs = 256 ∧
      reportsAfter .still near = [[6, 0]] ∧ (u .still far).state = .cueing ∧ reportsAfter .eject eject = [[5, 0]] ∧
      (u .eject eject).slot = some held ∧ (after (.tallyChange .still) (follow 256256)).csv.followStep = .parked ∧
      (after (.tallyChange .still) (follow 256257)).csv.followStep = .approaching ∧
      (u .play (release .still .code)).state = .still ∧ reportsAfter .play (release (.shuttle 99) .code) = [[5, 0]] ∧
      (u .play (release (.shuttle 9000) .code)).reqSpeed = 8000 ∧ (u .play (release .eject .code)).state = .ejecting ∧
      (u .play (release (.cueTo 1002) .code)).state = .cueing ∧
      (u .play (release (.jog 5) .code)).pendingOp.map (·.target) = some 1005 ∧
      reportsAfter .play (release (.jog 5) .noSource) = [[7, 0x17]] ∧
      reportsAfter .record (awaiting .recording .record none (some held)) = [[5, 0x1B]] ∧
      reportsAfter .var { awaiting .chasing .var none (some held) with csv := (chasing .pulling).csv } = [[5, 0x14]] := by
  decide +kernel

theorem witness_UnsolicitedTallyIsAdopted :
    playing.dhd.transportFitted = true ∧ playing.dhd.config.isSome = true ∧ playing.tsq.wait = none ∧
      playing.tsq.matched = true ∧ Tally.record ≠ playing.pins.tally ∧ Tally.mode .record ≠ some playing.tsq.reqMode ∧
      playing.tsq.state ≠ .unthreaded ∧ playing.tsq.state ≠ .faulted ∧ playing.tsq.state ≠ .ejecting ∧
      playing.tsq.slot = none ∧ (playing.rcc.state = .recording → playing.rcc.record.isSome = true) ∧
      shuttling.tsq.matched = true ∧ Tally.mode .play ≠ some shuttling.tsq.reqMode := by decide +kernel

theorem witness_ThreadingChangesTheTransport :
    recording.dhd.transportFitted = true ∧ recording.pins.threaded = true ∧
      (recording.rcc.state = .recording → recording.rcc.record.isSome = true) ∧ noTape.pins.threaded = false ∧
      noTape.dhd.config.isSome = true ∧
      (let s : State := { noTape with pins := { noTape.pins with tally := .still } }
       Tally.mode s.pins.tally ≠ some s.tsq.reqMode) ∧
      bare.pins.threaded = false ∧ bare.dhd.config = none := by decide +kernel

theorem witness_FaultsStopTheTransport :
    let s : State := { recording with tsq := { recording.tsq with faultCount := 1 } }
    waiting.dhd.config = some settings ∧ waiting.tsq.wait = some { settle := 24, busy := 0 } ∧
      waiting.tsq.recovery ≠ .recoveryWait ∧ settings.settleLimit ≤ 24 + 1 ∧ waiting.rcc.state ≠ .recording ∧
      s.dhd.config = some settings ∧ s.rcc.state = .recording ∧ s.rcc.record.isSome = true ∧ s.tsq.state ≠ .unthreaded ∧
      s.tsq.state ≠ .faulted ∧ 1 ≤ s.tsq.faultCount := by decide +kernel

theorem witness_DeckCountsAtFieldStarts :
    let busy : FieldPins := { fieldPins with deckBusy := true }
    let fault : FieldPins := { fieldPins with deckFault := true }
    let at' (settle b : Nat) : State := { waiting with tsq := { waiting.tsq with wait := some { settle := settle, busy := b } } }
    let counted (n : Nat) : State := { playing with tsq := { playing.tsq with faultCount := n } }
    let holding : State := { at' 24 0 with tsq := { (at' 24 0).tsq with slot := some { held with age := 248 } } }
    givesFieldStart (.refPulse .odd 10020000 busy) busy (at' 24 99) ∧ exec (.refPulse .odd 10020000 busy) (at' 24 99) =
        .next (fieldAfter busy (at' 24 99)) ∧ (fieldAfter busy (at' 24 99)).ftu.counter = (at' 24 99).ftu.counter + 1 ∧
      (at' 24 0).deckAlone ∧ (at' 24 0).tsq.recovery = .idle ∧
      (fieldAfter busy (at' 24 99)).tsq.wait = some { settle := 24, busy := 100 } ∧
      (fieldAfter busy (at' 24 100)).tsq.state = .faulted ∧
      (fieldAfter fieldPins (at' 23 0)).tsq.wait = some { settle := 24, busy := 0 } ∧
      (fieldAfter fieldPins (at' 24 0)).tsq.state = .faulted ∧ (fieldAfter fault (counted 0)).tsq.faultCount = 1 ∧
      (fieldAfter fieldPins (counted 1)).tsq.faultCount = 0 ∧ (fieldAfter fault (counted 1)).tsq.state = .faulted ∧
      (fieldAfter fieldPins holding).tsq.slot = some { held with age := 249 } :=
  ⟨.inl ⟨.odd, 10020000, rfl, by decide +kernel⟩, rfl, by decide +kernel⟩

theorem witness_RecoveryTriesStop :
    let s : State := { faulted with tsq := { faulted.tsq with recovery := .offTime 249 } }
    let w : TallyWait := { settle := 24, busy := 0 }
    let z : State := { faulted with tsq := { faulted.tsq with recovery := .recoveryWait, wait := some w } }
    s.dhd.config = some settings ∧ s.tsq.state = .faulted ∧ s.tsq.reqMode = .stop ∧ s.tsq.recovery = .offTime 249 ∧
      settings.offTimeChoice = 3 ∧ (if settings.offTimeChoice = 3 then 250 else 25 * 2 ^ settings.offTimeChoice) ≤ 249 + 1 ∧
      s.pins.field.deckFault = false ∧ s.pins.tally ≠ .stop ∧ s.tsq.pendingOp = none ∧ s.tsq.slot = none ∧
      z.tsq.recovery = .recoveryWait ∧ z.tsq.wait = some w ∧ settings.settleLimit ≤ w.settle + 1 := by decide +kernel

theorem witness_RecoveryCountsAtFieldStarts :
    let s (n : Nat) (t : Tally) : State :=
      { faulted with tsq := { faulted.tsq with recovery := .offTime n }, pins := { faulted.pins with tally := t } }
    let w (n : Nat) : State := { faulted with tsq := { faulted.tsq with
      recovery := .recoveryWait, wait := some { settle := n, busy := 100 } } }
    let fault : FieldPins := { fieldPins with deckFault := true }
    let busy : FieldPins := { fieldPins with deckBusy := true }
    (s 0 .play).deckAlone ∧ (fieldAfter fieldPins (s 248 .play)).tsq.recovery = .offTime 249 ∧
      (fieldAfter fault (s 249 .play)).tsq.recovery = .offTime 0 ∧
      (fieldAfter fieldPins (s 249 .play)).tsq.recovery = .recoveryWait ∧
      (fieldAfter fieldPins (s 249 .stop)).tsq.state = .stopped ∧
      (fieldAfter busy (w 23)).tsq.wait = some { settle := 24, busy := 100 } ∧
      (fieldAfter busy (w 24)).tsq.recovery = .idle ∧ codeAfter (w 24) = some .transportTimeout := by decide +kernel

theorem witness_SlotAndReversalsAtFieldStarts :
    let w : State := { waiting with tsq := { waiting.tsq with wait := some { settle := 0, busy := 0 } } }
    let s (n : Nat) : State := { w with tsq := { w.tsq with slot := some { held with age := n } } }
    let z (n : Nat) (last : Int) : State := { cueing with tsq := { cueing.tsq with
      pendingOp := some { seek .cueTo 2000 with reversals := n, lastSign := some last } } }
    let op (s : State) := (fieldAfter fieldPins s).tsq.pendingOp.map (·.reversals)
    (s 0).deckAlone ∧ (z 0 1).deckAlone ∧ (z 0 1).own = some 256000 ∧
      (fieldAfter fieldPins (s 248)).tsq.slot = some { held with age := 249 } ∧
      (fieldAfter fieldPins (s 249)).tsq.slot = none ∧ codeAfter (s 249) = some .deferralExpired ∧
      ((fieldAfter fieldPins (s 249)).lif.waiting.map (·.payload.take 2)).contains [5, 0x16] = true ∧
      op (z 7 (-1)) = some 8 ∧ op (z 8 1) = some 8 ∧ op (z 8 (-1)) = none ∧ codeAfter (z 8 (-1)) = some .seekFailed := by
  decide +kernel

theorem witness_HeldAndSeekingOperationsFail :
    let s : State := { cueing with tsq := { cueing.tsq with slot := some held } }
    s.dhd.config = some settings ∧ s.tsq.slot = some held ∧ (if settings.standard = .f25 then 250 else 300) ≤ held.age + 1 ∧
      (let z : State := { cueing with tsq := { cueing.tsq with pendingOp := cueing.tsq.pendingOp.map fun o =>
          { o with reversals := 8 } } }
       (z.tsq.pendingOp.map fun o => decide (8 ≤ o.reversals)) = some true ∧ z.tsq.state = .cueing ∧
         z.tsq.recovery = .idle ∧ z.tsq.slot = none) := by decide +kernel

theorem witness_SegmentEndsAreNoticed :
    let told (i : Instr) (s : State) (n : Nat) : Option (List Byte) :=
      ((after i s).lif.waiting.filter fun m => m.kind = .notice).head?.map (·.payload.take n)
    let fault : State := { recording with tsq := { recording.tsq with faultCount := 1 } }
    let late : State := { lockedRecording with csv := { lockedRecording.csv with blankRun := 3 } }
    recording.nothingToReport ∧ recording.rcc.record = some segment ∧ segment.notify = some 2 ∧ recording.isOwn 2 = false ∧
      recording.lif.listenOnly = false ∧ recording.lif.nonAnnouncements < 7 ∧ recording.cul.cues = [] ∧
      recording.recordedTo segment = (1000, some 29) ∧
      told .stopEvent recording 3 = some [2, 1, 0x56] ∧
      told (.tallyChange .play) recording 3 = some [2, 1, 0x1A] ∧
      told .threadedFalls recording 14 = some [2, 1, 0x10, 0, 0, 39, 15, 0, 0, 39, 24, 1, 0, 30] ∧
      told .deckFaultQualified fault 3 = some [2, 1, 0x13] ∧ told .lockLost late 3 = some [2, 1, 0x5A] ∧
      told (.restart fromLine []) recording 3 = some [2, 1, 0x5C] ∧
      told (.transportStop fromLine []) recording 3 = some [2, 1, 0x57] ∧
      told (.chaseDisable fromLine []) lockedRecording 3 = some [2, 1, 0x5A] ∧
      told (.abortSegment fromLine []) recording 14 = some [2, 1, 0x57, 0, 0, 39, 15, 0, 0, 40, 0, 1, 0, 29] := by
  decide +kernel

/-! ### Chase, gap, roll and transition steps -/

theorem witness_LockIsDeclaredAndLost :
    let s : State := { chasing .pulling with csv := { (chasing .pulling).csv with lockRun := 7 } }
    let z : State := { lockedRecording with csv := { lockedRecording.csv with blankRun := 3 } }
    let u : State := { chasing .locked with csv := { (chasing .locked).csv with blankRun := 3 } }
    s.csv.state = .pulling ∧ 7 ≤ s.csv.lockRun ∧ z.csv.state = .locked ∧ z.csv.record = some chaseOf2 ∧
      chaseOf2.blankingCount ≤ z.csv.blankRun + 1 ∧ z.rcc.state = .recording ∧ z.rcc.record.isSome = true ∧
      u.csv.state = .locked ∧ chaseOf2.blankingCount ≤ u.csv.blankRun + 1 ∧ u.rcc.state ≠ .recording ∧
      u.tsq.slot = none := by decide +kernel

theorem witness_PullTimeAndRerollEnd :
    let s : State := { chasing .pulling with csv := { (chasing .pulling).csv with pullTimer := 250 } }
    let z : State := { chasing .reroll with csv := { (chasing .reroll).csv with offTime := 24, rerolls := 1 } }
    s.csv.record = some chaseOf2 ∧ s.tsq.slot = none ∧ s.rcc.state ≠ .recording ∧ s.csv.state = .pulling ∧
      chaseOf2.pullTimeLimit ≤ s.csv.pullTimer ∧ s.csv.rerolls < chaseOf2.retries ∧ chaseOf2.retries ≤ z.csv.rerolls ∧
      z.csv.state = .reroll ∧ chaseOf2.rerollOffTime ≤ z.csv.offTime + 1 ∧ z.dhd.config = some settings ∧
      (z.view 2).presence = .fresh ∧ (z.view 2).refLost = false ∧ (z.view 2).projection = some 258560 ∧
      z.own = some 256000 := by decide +kernel

theorem witness_GapRollAndTransitionEnd :
    let gap : State := { ready with rcc := { ready.rcc with state := .gap, gapCount := 1 } }
    let r : RollSlot := { start := 501, engage := false, seq := 9 }
    let x : Cul := { ready.cul with roll := some { r with engage := true } }
    let s : State := { ready with cul := { ready.cul with roll := some r } }
    let z : State := { recording with cul := { recording.cul with roll := some r } }
    let e := engine .running (preset .mix 2 0) 3
    gap.rcc.state = .gap ∧ gap.rcc.gapCount ≤ 1 ∧ s.cul.roll = some r ∧ r.start = s.ftu.counter + 1 ∧ r.engage = false ∧
      s.tsq.state = .still ∧ s.tsq.reqMode ≠ .play ∧ s.pins.tally ≠ .play ∧ z.cul.roll = some r ∧ z.tsq.state ≠ .still ∧
      z.tsq.state ≠ .stopped ∧ e.ten.state = .running ∧ e.ten.preset = some (preset .mix 2 0) ∧
      (preset .mix 2 0).kind ≠ .cut ∧ 2 * (preset .mix 2 0).duration ≤ e.ten.k + 1 ∧
      (after .rollStart { s with cul := x }).dhd.sense.map (·.code) = some .noChaseRecord ∧
      (after .rollStart { shuttling with cul := x, csv := { shuttling.csv with record := some chaseOf2 } }).tsq.state =
        .chasing ∧
      (after .rollStart { chasing .pulling with cul := x }).dhd.sense.map (·.code) = some .chaseActive ∧
      ((2 * (preset .mix 2 0).duration : Nat) : Int) ≤ ((e.ten.k + 1 : Nat) : Int) - (preset .mix 2 0).split := by
  decide +kernel

/-! ### Directives -/

/-- The bytes that follow LOAD_CUE's type byte: a TRANSITION_START on the own tape with no trigger. -/
def cueAt0 : List Byte := [1, 2, 0, 0, 0, 0, 0, 0, 0, 0, 0, 0, 0, 0, 0, 0, 0, 0, 0]

theorem witness_RefusedDirectiveOnlyReports :
    let closed : State := { ready with dhd := { ready.dhd with config := some { settings with controlSet := 8 } } }
    let bareDeck : State := { ready with dhd := { ready.dhd with transportFitted := false } }
    directiveOf (.selectA fromLine [8]) = some (fromLine, [0x0F, 8]) ∧ ready.hears fromLine 2 = true ∧
      ready.checkDirective fromLine [0x0F, 8] = .bad .badParameter ∧ unknownPayload [0x15] = true ∧
      ready.hears fromLine 1 = true ∧ bare.hears fromLine 2 = true ∧ unknownPayload [0x0F, 8] = false ∧
      bare.dhd.config = none ∧ 5 ≤ (byteAt [0x0F, 8] 0).toNat ∧
      directiveOf (.take (.line 2 4 0 .even) []) = some (.line 2 4 0 .even, [0x10]) ∧ (4 : BitVec 5) ≠ 0 ∧
      (closed.dhd.config.map fun c => (c.controlSet == 8, c.controlSet.getLsbD 2)) = some (true, false) ∧
      closed.hears fromLine 2 = true ∧ bareDeck.hears fromLine 20 = true ∧ bareDeck.dhd.channelFitted = true ∧
      bareDeck.dhd.transportFitted = false ∧
      after (.selectA fromLine [8]) closed = (closed.heard fromLine).report fromLine 0x0F .notPermitted [] ∧
      after (.transportStop fromLine []) bareDeck = (bareDeck.heard fromLine).report fromLine 0x05 .notFitted [] ∧
      after (.loadCue fromLine cueAt0) bareDeck = (bareDeck.heard fromLine).report fromLine 0x09 .notFitted [] ∧
      ready.isOwn (4 : BitVec 5).toNat = false ∧ (listening ready).lif.listenOnly = true := by decide +kernel

/-- The directive of a payload is answered by the code alone. -/
def answersOnly (code : Code) (p : List Byte) : Bool :=
  decide (after (.unknownType fromLine p) ready = (ready.heard fromLine).report fromLine (byteAt p 0) code [])

theorem witness_FieldsOutOfRangeAreRefused :
    let chase (m o w b l1 l0 : Byte) : List Byte := [8, 1, m, o, 0, 0, 0, w, b, 0, l1, l0, 0, 0]
    let load (id act ref pres frame mask choice count e notify : Byte) : List Byte :=
      [9, id, act, ref, pres, 0, 0, 40, frame, mask, 0, 0, 0, choice, count, e, e, 0, 0, notify]
    let wipe (source d1 d0 pattern split lever : Byte) : List Byte := [0x0E, source, 3, d1, d0, pattern, split, lever]
    ([[1, 1], [2, 2, 0], [2, 0, 1], [2, 1], [4, 0], [4, 31], [5, 5], [5, 3, 0x80, 0], [5, 3, 0], [6, 0, 0, 0], [7, 0], [7, 100],
      [7, 0x9C], chase 0 0 16 0 0 50, chase 31 0 16 0 0 50, chase 2 0x20 16 0 0 50, chase 2 0 7 0 0 50, chase 2 0 129 0 0 50,
      chase 2 0 16 4 0 50, chase 2 0 16 0 0 49, chase 2 0 16 0 3 0xE9, [8, 3], load 0 6 2 0 0 0 1 0 0 0,
      load 3 7 2 0 0 0 1 0 0 0, load 3 6 1 0 0 0 1 0 0 0, load 3 0 2 0 0 0 0 0 0 0, load 3 0 2 0 0 32 0 0 0 0,
      load 3 0 2 2 0 1 0 0 0 0, load 3 3 2 0 0 0 3 0 0 0, load 3 6 2 0 0 0 5 0 0 0, load 3 6 2 0 0 0 1 5 0 0,
      load 3 6 2 0 0 0 1 1 1 0, load 3 6 2 0 0 0 1 2 2 0, load 3 6 2 4 0 0 1 0 0 31, [0x0B, 0, 0], [0x0B, 1, 2],
      wipe 8 0 0 0 0 0, wipe 7 3 0xE8 0 0 0, wipe 7 0 0 5 0 0, wipe 7 0 0 0 61 0, wipe 7 0 0 0 0 2, [0x0F, 8], [0x13, 3],
      [0x13, 2, 2], [0x14]].all (answersOnly .badParameter)) = true ∧
      ([[6, 24, 0, 0, 0], [0x0C, 0, 0, 40, 0, 0, 0, 40, 25], load 3 6 2 1 25 0 5 0 0 0].all (answersOnly .badTimecode)) =
        true ∧
      ([[4, 30], [5, 3, 0x7F, 0xFF], [7, 99], chase 30 0x10 128 3 0 50, chase 2 0 8 0 3 0xE8, load 255 6 30 1 24 0 4 1 30 0,
        [0x0B, 1, 1], wipe 7 3 0xE7 4 0xC4 1, [0x0F, 7], [0x13, 2, 1]].all fun p => !answersOnly .badParameter p) = true := by
  decide +kernel

theorem witness_ConfigureMakesTheStationReady :
    let threaded : State := { bare with
      tsq := Tsq.reset true, pins := { bare.pins with threaded := true } }
    let bareTape : State := { bare with dhd := { bare.dhd with transportFitted := false } }
    let most : List Byte := [3, 255, 0x7F, 255, 255, 254, 255, 3, 255, 0x7F, 255, 30, 1, 3, 255]
    let answer (p : List Byte) : List (List Byte) := (after (.configure fromLine p) bare).lif.waiting.map (·.payload)
    configureBytes.length = 15 ∧ bare.hears fromLine 16 = true ∧ bare.dhd.config = none ∧ bare.tsq.reqMode = .noMode ∧
      bare.tsq.reqTrack = 0 ∧ bare.dhd.transportFitted = true ∧ bare.pins.threaded = false ∧ threaded.pins.threaded = true ∧
      threaded.pins.tally ≠ .stop ∧ bareTape.dhd.transportFitted = false ∧
      ((1 : Byte).toNat ≤ 3 ∧ 1 ≤ (60 : Byte).toNat ∧ ((0x1F : Byte) ++ (0x40 : Byte) : BitVec 16).toNat = 8000) ∧
      answer configureBytes = [[1, 0]] ∧ answer most = [[1, 0]] ∧
      ([(0, 0), (0, 4), (1, 0), (2, 0x80), (5, 1), (6, 0), (7, 4), (9, 3), (9, 0x80), (11, 0), (11, 31), (12, 2), (13, 4)].all
        fun x => answer (configureBytes.set x.1 x.2) == [[1, 8]]) = true ∧
      ready.dhd.config.isSome = true ∧ ready.controlledBy fromLine = true := by decide +kernel

theorem witness_StatusAndPeerQueryAnswer :
    ready.hears fromLine 3 = true ∧ ready.hears fromLine 2 = true ∧ 1 ≤ (30 : Byte).toNat ∧ (30 : Byte).toNat ≤ 30 ∧
      ready.peer 30 = none ∧ ready.isOwn 1 = true ∧ (withMaster ready).peer 2 = some (masterEntry 500) ∧
      (withMaster ready).isOwn 2 = false ∧
      (withMaster ready).peerQueryBytes 2 = [2, 1, 0, 1, 0, 0, 40, 10, 0, 3, 0, 0] ∧
      aged.peer 3 = some (masterEntry 492) ∧ (aged.ftu.counter - 492).toNat = 8 ∧
      aged.peerQueryBytes 3 = [3, 1, 8, 1, 0, 0, 40, 14, 0, 3, 0, 0] ∧ aged.peerQueryBytes 4 = [4, 2, 249, 0, 0, 0, 0, 0, 0, 3, 0, 0] ∧
      ((after (.statusPage0 fromLine [0]) ready).lif.waiting.map (·.payload)) =
        [[2, 0, 1, 1, 3, 2, 1, 0, 0, 40, 0, 0, 0, 0, 0, 0, 0, 0, 0, 0, 0, 0, 0, 0, 0]] ∧
      ((after (.statusPage1 fromLine []) (after (.abortSegment fromLine []) recording)).lif.waiting.map (·.payload)).getLast? =
        some [2, 0, 0x57, 2, 9, 7, 0, 0, 40, 0, 0, 0, 40, 1, 0, 29, 0, 128] := by decide +kernel

theorem witness_RestartStopsAllWork :
    lockedRecording.hears fromLine 1 = true ∧ lockedRecording.controlledBy fromLine = true ∧
      bare.hears fromLine 1 = true ∧ bare.dhd.config = none ∧ lockedRecording.dhd.channelFitted = true ∧
      lockedRecording.dhd.transportFitted = true ∧ lockedRecording.dhd.config.isSome = true ∧
      lockedRecording.tsq.state ≠ .unthreaded ∧ lockedRecording.tsq.state ≠ .faulted ∧
      (after (.restart fromLine []) lockedRecording).rcc.state = .idle ∧ faulted.tsq.state = .faulted ∧
      faulted.tsq.reqMode = .stop ∧ faulted.pins.tally ≠ .stop ∧
      (after (.restart fromLine []) faulted).tsq.recovery = .recoveryWait := by decide +kernel

theorem witness_TransportStopStopsTheDeck :
    recording.obeysTape fromLine 2 = true ∧ (recording.rcc.state = .recording → recording.rcc.record.isSome = true) ∧
      recording.rcc.state = .recording ∧ recording.tsq.state ≠ .unthreaded ∧ recording.tsq.state ≠ .faulted ∧
      noTape.obeysTape fromLine 2 = true ∧ noTape.tsq.state = .unthreaded ∧ faulted.obeysTape fromLine 2 = true ∧
      faulted.tsq.state = .faulted ∧ faulted.tsq.reqMode = .stop ∧ faulted.pins.tally ≠ .stop ∧
      recording.tsq.reqMode ≠ .stop ∧ recording.pins.tally ≠ .stop ∧
      ((after (.transportStop (.line 2 0 0xFF .even) []) recording).tsq.pendingOp.map fun o => (o.issuer, o.seq)) =
        some (.nobody, 0xFF) ∧
      ((after (.transportStop (.port 0) []) recording).tsq.pendingOp.map fun o => (o.issuer, o.seq)) = some (.nobody, 0) := by
  decide +kernel

theorem witness_TransportModesAreRequested :
    let full : State := { waiting with tsq := { waiting.tsq with slot := some held } }
    ready.dhd.config = some settings ∧ ready.obeysTape fromLine 4 = true ∧
      ((0x7F : Byte) ++ (0xFF : Byte) : BitVec 16) ≠ 0x8000#16 ∧ ready.tsq.state = .still ∧ ready.csv.state = .off ∧
      ready.tsq.wait = none ∧ ready.tsq.recovery = .idle ∧ ready.tsq.reqMode ≠ .play ∧ ready.pins.tally ≠ .play ∧
      playing.tsq.reqMode ≠ .still ∧ playing.pins.tally ≠ .still ∧ playing.csv.state = .off ∧ playing.tsq.state = .playing ∧
      waiting.tsq.wait ≠ none ∧ waiting.tsq.slot = none ∧ waiting.csv.state = .off ∧ full.tsq.slot ≠ none ∧
      noTape.tsq.state = .unthreaded ∧ (chasing .locked).csv.state ≠ .off ∧
      (chasing .locked).tsq.state ≠ .unthreaded ∧ recording.csv.state = .off ∧ recording.tsq.state = .recording ∧
      faulted.tsq.state = .faulted ∧ faulted.tsq.recovery = .idle := by decide +kernel

theorem witness_CuesApproachTheTarget :
    let adrift : State := { ready with psu := Psu.reset }
    ready.dhd.config = some settings ∧ ready.obeysTape fromLine 5 = true ∧ ready.tsq.state = .still ∧ ready.csv.state = .off ∧
      ready.tsq.wait = none ∧ ready.tsq.recovery = .idle ∧ ready.psu.source ≠ .noSource ∧ ready.own = some 256000 ∧
      labelCount settings.standard { hours := 0, minutes := 0, seconds := 40, frames := 1 } = some 1001 ∧
      128 < (diff settings.standard.day (1001 * 256) 256000).natAbs ∧ 128 ≤ settings.shuttleLimit ∧
      ready.tsq.reqMode ≠ .var ∧ ready.pins.tally ≠ .var ∧ ready.tsq.matched = true ∧ playing.tsq.reqMode ≠ .still ∧
      playing.pins.tally ≠ .still ∧ (diff settings.standard.day (1000 * 256) 256000).natAbs ≤ 128 ∧
      (0x9D : Byte).toInt = -99 ∧ adrift.psu.source = .noSource ∧
      ((after (.cueTo fromLine [0, 0, 40, 0]) ready).lif.waiting.map (·.payload)) = [[6, 0, 0, 0, 40, 0, 0]] := by
  decide +kernel

theorem witness_CuesGoOnAtFieldStarts :
    let z (m : ReqMode) (y : Bool) (t : Tally) (target n : Nat) (last : Int) : State :=
      { cueing with
        tsq := { cueing.tsq with
          reqMode := m, matched := y, pendingOp := some { seek .cueTo target with reversals := n, lastSign := some last } },
        pins := { cueing.pins with tally := t } }
    let u (s : State) : Tsq := (fieldAfter fieldPins s).tsq
    (z .var true .var 2000 0 1).deckAlone ∧ 128 ≤ settings.shuttleLimit ∧
      (u (z .var true .var 2000 7 (-1))).reqSpeed = 8000 ∧
      (u (z .var true .var 2000 7 (-1))).pendingOp.map (·.reversals) = some 8 ∧
      (u (z .var true .var 999 8 (-1))).reqSpeed = -128 ∧ (u (z .still false .var 2000 0 1)).reqMode = .still ∧
      (u (z .still true .still 2000 0 1)).wait = some { settle := 0, busy := 0 } ∧
      (u (z .var true .var 1000 0 1)).reqMode = .still ∧ (u (z .still true .still 1000 0 1)).state = .still := by
  decide +kernel

/-- The bytes that follow CHASE's operation byte for `chaseOf2`. -/
def chaseBytes : List Byte := [2, 0, 0, 0, 0, 16, 1, 1, 0, 250, 1, 0]

theorem witness_ChaseIsEnabledAndDisabled :
    let s := withMaster shuttling
    s.dhd.config = some settings ∧ chaseBytes.length = 12 ∧ s.obeysTape fromLine 14 = true ∧ 1 ≤ (2 : Byte).toNat ∧
      (2 : Byte).toNat ≤ 30 ∧ 2 * (0 : Int).natAbs < settings.standard.day ∧ 8 ≤ (16 : Byte).toNat ∧ (16 : Byte).toNat ≤ 128 ∧
      (1 : Byte).toNat ≤ 3 ∧ ((0 : Byte) ++ (250 : Byte) : BitVec 16).toNat = 250 ∧
      (after (.chaseEnable fromLine chaseBytes) s).csv.record = some chaseOf2 ∧ s.isOwn 2 = false ∧ s.isOwn 1 = true ∧
      s.tsq.state ≠ .unthreaded ∧ s.psu.source ≠ .noSource ∧ s.csv.state = .off ∧ s.tsq.state ≠ .recording ∧
      s.tsq.state ≠ .ejecting ∧ s.tsq.state ≠ .faulted ∧ s.rcc.state ≠ .recording ∧ s.tsq.pendingOp = none ∧
      s.tsq.slot = none ∧ s.tsq.recovery = .idle ∧ (s.view 2).usable = true ∧ (s.view 2).projection = some 258560 ∧
      s.own = some 256000 ∧ (shuttling.view 2).usable = false ∧ noTape.tsq.state = .unthreaded ∧
      recording.tsq.state = .recording ∧ recording.psu.source ≠ .noSource ∧ recording.csv.state = .off ∧
      faulted.tsq.state = .faulted ∧ (chasing .pulling).csv.state ≠ .off ∧ (chasing .pulling).rcc.state ≠ .recording ∧
      (chasing .pulling).tsq.reqMode ≠ .still ∧ (chasing .pulling).pins.tally ≠ .still := by decide +kernel

theorem witness_ChaseIsReplacedAndEngagedFromACue :
    let given := Instr.chaseEnable fromLine chaseBytes
    let seeking := withMaster cueing
    let parked : State := { chasing .followStill with tsq := { (chasing .followStill).tsq with reqMode := .still } }
    let failed : State := { chasing .failed with
      tsq := { (chasing .failed).tsq with reqMode := .still, matched := false, wait := some { settle := 3, busy := 0 } } }
    let rests (n : Nat) : State :=
      let s := withMaster ready
      { s with
        ptb := { s.ptb with views := s.ptb.views.set 1 { masterView with speed := 31, projection := some n } },
        pins := { s.pins with tally := .var }, tsq := { s.tsq with reqMode := .var } }
    let released (s : State) : Tsq := (after (.chaseDisable fromLine []) s).tsq
    seeking.csv.state = .off ∧ (seeking.tsq.pendingOp.map (·.kind)) = some .cueTo ∧ seeking.tsq.slot = none ∧
      seeking.tsq.recovery = .idle ∧ seeking.tsq.state = .cueing ∧ (after given seeking).tsq.pendingOp = none ∧
      (after given seeking).tsq.state = .chasing ∧
      ((after given seeking).lif.waiting.map (·.payload)) = [[6, 0x14], [8, 0]] ∧
      lockedRecording.csv.state = .locked ∧ lockedRecording.tsq.slot = none ∧ lockedRecording.tsq.recovery = .idle ∧
      lockedRecording.tsq.pendingOp = none ∧ lockedRecording.rcc.record.isSome = true ∧
      lockedRecording.obeysTape fromLine 14 = true ∧ (after given lockedRecording).holdsEvent .lockLost = true ∧
      (after given lockedRecording).rcc.state = .gap ∧ (after given lockedRecording).csv.engagedBy = .directive 8 ∧
      (after given (chasing .locked)).holdsEvent .lockLost = true ∧ (after given (chasing .pulling)).holdsEvent .lockLost = false ∧
      (after given (rests 256128)).tsq.reqMode = .still ∧ (after given (rests 256129)).tsq.reqSpeed = 128 ∧
      (after given (rests 256128)).csv.state = .followStill ∧ parked.csv.state ≠ .off ∧ parked.tsq.pendingOp = none ∧
      (released parked).state = .still ∧ (released parked).wait = none ∧ (released failed).state = .still ∧
      (released failed).wait = some { settle := 3, busy := 0 } ∧
      (after (.chaseDisable fromLine []) lockedRecording).rcc.state = .gap ∧
      (after (.chaseDisable fromLine []) lockedRecording).holdsEvent .lockLost = false := by decide +kernel

theorem witness_ChaseStoreKeepsTheRecord :
    let bounds : List Byte := [30, 0xEF, 0x85, 0x40, 1, 128, 3, 3, 3, 0xE8, 3, 3]
    ready.dhd.config = some settings ∧ chaseBytes.length = 12 ∧ ready.obeysTape fromLine 14 = true ∧
      (after (.chaseStore fromLine chaseBytes) ready).csv.record = some chaseOf2 ∧
      (after (.chaseStore fromLine bounds) ready).csv.record =
        some { master := 30, offset := -276479999, lockWindow := 128, blankingCount := 16, pullLimit := 3,
               pullTimeLimit := 1000, retries := 3, rerollOffTime := 200 } ∧
      (after (.chaseStore fromLine (bounds.set 4 0)) ready).csv.record = none := by decide +kernel

/-- The bytes that follow LOAD_CUE's type byte: a PULSE of output 4 on the own tape, triggered at 00:00:40:00. -/
def cueBytes : List Byte := [255, 6, 0, 1, 0, 0, 40, 0, 0, 0, 0, 0, 4, 0, 0, 0, 0, 0, 0]

/-- The same for a RECORD_IN on the own tape of tracks V and A1. -/
def recordBytes : List Byte := [255, 0, 0, 1, 0, 0, 40, 0, 3, 0, 0, 0, 0, 0, 0, 0, 0, 0, 0]

def loaded : Cue := { cue 255 false with trigger := some 1000 }

theorem witness_LoadCueJoinsTheList :
    let full := withCues ((List.range 32).map fun i => cue (i + 1) false) ready
    let bounds : List Byte := [1, 0, 30, 7, 23, 59, 59, 24, 31, 0, 1, 1, 0, 4, 0, 2, 3, 30, 30]
    ready.dhd.config = some settings ∧ cueBytes.length = 19 ∧ ready.obeys fromLine 20 = true ∧
      ready.dhd.transportFitted = true ∧ ready.dhd.channelFitted = true ∧ ready.cuesLegal ∧
      (after (.loadCue fromLine cueBytes) ready).cul.cues = [loaded] ∧
      labelCount settings.standard ⟨0, 0, 40, 0⟩ = some 1000 ∧ ready.isOwn 0 = false ∧ ([] : List Byte).Nodup ∧
      (after (.loadCue fromLine bounds) ready).cul.cues =
        [{ id := 1, action := .recordIn 31 (some 1) .lenient, reference := 30, trigger := some 2159999, armed := false,
           lockList := [0, 2, 3, 30], notify := some 30 }] ∧
      full.cuesLegal ∧ full.cul.cues.length = 32 ∧ (∀ x ∈ full.cul.cues, x.id ≠ loaded.id) ∧
      (withCues [cue 255 true] ready).cuesLegal ∧ (withCues [cue 255 false] ready).cul.cues = [] ++ cue 255 false :: [] ∧
      (withZones [zoneAt 1000 1001] ready).rcc.zones = [zoneAt 1000 1001] ∧
      (after (.loadCue fromLine recordBytes) ready).cul.cues = [{ loaded with action := .recordIn 3 none .strict }] ∧
      (after (.loadCue fromLine recordBytes) (withZones [zoneAt 1000 1001] ready)).cul.cues = [] := by decide +kernel

theorem witness_DropCueRemovesTheCue :
    let s := withCues [cue 1 false, cue 255 true] ready
    s.obeys fromLine 2 = true ∧ (∃ c ∈ s.cul.cues, c.id = (255 : Byte).toNat) ∧ (255 : Byte) ≠ 0 ∧
      (∀ c ∈ s.cul.cues, c.id ≠ (2 : Byte).toNat) := by decide +kernel

theorem witness_RollWaitsForItsStart :
    let odd : Via := .line 2 0 9 .odd
    ready.obeysTape fromLine 3 = true ∧ ready.obeysTape odd 3 = true ∧ ready.obeysTape (.port 0) 3 = true ∧
      (1 : Byte).toNat ≤ 1 ∧ (0 : Byte).toNat < 1 ∧ (1 : Byte).toNat < 2 ∧ Parity.even = ready.ftu.parity ∧
      ready.ftu.counter + (1 : Byte).setWidth 32 ≠ ready.ftu.counter ∧
      ready.ftu.counter - 1 + (1 : Byte).setWidth 32 = ready.ftu.counter ∧ ready.tsq.state = .still ∧
      ready.tsq.reqMode ≠ .play ∧ ready.pins.tally ≠ .play ∧
      (after (.roll odd [1, 0]) ready).tsq.pendingOp.map (·.seq) = some 9 ∧
      (after (.roll (.port 0xFF) [255, 1]) ready).cul.roll = some { start := 755, engage := true, seq := 0xFF } := by
  decide +kernel

theorem witness_ZonesAreLoadedAndCleared :
    let seven := withZones ((List.range 7).map fun i => zoneAt (100 * i + 2000) (100 * i + 2010)) ready
    let full := withZones ((List.range 8).map fun i => zoneAt (100 * i + 2000) (100 * i + 2010)) ready
    ready.dhd.config = some settings ∧ ready.obeysTape fromLine 9 = true ∧ ready.obeysTape fromLine 1 = true ∧
      labelCount settings.standard ⟨0, 0, 40, 0⟩ = some 1000 ∧ labelCount settings.standard ⟨0, 0, 40, 1⟩ = some 1001 ∧
      labelCount settings.standard ⟨0, 0, 40, 25⟩ = none ∧ 8 ≤ full.rcc.zones.length ∧ seven.rcc.zones.length < 8 ∧
      (full.rcc.zones.all fun z => decide (z.start < z.stop) && decide (1001 * 256 ≤ z.start)) = true ∧
      recording.rcc.state = .recording ∧ recording.own = some 256000 ∧ 1000 * 256 ≤ 256000 ∧ 256000 < 1001 * 256 ∧
      (withZones [zoneAt 1000 1001] ready).rcc.zones = [zoneAt 1000 1001] := by decide +kernel

theorem witness_TransitionIsSetAndTaken :
    let cut := engine .preset (preset .cut 999 60) 0
    let mix := engine .preset (preset .mix 1 (-60)) 0
    ready.obeysChannel fromLine 8 = true ∧ ready.ten.state = .atRest ∧ (7 : Byte).toNat ≤ 7 ∧
      (3 : Byte).toNat * 256 + (231 : Byte).toNat ≤ 999 ∧ -60 ≤ (0xC4 : Byte).toInt ∧ (0x3C : Byte).toInt ≤ 60 ∧
      (1 : Byte).toNat ≤ 1 ∧ (4 : Byte).toNat ≤ 4 ∧
      [Pattern.leftRight, .rightLeft, .topDown, .splitH, .boxOut][(4 : Byte).toNat]? = some .boxOut ∧
      cut.obeysChannel fromLine 1 = true ∧ cut.ten.state = .preset ∧ cut.ten.preset = some (preset .cut 999 60) ∧
      (preset .cut 999 60).kind = .cut ∧ mix.ten.preset = some (preset .mix 1 (-60)) ∧ (preset .mix 1 (-60)).kind ≠ .cut ∧
      1 ≤ (preset .mix 1 (-60)).duration ∧ (engine .lever (preset .mix 1 0) 0).ten.state = .lever := by decide +kernel

theorem witness_SelectASetsTheABus :
    ready.obeysChannel fromLine 2 = true ∧ (7 : Byte).toNat ≤ 7 ∧ ready.ten.state = .atRest ∧
      (engine .paused (preset .mix 1 0) 0).obeysChannel fromLine 2 = true ∧
      (engine .paused (preset .mix 1 0) 0).ten.state = .paused := by decide +kernel

theorem witness_PauseResumeAndAbort :
    let s := engine .lever (preset .mix 1 0) 1
    s.obeysChannel fromLine 1 = true ∧ s.obeysChannel fromLine 3 = true ∧ s.ten.state = .lever ∧
      s.ten.preset = some (preset .mix 1 0) ∧ ready.ten.state = .atRest ∧ ready.obeysChannel fromLine 3 = true := by
  decide +kernel

theorem witness_AbortEndsOperationAndSegment :
    let resting := awaiting .cueing .still (some (seek .cueTo 1001)) none
    let jog : State := { ejecting with pins := { ejecting.pins with tally := .play } }
    cueing.obeysTape fromLine 2 = true ∧ (cueing.tsq.pendingOp.map (·.kind)) = some .cueTo ∧ cueing.tsq.slot = none ∧
      cueing.tsq.reqMode ≠ .still ∧ cueing.pins.tally ≠ .still ∧ (jog.tsq.pendingOp.map (·.kind)) = some .eject ∧
      jog.tsq.reqMode ≠ .stop ∧ jog.pins.tally ≠ .stop ∧ jog.tsq.slot = none ∧ ready.tsq.pendingOp = none ∧
      ready.tsq.slot = none ∧ ({ ready with tsq := { ready.tsq with slot := some held } } : State).tsq.slot = some held ∧
      recording.obeysTape fromLine 2 = true ∧ recording.rcc.state = .recording ∧ recording.rcc.record = some segment ∧
      recording.own = some 256000 ∧ recording.dhd.config = some settings ∧ recording.tsq.state = .recording ∧
      recording.tsq.slot = none ∧ recording.tsq.reqMode = .record ∧ recording.tsq.recovery = .idle ∧
      ready.rcc.state ≠ .recording ∧ resting.tsq.slot = none ∧ resting.tsq.recovery = .idle ∧
      (after (.abortTransportOp fromLine []) resting).tsq.wait = some { settle := 0, busy := 0 } := by decide +kernel

theorem witness_AllStopEmitsTheSignal :
    ready.dhd.config.isSome = true ∧ ready.lif.listenOnly = false ∧ ready.lif.watch = .steady ∧
      ready.lpt.rxQueue.length < 8 ∧ (listening recording).dhd.config.isSome = true ∧
      (listening recording).lif.listenOnly = true ∧ recording.rcc.state = .recording ∧
      recording.rcc.record.isSome = true ∧ ready.obeys fromLine 1 = true := by decide +kernel

/-! ### The local port -/

theorem witness_PortAccessesActOnThePort :
    let m : RxMsg := { bytes := [1, 2, 3, 0], place := 4 }
    let n : RxMsg := { bytes := [1, 2, 3, 0], place := 3 }
    (withBuffer (List.replicate 34 0) ready).lpt.buffer.length < 35 ∧
      35 ≤ (withBuffer (List.replicate 35 0) ready).lpt.buffer.length ∧ (withRx [m] ready).lpt.rxQueue = m :: [] ∧
      m.bytes.length ≤ m.place ∧ (withRx [n] ready).lpt.rxQueue = n :: [] ∧ n.bytes[n.place]? = some 0 ∧
      ready.lpt.rxQueue = [] ∧ (0 : Byte) ≠ 1 ∧ (0 : Byte) ≠ 2 ∧ (0 : Byte) ≠ 3 := by decide +kernel

theorem witness_SendHandsOverTheBuffer :
    let own := withBuffer [1, 9, 2, 0x0F, 7] ready
    let line := withBuffer [30, 9, 32] ready
    let roll := withBuffer [2, 9, 3, 0x0B, 2, 0] ready
    (withBuffer [1, 9] ready).lpt.buffer.length < 3 ∧ own.lpt.overrun = false ∧
      own.lpt.buffer = 1 :: 9 :: 2 :: [0x0F, 7] ∧ own.isOwn (1 : Byte).toNat = true ∧
      directiveOf (.selectA (.port 9) [7]) = some (.port 9, [0x0F, 7]) ∧ (30 : Byte).toNat < 31 ∧ (32 : Byte).toNat ≤ 32 ∧
      31 ≤ (31 : Byte).toNat ∧ 32 < (33 : Byte).toNat ∧ line.lpt.buffer = 30 :: 9 :: 32 :: [] ∧
      ([] : List Byte).length ≠ (32 : Byte).toNat ∧ roll.lpt.buffer = 2 :: 9 :: 3 :: [0x0B, 2, 0] ∧
      roll.isOwn (2 : Byte).toNat = false ∧ ¬(2 : Byte).toNat < 2 ∧ (1 : Byte).toNat < 2 ∧ roll.lif.listenOnly = false ∧
      roll.lif.nonAnnouncements < 7 ∧
      7 ≤ (queued (List.replicate 7 (message .report 0 [5, 0])) roll).lif.nonAnnouncements ∧
      (after .send roll).lif.waiting = [{ kind := .directive, dest := 2, seq := 9, payload := [0x0B, 2, 0], age := 0 }] ∧
      (after .send own).ten.aSel = 7 := by decide +kernel

end Sys2Proof.Tests
end

section
/-! SUPPORT. CHASE STORE (R105): the fields of a chase record as the bytes spell them, the way of the directive to the Chase Servo,
and the record it stores. -/

namespace Sys2Proof

/-- A byte put behind a word is its last eight bits. -/
theorem toNat_append_byte {w : Nat} (x : BitVec w) (b : Byte) : (x ++ b).toNat = x.toNat * 256 + b.toNat := by
  rw [BitVec.toNat_append, ← Nat.shiftLeft_add_eq_or_of_lt b.isLt, Nat.shiftLeft_eq]

/-- Two bytes side by side, most significant first, are the field of 16 bits they hold. -/
theorem natAt16_eq_append (p : List Byte) (i : Nat) : natAt16 p i = (byteAt p i ++ byteAt p (i + 1) : BitVec 16).toNat :=
  (toNat_append_byte _ _).symm

/-- Four bytes side by side, most significant first, are the signed field of 32 bits they hold. -/
theorem intAt32_eq_append (p : List Byte) (i : Nat) :
    intAt32 p i = (byteAt p i ++ byteAt p (i + 1) ++ byteAt p (i + 2) ++ byteAt p (i + 3) : BitVec 32).toInt := by
  have hbits : BitVec.ofNat 32 (natAt32 p i) =
      (byteAt p i ++ byteAt p (i + 1) ++ byteAt p (i + 2) ++ byteAt p (i + 3) : BitVec 32) := by
    apply BitVec.eq_of_toNat_eq
    simp only [BitVec.toNat_ofNat, toNat_append_byte, natAt32, natAt16, Nat.add_assoc, Nat.reduceAdd]
    omega
  rw [intAt32, hbits]

end Sys2Proof

namespace Sys2Proof.Machine

/-- The chase record the bytes of the layout spell, whatever their ranges (R103). -/
def ChaseRecord.ofBytes (master o3 o2 o1 o0 window blanking pull l1 l0 retries off : Byte) : ChaseRecord :=
  { master := master.toNat, offset := (o3 ++ o2 ++ o1 ++ o0 : BitVec 32).toInt, lockWindow := window.toNat,
    blankingCount := 2 * 2 ^ blanking.toNat, pullLimit := pull.toNat, pullTimeLimit := (l1 ++ l0 : BitVec 16).toNat,
    retries := retries.toNat, rerollOffTime := 25 * 2 ^ off.toNat }

/-- Every field of the chase record's bytes is in its range (R68, R103). -/
def chaseBytesInRange (std : Standard) (master o3 o2 o1 o0 window blanking pull l1 l0 retries off : Byte) : Prop :=
  1 ≤ master.toNat ∧ master.toNat ≤ 30 ∧ 2 * (o3 ++ o2 ++ o1 ++ o0 : BitVec 32).toInt.natAbs < std.day ∧
    8 ≤ window.toNat ∧ window.toNat ≤ 128 ∧ blanking.toNat ≤ 3 ∧ pull.toNat ≤ 3 ∧ 50 ≤ (l1 ++ l0 : BitVec 16).toNat ∧
    (l1 ++ l0 : BitVec 16).toNat ≤ 1000 ∧ retries.toNat ≤ 3 ∧ off.toNat ≤ 3

section ChaseBytes

variable (std : Standard) (type option master o3 o2 o1 o0 window blanking pull l1 l0 retries off : Byte) (rest : List Byte)

/-- Behind the type and the option, bytes in range are read as the record they spell. -/
theorem readChase_of_inRange (h : chaseBytesInRange std master o3 o2 o1 o0 window blanking pull l1 l0 retries off) :
    readChase std
        (type :: option :: master :: o3 :: o2 :: o1 :: o0 :: window :: blanking :: pull :: l1 :: l0 :: retries :: off :: rest) =
      some (ChaseRecord.ofBytes master o3 o2 o1 o0 window blanking pull l1 l0 retries off) := by
  rw [readChase, natAt16_eq_append, intAt32_eq_append]
  exact if_pos h

/-- A CHASE STORE with its bytes in range passes the parameter check, from the line and from the port (R68). -/
theorem parseParams_chaseStore (own : Option (BitVec 5)) (fromLine : Bool)
    (h : chaseBytesInRange std master o3 o2 o1 o0 window blanking pull l1 l0 retries off) :
    parseParams own (some std) fromLine
        (0x08 :: 1 :: master :: o3 :: o2 :: o1 :: o0 :: window :: blanking :: pull :: l1 :: l0 :: retries :: off :: rest) =
      .ok (.chaseStore (ChaseRecord.ofBytes master o3 o2 o1 o0 window blanking pull l1 l0 retries off)) := by
  have hread := readChase_of_inRange std 0x08 1 master o3 o2 o1 o0 window blanking pull l1 l0 retries off rest h
  unfold parseParams
  rw [if_neg (by simp [requiredLength, byteAt])]
  change parseChase std (0x08 :: 1 :: master :: _) = _
  unfold parseChase
  rw [hread]
  rfl

end ChaseBytes

/-- The way a directive came to the station changes nothing of its own number. -/
theorem State.isOwn_heard (via : Via) (s : State) (n : Nat) : (s.heard via).isOwn n = s.isOwn n := by
  cases via <;> rfl

/-- What the Chase Servo makes of a record to store, as it is reported: refused for the own number as master or while the chase is
active, and stored otherwise (R105). -/
theorem State.storeChase_reply (r : ChaseRecord) (i : Issuer) (q type : Byte) (s : State) :
    (s.storeChase r).1.reply i q type (s.storeChase r).2 =
      if s.isOwn r.master then s.answer i q type .selfMaster []
      else if s.csv.state ≠ .off then s.answer i q type .chaseActive []
      else { s with csv := { s.csv with record := some r } }.answer i q type .done [] := by
  unfold State.storeChase
  split
  · rfl
  · split <;> rfl

/-- A CHASE STORE that a station with a transport obeys, its bytes in range, comes to the Chase Servo as the record they spell. -/
theorem State.takeDirective_chaseStore (via : Via) (s : State) (c : Settings)
    (master o3 o2 o1 o0 window blanking pull l1 l0 retries off : Byte) (rest : List Byte) (hc : s.dhd.config = some c)
    (hobeys : s.obeysTape via (rest.length + 14) = true)
    (h : chaseBytesInRange c.standard master o3 o2 o1 o0 window blanking pull l1 l0 retries off) :
    let stored := (s.heard via).storeChase
      (ChaseRecord.ofBytes master o3 o2 o1 o0 window blanking pull l1 l0 retries off)
    s.takeDirective via
        (0x08 :: 1 :: master :: o3 :: o2 :: o1 :: o0 :: window :: blanking :: pull :: l1 :: l0 :: retries :: off :: rest) =
      stored.1.reply (Via.issuer via) (Via.seq via) 0x08 stored.2 := by
  obtain ⟨hobey, hfitted⟩ := (s.obeysTape_iff via _).mp hobeys
  have hstd : s.standard = some c.standard := by simp [State.standard, hc]
  rw [s.takeDirective_of_obeys via 0x08 _ (rest.length + 14) (by simp) hobey rfl (fun _ => hfitted)
    (by simp [needsChannel, byteAt]), hstd, parseParams_chaseStore _ _ _ _ _ _ _ _ _ _ _ _ _ _ _ _ h]
  rfl

end Sys2Proof.Machine

open Sys2Proof Sys2Proof.Machine

/-- Settles O49: the directive comes to the Chase Servo as the record its bytes spell, and the servo's three answers are those of
R105. -/
theorem chaseStoreKeepsTheRecord : Obligations.ChaseStoreKeepsTheRecord := by
  intro via master o3 o2 o1 o0 window blanking pull l1 l0 retries off rest s c hc hobeys offset limit hm1 hm30 ho hw8 hw128 hb hp
    hl50 hl1000 hr hf r given
  have hrange : chaseBytesInRange c.standard master o3 o2 o1 o0 window blanking pull l1 l0 retries off :=
    ⟨hm1, hm30, ho, hw8, hw128, hb, hp, hl50, hl1000, hr, hf⟩
  have hexec : exec given s = .next (s.takeDirective via
      (0x08 :: 1 :: master :: o3 :: o2 :: o1 :: o0 :: window :: blanking :: pull :: l1 :: l0 :: retries :: off :: rest)) := rfl
  rw [hexec, s.takeDirective_chaseStore via c master o3 o2 o1 o0 window blanking pull l1 l0 retries off rest hc hobeys hrange,
    State.storeChase_reply, State.isOwn_heard, State.heard_csv]
  rfl

end

section
/-! SUPPORT. DROP_CUE (R125): the way of the directive to the cue list, and the three answers of the list. -/

namespace Sys2Proof.Machine

/-- A cue with an id is found exactly when one is in the list. -/
theorem State.findCue_isSome_iff (id : Nat) (s : State) :
    (s.findCue id).isSome = true ↔ ∃ c ∈ s.cul.cues, c.id = id := by
  simp [State.findCue]

/-- A cue list set after a directive is heard takes the place of the one the station had before. -/
theorem State.setCues_heard (cs : List Cue) (via : Via) (s : State) :
    (s.heard via).setCues cs = { s.heard via with cul := { s.cul with cues := cs } } := by
  rw [State.setCues, State.heard_cul]

/-- Id 0 removes every cue, and none is missed from an empty list (R125). -/
theorem State.dropCue_zero (s : State) : s.dropCue 0 = (s.setCues [], replyOf .done) := rfl

/-- The id of a cue in the list leaves the cues with another id, in their order (R125). -/
theorem State.dropCue_present {id : Nat} {s : State} (h0 : id ≠ 0) (h : ∃ c ∈ s.cul.cues, c.id = id) :
    s.dropCue id = (s.setCues (s.cul.cues.filter fun c => decide (c.id ≠ id)), replyOf .done) := by
  have others : (fun c : Cue => c.id != id) = fun c => decide (c.id ≠ id) := by
    funext c
    rw [bne, beq_eq_decide, decide_not]
  rw [State.dropCue, if_neg h0, if_pos ((s.findCue_isSome_iff id).mpr h), others]

/-- An id that no cue in the list has is refused and changes nothing (R125). -/
theorem State.dropCue_absent {id : Nat} {s : State} (h0 : id ≠ 0) (h : ∀ c ∈ s.cul.cues, c.id ≠ id) :
    s.dropCue id = (s, replyOf .noSuchCue) := by
  have missing : ¬ (s.findCue id).isSome = true := fun found =>
    have ⟨c, hc, hid⟩ := (s.findCue_isSome_iff id).mp found
    h c hc hid
  rw [State.dropCue, if_neg h0, if_neg missing]

/-- A DROP_CUE that a station obeys comes to the cue list with the id its byte spells; it needs neither a transport nor a channel
(R65, R68). -/
theorem exec_dropCue_of_obeys (via : Via) (id : Byte) (s : State) (hobeys : s.obeys via 2 = true) :
    exec (.dropCue via [id]) s =
      .next (((s.heard via).dropCue id.toNat).1.reply (Via.issuer via) (Via.seq via) 0x0A
        ((s.heard via).dropCue id.toNat).2) := by
  have hexec : exec (.dropCue via [id]) s = .next (s.takeDirective via [0x0A, id]) := rfl
  obtain ⟨c, hc⟩ := State.config_of_obeys hobeys
  have hstd : s.standard = some c.standard := by simp [State.standard, hc]
  rw [hexec, s.takeDirective_of_obeys via 0x0A [id] 2 rfl hobeys rfl (by simp [needsTransport, byteAt])
    (by simp [needsChannel, byteAt]), hstd]
  rfl

end Sys2Proof.Machine

open Sys2Proof Sys2Proof.Machine

/-- Settles O51: the directive comes to the cue list with its id, and the list's three answers are those of R125. -/
theorem dropCueRemovesTheCue : Obligations.DropCueRemovesTheCue := by
  intro via id s hobeys
  rw [exec_dropCue_of_obeys via id s hobeys]
  have toNat_ne_zero (h0 : id ≠ 0) : id.toNat ≠ 0 := BitVec.toNat_ne.mp h0
  refine ⟨fun h0 => ?everyCue, fun h0 present => ?theCue, fun h0 absent => ?noCue⟩
  case everyCue =>
    have hid : id.toNat = 0 := congrArg BitVec.toNat h0
    rw [hid, State.dropCue_zero, State.setCues_heard]
    rfl
  case theCue =>
    rw [← State.heard_cul via s] at present
    rw [State.dropCue_present (toNat_ne_zero h0) present, State.setCues_heard, State.heard_cul]
    rfl
  case noCue =>
    rw [← State.heard_cul via s] at absent
    rw [State.dropCue_absent (toNat_ne_zero h0) absent]
    rfl

end

section
/-! SUPPORT. SELECT_A (R157): the way of the directive to the transition engine, and the engine's two answers. -/

namespace Sys2Proof.Machine

/-- A SELECT_A with its source in range passes the parameter check at a station with a standard (R68). -/
theorem parseParams_selectA (own : Option (BitVec 5)) (std : Standard) (fromLine : Bool) {source : Byte}
    (h : source.toNat ≤ 7) :
    parseParams own (some std) fromLine [0x0F, source] = .ok (.selectA source.toNat) := by
  have inRange : ¬ 7 < source.toNat := Nat.not_lt.mpr h
  calc parseParams own (some std) fromLine [0x0F, source]
      = if 7 < source.toNat then .bad .badParameter else .ok (.selectA source.toNat) := rfl
    _ = .ok (.selectA source.toNat) := if_neg inRange

/-- With no transition on air the source goes on the A bus (R157). -/
theorem State.selectSource_offAir {source : Nat} {s : State} (h : s.ten.state = .atRest ∨ s.ten.state = .preset) :
    s.selectSource source = (s.setTen { s.ten with aSel := source }, replyOf .done) := by
  have offAir : ¬ s.ten.state.onAir = true := by
    obtain h | h := h <;> simp [h, TransitionState.onAir]
  exact if_neg offAir

/-- A transition on air refuses the source and changes nothing (R157). -/
theorem State.selectSource_onAir {source : Nat} {s : State}
    (h : s.ten.state = .running ∨ s.ten.state = .paused ∨ s.ten.state = .lever) :
    s.selectSource source = (s, replyOf .transitionActive) := by
  have onAir : s.ten.state.onAir = true := by
    obtain h | h | h := h <;> simp [h, TransitionState.onAir]
  exact if_pos onAir

/-- A SELECT_A that a station with a transition channel obeys, its source in range, comes to the transition engine with the source
its byte spells (R65, R68). -/
theorem exec_selectA_of_obeysChannel (via : Via) {source : Byte} (s : State) (hobeys : s.obeysChannel via 2 = true)
    (hsource : source.toNat ≤ 7) :
    exec (.selectA via [source]) s =
      .next (((s.heard via).selectSource source.toNat).1.reply (Via.issuer via) (Via.seq via) 0x0F
        ((s.heard via).selectSource source.toNat).2) := by
  have hexec : exec (.selectA via [source]) s = .next (s.takeDirective via [0x0F, source]) := rfl
  obtain ⟨hobey, hfitted⟩ := (s.obeysChannel_iff via _).mp hobeys
  obtain ⟨c, hc⟩ := State.config_of_obeys hobey
  have hstd : s.standard = some c.standard := by simp [State.standard, hc]
  rw [hexec, s.takeDirective_of_obeys via 0x0F [source] 2 rfl hobey rfl (by simp [needsTransport, byteAt])
    (fun _ => hfitted), hstd, parseParams_selectA _ _ _ hsource]
  rfl

end Sys2Proof.Machine

open Sys2Proof Sys2Proof.Machine

/-- Settles O55: the directive comes to the transition engine with its source, and the engine's answer, on air and off it, is that
of R157. -/
theorem selectASetsTheABus : Obligations.SelectASetsTheABus := by
  intro via source s hobeys hsource
  rw [exec_selectA_of_obeysChannel via s hobeys hsource]
  refine ⟨fun offAir => ?setAtOnce, fun onAir => ?refused⟩
  case setAtOnce =>
    rw [← State.heard_ten via s] at offAir
    rw [State.selectSource_offAir offAir, State.heard_ten]
    rfl
  case refused =>
    rw [← State.heard_ten via s] at onAir
    rw [State.selectSource_onAir onAir]
    rfl

end

section
/-! SUPPORT. What the work of the transport, the chase and the segment is made of: single changes of the state, each with what it
keeps of the invariants, and the runs of such changes. Each operation of these blocks is such a run; an invariant that every single
change keeps is kept by every operation. -/

namespace Sys2Proof.Machine

/-- One change that the work of the transport, the chase and the segment is made of. -/
inductive State.Touch : State → State → Prop
  | tsq (s : State) (q : Tsq) (speed : s.speedLegal → ({ s with tsq := q } : State).speedLegal) : s.Touch { s with tsq := q }
  | csv (s : State) (c : Csv)
      (stored : (s.csv.state ≠ .off → s.csv.record.isSome = true) → c.state ≠ .off → c.record.isSome = true)
      (master : s.masterLegal → ({ s with csv := c } : State).masterLegal) (record : c.record = s.csv.record) :
      s.Touch { s with csv := c }
  | rcc (s : State) (r : Rcc) (zones : r.zones = s.rcc.zones)
      (entered : r.state = .recording → s.nearZone = false ∨ (s.rcc.state = .recording ∧ r.fresh = s.rcc.fresh)) :
      s.Touch { s with rcc := r }
  | latch (s : State) (e : Event) : s.Touch (s.latch e)
  | sense (s : State) (r : Sense) : s.Touch (s.writeSense r)
  | send (s : State) (m : TxMsg) (kind : m.kind = .report ∨ m.kind = .notice) (age : m.age = 0) : s.Touch (s.txJoin m)
  | receive (s : State) (bytes : List Byte) : s.Touch (s.rxJoin bytes)

/-- A run of such changes. -/
abbrev State.Work : State → State → Prop := Relation.ReflTransGen State.Touch

theorem State.Work.trans {s t u : State} (h : s.Work t) (k : t.Work u) : s.Work u := Relation.ReflTransGen.trans h k

/-- What every single change keeps, every run of them keeps. -/
theorem State.Work.keeps {P : State → Prop} (h : ∀ s t : State, s.Touch t → P s → P t) {s t : State} (w : s.Work t)
    (hs : P s) : P t := by
  induction w with
  | refl => exact hs
  | tail _ k ih => exact h _ _ k ih

theorem State.Work.ite {s a b : State} {p : Prop} [Decidable p] (h : s.Work a) (k : s.Work b) :
    s.Work (if p then a else b) := by split <;> assumption

/-- What every single change leaves as it stands, every run of them leaves so. -/
theorem State.Work.leaves {α : Type} {f : State → α} (h : ∀ s t : State, s.Touch t → f t = f s) {s t : State} (w : s.Work t) :
    f t = f s := w.keeps (P := fun u => f u = f s) (fun _ _ k hs => (h _ _ k).trans hs) rfl

theorem State.Touch.by {s t : State} (h : s.Touch t) : s.Bystanders t := by
  cases h with
  | tsq => exact s.tsq_by _
  | csv => exact s.csv_by _
  | rcc => exact s.rcc_by _
  | latch => exact s.latch_by _
  | sense => exact s.writeSense_by _
  | send => exact s.txJoin_by _
  | receive => exact s.rxJoin_by _

theorem State.Work.by {s t : State} (w : s.Work t) : s.Bystanders t :=
  w.keeps (fun _ _ k h => h.trans k.by) (.refl s)

/-- What the blocks' work leaves beside the bystanders: the position, the cue list, the transition, the lines and the zones. -/
theorem State.Touch.frame {s t : State} (h : s.Touch t) :
    (t.psu, t.cul, t.ten, t.pins, t.rcc.zones) = (s.psu, s.cul, s.ten, s.pins, s.rcc.zones) := by
  cases h with
  | tsq | csv | latch | sense => rfl
  | rcc r zones _ => exact congrArg (fun z => (s.psu, s.cul, s.ten, s.pins, z)) zones
  | send m => simp [(s.txJoin_frame m).psu, (s.txJoin_frame m).cul, (s.txJoin_frame m).ten, (s.txJoin_frame m).pins,
      (s.txJoin_frame m).rcc]
  | receive b => simp [(s.rxJoin_frame b).psu, (s.rxJoin_frame b).cul, (s.rxJoin_frame b).ten, (s.rxJoin_frame b).pins,
      (s.rxJoin_frame b).rcc]

theorem State.Work.frame {s t : State} (w : s.Work t) :
    (t.psu, t.cul, t.ten, t.pins, t.rcc.zones) = (s.psu, s.cul, s.ten, s.pins, s.rcc.zones) :=
  w.leaves (f := fun u => (u.psu, u.cul, u.ten, u.pins, u.rcc.zones)) fun _ _ => State.Touch.frame

theorem State.Work.psu {s t : State} (w : s.Work t) : t.psu = s.psu := (Prod.ext_iff.mp w.frame).1

theorem State.Work.cul {s t : State} (w : s.Work t) : t.cul = s.cul := congrArg (·.2.1) w.frame

theorem State.Work.ten {s t : State} (w : s.Work t) : t.ten = s.ten := congrArg (·.2.2.1) w.frame

theorem State.Work.pins {s t : State} (w : s.Work t) : t.pins = s.pins := congrArg (·.2.2.2.1) w.frame

theorem State.Work.zones {s t : State} (w : s.Work t) : t.rcc.zones = s.rcc.zones := congrArg (·.2.2.2.2) w.frame

/-- No work of the blocks changes the stored chase record. -/
theorem State.Touch.chaseRecord {s t : State} (h : s.Touch t) : t.csv.record = s.csv.record := by
  cases h with
  | csv c stored master record => exact record
  | send m => exact congrArg Csv.record (s.txJoin_frame m).csv
  | receive b => exact congrArg Csv.record (s.rxJoin_frame b).csv
  | _ => rfl

theorem State.Work.chaseRecord {s t : State} (w : s.Work t) : t.csv.record = s.csv.record :=
  w.leaves (f := fun u => u.csv.record) fun _ _ => State.Touch.chaseRecord

theorem State.Work.config {s t : State} (w : s.Work t) : t.dhd.config = s.dhd.config := w.by.config

/-- The own position is a function of what the blocks' work leaves. -/
theorem State.Work.own {s t : State} (w : s.Work t) : t.own = s.own := by
  unfold State.own
  rw [w.psu, w.config]

/-! ### Single changes -/

theorem State.tsq_work (q : Tsq) (s : State) (h : q.reqSpeed = s.tsq.reqSpeed) : s.Work { s with tsq := q } :=
  .single (.tsq s q fun k => by simpa [State.speedLegal, State.shuttleLimit, h] using k)

theorem State.tsq_still_work (q : Tsq) (s : State) (h : q.reqSpeed = 0) : s.Work { s with tsq := q } :=
  .single (.tsq s q fun _ => by simp [State.speedLegal, h])

/-- A speed clamped is within the shuttle limit (R81). -/
theorem State.clampSpeed_legal (v : Int) (s : State) : (s.clampSpeed v).natAbs ≤ s.shuttleLimit := by
  unfold State.clampSpeed clampInt
  split
  · omega
  · split <;> omega

theorem State.tsq_clamped_work (q : Tsq) (s : State) (v : Int) (h : q.reqSpeed = s.clampSpeed v) :
    s.Work { s with tsq := q } :=
  .single (.tsq s q fun _ => (congrArg Int.natAbs h).trans_le (s.clampSpeed_legal v))

/-- A change of the chase's record that leaves its state and the stored record. -/
theorem State.csv_work (c : Csv) (s : State) (hs : c.state = s.csv.state)
    (hr : c.record = s.csv.record) : s.Work { s with csv := c } :=
  .single (.csv s c (by rw [hs, hr]; exact id) (by
    unfold State.masterLegal State.view
    dsimp only
    rw [hs, hr]
    exact id) hr)

theorem State.chaseOff_work (s : State) : s.Work s.chaseOff :=
  .single (.csv s _ (fun _ h => absurd rfl h) (fun _ => ⟨fun h => absurd rfl h, fun h => by simp at h⟩) rfl)

/-- A change of the segment's own record that begins no segment. -/
theorem State.rcc_work (r : Rcc) (s : State) (rests : r.state ≠ .recording ∨ (r.state = s.rcc.state ∧ r.fresh = s.rcc.fresh))
    (h : r.zones = s.rcc.zones) : s.Work { s with rcc := r } :=
  .single (.rcc s r h fun recording =>
    rests.elim (fun not => absurd recording not) fun ⟨state, fresh⟩ => .inr ⟨state.symm.trans recording, fresh⟩)

theorem State.latch_work (e : Event) (s : State) : s.Work (s.latch e) := .single (.latch s e)

theorem State.writeSense_work (r : Sense) (s : State) : s.Work (s.writeSense r) := .single (.sense s r)

theorem State.setPending_work (o : Option PendingOp) (s : State) : s.Work (s.setPending o) := s.tsq_work _ (by rfl)

theorem State.setTransport_work (t : TransportState) (s : State) : s.Work (s.setTransport t) := s.tsq_work _ (by rfl)

theorem State.setRequest_work (m : ReqMode) (s : State) : s.Work (s.setRequest m) := s.tsq_still_work _ (by rfl)

theorem State.answer_work (i : Issuer) (q y : Byte) (c : Code) (r : List Byte) (s : State) : s.Work (s.answer i q y c r) := by
  cases i with
  | nobody => exact .refl
  | port => exact .single (.receive ..)
  | station n => exact .single (.send _ _ (.inl rfl) rfl)

theorem State.reply_work (i : Issuer) (q y : Byte) (r : Reply) (s : State) : s.Work (s.reply i q y r) := by
  unfold State.reply
  split
  · exact s.answer_work ..
  · exact .refl

theorem State.raiseNotice_work (d : Nat) (p : List Byte) (s : State) : s.Work (s.raiseNotice d p) := by
  unfold State.raiseNotice
  dsimp only
  split
  · exact .single (.receive ..)
  · exact .single (.send _ _ (.inr rfl) rfl)

theorem State.segmentNotice_work (g : Segment) (c : Code) (s : State) : s.Work (s.segmentNotice g c) := by
  unfold State.segmentNotice
  split
  · exact s.raiseNotice_work ..
  · exact .refl

theorem State.cueNotice_work (c : Cue) (r : Code) (s : State) : s.Work (s.cueNotice c r) := by
  unfold State.cueNotice
  split
  · exact s.raiseNotice_work ..
  · exact .refl

theorem State.missCue_work (c : Cue) (r : Code) (s : State) : s.Work (s.missCue c r) :=
  ((s.latch_work _).trans (State.writeSense_work _ _)).trans (State.cueNotice_work ..)

/-! ### Requests and what a matched request completes -/

theorem State.judgeRest_work (o : PendingOp) (s : State) : s.Work (s.judgeRest o) := by
  unfold State.judgeRest
  split
  · exact .ite (((s.setPending_work _).trans (State.setTransport_work _ _)).trans (State.answer_work ..)) .refl
  · exact .refl

theorem State.matchPending_work (s : State) : s.Work s.matchPending := by
  unfold State.matchPending
  split
  · exact .refl
  · split
    · exact s.setPending_work _
    · exact .ite ((s.setPending_work _).trans (State.answer_work ..)) .refl
    all_goals exact .ite (s.judgeRest_work _) .refl

theorem State.matchRecovery_work (s : State) : s.Work s.matchRecovery := .ite (s.tsq_work _ (by rfl)) .refl

theorem State.matchFollow_work (s : State) : s.Work s.matchFollow := by
  unfold State.matchFollow
  refine .ite ?_ .refl
  split
  · exact .ite (s.csv_work _ (by rfl) (by rfl)) .refl
  · exact .refl

theorem State.onMatched_work (s : State) : s.Work s.onMatched :=
  (((s.tsq_work _ (by rfl)).trans (State.matchRecovery_work _)).trans (State.matchPending_work _)).trans (State.matchFollow_work _)

theorem State.drive_work (m : ReqMode) (v : Int) (k : BitVec 5) (s : State) : s.Work (s.drive m v k) := by
  unfold State.drive
  dsimp only
  have requested (q : Tsq) (h : q.reqSpeed = if m = .var ∨ m = .record then s.clampSpeed v else 0) :
      s.Work { s with tsq := q } := by
    split at h
    · exact s.tsq_clamped_work q v h
    · exact s.tsq_still_work q h
  split
  · exact .ite ((requested _ rfl).trans (State.onMatched_work _)) (requested _ rfl)
  · exact .ite ((requested _ rfl).trans (State.onMatched_work _)) (requested _ rfl)

theorem State.startWait_work (s : State) : s.Work s.startWait :=
  .ite ((s.tsq_work _ (by rfl)).trans (State.onMatched_work _)) (s.tsq_work _ (by rfl))

theorem State.tryStop_work (s : State) : s.Work s.tryStop := (s.tsq_work _ (by rfl)).trans (State.startWait_work _)

theorem State.adoptRequest_work (m : ReqMode) (v : Int) (s : State) : s.Work (s.adoptRequest m v) := by
  by_cases h : m = .var
  · exact s.tsq_clamped_work _ v (by simp [h])
  · exact s.tsq_still_work _ (by simp [h])

theorem State.driveStanding_work (s : State) : s.Work s.driveStanding := by
  unfold State.driveStanding
  split <;> exact s.drive_work ..

theorem State.chaseRequest_work (r : ChaseReq) (s : State) : s.Work (s.chaseRequest r) := by
  unfold State.chaseRequest
  dsimp only
  have standing : s.Work { s with tsq := { s.tsq with standing := r } } := s.tsq_work _ (by rfl)
  split
  · exact standing.trans (State.tsq_clamped_work _ _ _ (by rfl))
  · exact standing
  · exact standing.trans (State.driveStanding_work _)

/-! ### The transport -/

theorem State.emptySlot_work (c : Code) (s : State) : s.Work (s.emptySlot c) := by
  unfold State.emptySlot
  split
  · exact (s.tsq_work _ (by rfl)).trans (State.answer_work ..)
  · exact .refl

theorem State.endPending_work (a b : Code) (s : State) : s.Work (s.endPending a b) := by
  unfold State.endPending
  split
  · exact .refl
  · split
    · exact s.setPending_work _
    all_goals exact (s.setPending_work _).trans (State.answer_work ..)

theorem State.approach_work (e : Int) (s : State) : s.Work (s.approach e) :=
  .ite .refl (.ite (s.drive_work ..) (s.drive_work ..))

theorem State.takeMode_work (t : TransportState) (m : ReqMode) (v : Int) (i : Issuer) (q : Byte) (o : Origin) (s : State) :
    s.Work (s.takeMode t m v i q o) :=
  ((s.setTransport_work _).trans (State.setPending_work _ _)).trans (State.drive_work ..)

theorem State.takeSeek_work (k : OpKind) (n : Nat) (i : Issuer) (q : Byte) (s : State) : s.Work (s.takeSeek k n i q) := by
  unfold State.takeSeek
  dsimp only
  have begun {o : PendingOp} := (s.setTransport_work .cueing).trans (State.setPending_work (some o) _)
  split
  · exact begun.trans (State.approach_work ..)
  · exact begun

theorem State.takeMotion_work (m : Motion) (i : Issuer) (q : Byte) (s : State) : s.Work (s.takeMotion m i q).1 := by
  cases m with
  | still | play | shuttle => exact s.takeMode_work ..
  | eject => exact ((s.setTransport_work _).trans (State.setPending_work _ _)).trans (State.drive_work ..)
  | cueTo | jog => exact s.takeSeek_work ..

theorem State.requestMotion_work (m : Motion) (i : Issuer) (q : Byte) (s : State) : s.Work (s.requestMotion m i q).1 := by
  unfold State.requestMotion
  split
  · exact .refl
  · split
    · exact .refl
    · exact s.tsq_work _ (by rfl)
  · exact s.takeMotion_work ..

theorem State.settle_work (s : State) : s.Work s.settle := by
  unfold State.settle
  split
  · exact .ite (((s.tsq_work _ (by rfl)).trans (State.requestMotion_work ..)).trans (State.reply_work ..)) .refl
  · exact .refl

theorem State.engageTransport_work (s : State) : s.Work s.engageTransport :=
  (s.endPending_work ..).trans (State.setTransport_work ..)

theorem State.abortOp_work (s : State) : s.Work s.abortOp := by
  unfold State.abortOp
  dsimp only
  refine .trans (.trans ?_ (State.emptySlot_work ..)) (State.settle_work _)
  have ended (t : TransportState) (m : ReqMode) :
      s.Work (((s.endPending .cueAborted .aborted).setTransport t).drive m 0 0) :=
    ((s.endPending_work ..).trans (State.setTransport_work ..)).trans (State.drive_work ..)
  split
  · split
    · exact ended ..
    · exact ended ..
    · exact ended ..
    · exact .refl
  · exact .refl

theorem State.stopTransport_work (s : State) : s.Work s.stopTransport := by
  have ended := (s.emptySlot_work .superseded).trans (State.endPending_work .allStopped .allStopped _)
  exact .ite .refl (.ite ended (.ite (ended.trans (State.tryStop_work _))
    ((ended.trans (State.setTransport_work ..)).trans (State.drive_work ..))))

theorem State.restartTransport_work (s : State) : s.Work s.restartTransport := by
  have emptied : s.Work { s with tsq := { s.tsq with slot := none, pendingOp := none } } := s.tsq_work _ (by rfl)
  exact .ite (emptied.trans (State.tsq_work _ _ (by rfl))) (.ite (emptied.trans (State.tryStop_work _))
    (((emptied.trans (State.setTransport_work ..)).trans (State.setRequest_work ..)).trans (State.startWait_work _)))

theorem State.driveEndingMode_work (s : State) : s.Work s.driveEndingMode := by
  unfold State.driveEndingMode
  split
  · exact (s.setTransport_work ..).trans (State.drive_work ..)
  · exact s.driveStanding_work
  · exact .refl

/-! ### The segment's ends -/

theorem State.enterGap_work (s : State) : s.Work s.enterGap := s.rcc_work _ (.inl s.enterGap_ends) (by rfl)

theorem State.endNormally_work (g : Segment) (s : State) : s.Work (s.endNormally g) :=
  (s.driveEndingMode_work.trans (State.segmentNotice_work ..)).trans (State.enterGap_work _)

theorem State.abortSegmentAt_work (g : Segment) (c : Code) (d : Bool) (s : State) : s.Work (s.abortSegmentAt g c d) :=
  ((((State.Work.ite s.driveEndingMode_work .refl).trans (State.writeSense_work ..)).trans (State.latch_work ..)).trans
    (State.segmentNotice_work ..)).trans (State.enterGap_work _)

theorem State.emergencyOut_work (c : Code) (d : Bool) (s : State) : s.Work (s.emergencyOut c d) := by
  unfold State.emergencyOut
  split
  · exact s.abortSegmentAt_work ..
  · exact .refl

/-! ### Stops, faults and recovery -/

theorem State.transportStop_work (q : Byte) (o : Origin) (s : State) : s.Work (s.transportStop q o).1 := by
  unfold State.transportStop
  split
  · exact .refl
  · have ended := (((s.endPending_work .cueAborted .aborted).trans (State.emptySlot_work .superseded _)).trans
      (State.chaseOff_work _)).trans (State.emergencyOut_work .aborted false _)
    exact (State.Work.ite (ended.trans (State.tryStop_work _)) (((ended.trans (State.setTransport_work ..)).trans
      (State.setPending_work ..)).trans (State.drive_work ..))).trans (State.settle_work _)

theorem State.enterFaulted_work (c : Code) (s : State) : s.Work (s.enterFaulted c) :=
  (((((((s.setTransport_work _).trans (State.setRequest_work ..)).trans (State.latch_work ..)).trans
    (State.writeSense_work ..)).trans (State.endPending_work ..)).trans (State.chaseOff_work _)).trans
    (State.emergencyOut_work ..)).trans (State.tsq_work _ _ (by rfl))

theorem State.recoveryFails_work (s : State) : s.Work s.recoveryFails :=
  ((s.tsq_work _ (by rfl)).trans (State.latch_work ..)).trans (State.writeSense_work ..)

theorem State.waitRunsOut_work (s : State) : s.Work s.waitRunsOut :=
  .ite (s.recoveryFails_work.trans (State.settle_work _)) ((s.enterFaulted_work _).trans (State.settle_work _))

theorem State.faultQualified_work (s : State) : s.Work s.faultQualified :=
  ((s.tsq_work _ (by rfl)).trans (State.enterFaulted_work ..)).trans (State.settle_work _)

theorem State.offTimeEnds_work (s : State) : s.Work s.offTimeEnds :=
  .ite (s.tsq_work _ (by rfl)) (s.tryStop_work.trans (State.settle_work _))

/-! ### The transport at a field start -/

theorem State.faultStep_work (s : State) : s.Work s.faultStep :=
  .ite .refl (.ite (.ite s.faultQualified_work (s.tsq_work _ (by rfl))) (s.tsq_work _ (by rfl)))

theorem State.waitStep_work (c : Settings) (s : State) : s.Work (s.waitStep c) := by
  unfold State.waitStep
  split
  · exact .refl
  · exact .ite (s.tsq_work _ (by rfl)) (.ite s.waitRunsOut_work (s.tsq_work _ (by rfl)))

theorem State.recoveryStep_work (c : Settings) (s : State) : s.Work (s.recoveryStep c) := by
  unfold State.recoveryStep
  split
  · exact .ite s.offTimeEnds_work (s.tsq_work _ (by rfl))
  · exact s.waitStep_work c

theorem State.failSeek_work (o : PendingOp) (s : State) : s.Work (s.failSeek o) :=
  (((((s.setPending_work _).trans (State.setTransport_work ..)).trans (State.writeSense_work ..)).trans
    (State.answer_work ..)).trans (State.drive_work ..)).trans (State.settle_work _)

theorem State.cueStep_work (s : State) : s.Work s.cueStep := by
  unfold State.cueStep
  split
  · split
    · exact .ite ((s.setPending_work _).trans (State.failSeek_work ..))
        (((s.setPending_work _).trans (State.approach_work ..)).trans (State.settle_work _))
    · exact .refl
  · exact .refl

theorem State.expireSlot_work (h : Held) (s : State) : s.Work (s.expireSlot h) :=
  (s.writeSense_work _).trans (State.emptySlot_work ..)

theorem State.slotStep_work (c : Settings) (s : State) : s.Work (s.slotStep c) := by
  unfold State.slotStep
  split
  · exact .ite (s.expireSlot_work _) (s.tsq_work _ (by rfl))
  · exact .refl

theorem State.transportFieldStart_work (s : State) : s.Work s.transportFieldStart := by
  unfold State.transportFieldStart
  split
  · rename_i c _
    refine .ite ?_ .refl
    have recovered := State.Work.ite (p := s.faultStep.tsq.state = .faulted ∧ s.tsq.state ≠ .faulted) s.faultStep_work
      (s.faultStep_work.trans (State.recoveryStep_work c _))
    exact (State.Work.ite (recovered.trans (State.cueStep_work _)) recovered).trans (State.slotStep_work ..)
  · exact .refl

/-! ### Tally changes and threading -/

theorem State.adopt_work (t : Tally) (s : State) : s.Work (s.adopt t) := by
  cases t with
  | stop | still | play | var | eject => exact (s.setTransport_work _).trans (State.adoptRequest_work ..)
  | record => exact ((s.setTransport_work _).trans (State.setRequest_work ..)).trans (State.startWait_work _)
  | unknown => exact .refl

theorem State.overridden_work (t : Tally) (s : State) : s.Work (s.overridden t) := by
  have ended := (((s.tsq_work { s.tsq with pendingOp := none } (by rfl)).trans (State.adopt_work t _)).trans
    (State.setPending_work s.tsq.pendingOp _)).trans (State.endPending_work .deckOverride .deckOverride _)
  exact ((((State.Work.ite (ended.trans (State.writeSense_work ..)) ended).trans (State.chaseOff_work _)).trans
    (State.emergencyOut_work ..)).trans (State.latch_work ..)).trans (State.settle_work _)

theorem State.loseTape_work (s : State) : s.Work s.loseTape := by
  unfold State.loseTape
  split
  · split
    · exact (s.writeSense_work _).trans (State.endPending_work ..)
    · exact (s.writeSense_work _).trans (State.endPending_work ..)
    · exact s.endPending_work ..
    · exact s.endPending_work ..
  · exact .refl

theorem State.configureTransport_work (s : State) : s.Work s.configureTransport :=
  .ite (.ite ((s.setTransport_work _).trans (State.drive_work ..)) (s.setRequest_work _)) .refl

theorem State.requestRecord_work (k : BitVec 5) (s : State) : s.Work (s.requestRecord k) :=
  .ite ((s.setPending_work _).trans (State.drive_work ..))
    (((s.setPending_work _).trans (State.setTransport_work ..)).trans (State.drive_work ..))

theorem State.cueMotion_work (m : Motion) (t : TransportState) (r : ReqMode) (i : Nat) (s : State) :
    s.Work (s.cueMotion m t r i).1 := by
  unfold State.cueMotion
  split
  · exact .refl
  · exact .refl
  · exact s.takeMode_work ..

theorem State.rollPlay_work (q : Byte) (s : State) : s.Work (s.rollPlay q).1 := by
  unfold State.rollPlay
  split
  · exact .refl
  · exact s.takeMode_work ..
  · exact s.takeMode_work ..
  · exact .refl

/-! ### The chase -/

/-- The states of a chase that follows a usable master (R108, R110). -/
def ChaseState.follows : ChaseState → Bool
  | .seeking | .pulling | .locked | .followStill => true
  | .off | .waiting | .reroll | .failed => false

theorem ChaseState.follows_iff (c : ChaseState) :
    c.follows = true ↔ c = .seeking ∨ c = .pulling ∨ c = .locked ∨ c = .followStill := by
  cases c <;> simp [ChaseState.follows]

/-- A state that follows a master is not OFF. -/
theorem ChaseState.active_of_follows {c : ChaseState} (h : c.follows = true) : c ≠ .off := by
  rintro rfl
  contradiction

theorem State.leaveLock_work (s : State) : s.Work s.leaveLock := .ite ((s.latch_work _).trans (State.emergencyOut_work ..)) .refl

theorem State.followApproach_work (e : Int) (s : State) : s.Work (s.followApproach e) :=
  .ite .refl (.ite (s.chaseRequest_work _) (s.chaseRequest_work _))

theorem State.setFollow_work (f : FollowStep) (s : State) : s.Work (s.setFollow f) := s.csv_work _ (by rfl) (by rfl)

theorem State.followLaw_work (e : Int) (s : State) : s.Work (s.followLaw e) := by
  unfold State.followLaw
  split
  · exact s.followApproach_work e
  · exact .ite ((s.setFollow_work _).trans (State.followApproach_work ..)) .refl

theorem State.chaseLaw_work (r : ChaseRecord) (m e : Int) (s : State) : s.Work (s.chaseLaw r m e) := by
  unfold State.chaseLaw
  split
  · exact s.chaseRequest_work _
  · exact s.chaseRequest_work _
  · exact s.chaseRequest_work _
  · exact s.followLaw_work e
  all_goals exact .refl

/-- A chase that follows no master needs a stored record alone. -/
theorem State.csv_resting_work (c : Csv) (s : State)
    (stored : (s.csv.state ≠ .off → s.csv.record.isSome = true) → c.record.isSome = true)
    (rests : c.state.follows = false) (same : c.record = s.csv.record) : s.Work { s with csv := c } :=
  .single (.csv s c (fun h _ => stored h) (fun ⟨h, _⟩ => ⟨fun _ => stored h, fun follows => by
    rw [← ChaseState.follows_iff, rests] at follows
    contradiction⟩) same)

/-- A chase that follows with a usable master. -/
theorem State.csv_following_work (c : Csv) (s : State) (r : ChaseRecord) (hr : c.record = some r)
    (usable : (s.view r.master).usable = true) (same : c.record = s.csv.record) : s.Work { s with csv := c } :=
  .single (.csv s c (fun _ _ => by simp [hr]) (fun _ => ⟨fun _ => by simp [hr], fun _ => by
    rw [hr]
    exact congrArg some usable⟩) same)

/-- A chase that goes on from one following state to another. -/
theorem State.csv_onward_work (c : Csv) (s : State) (follows : s.csv.state.follows = true)
    (hr : c.record = s.csv.record) : s.Work { s with csv := c } :=
  have active := ChaseState.active_of_follows follows
  .single (.csv s c (fun h _ => hr ▸ h active) (fun ⟨h, k⟩ => ⟨fun _ => hr ▸ h active, fun _ => by
    have usable := k ((ChaseState.follows_iff _).mp follows)
    rw [← hr] at usable
    exact usable⟩) hr)

theorem State.declareLock_work (s : State) (h : s.csv.state = .pulling) : s.Work s.declareLock :=
  s.csv_onward_work _ (by rw [h]; rfl) (by rfl)

theorem State.loseLock_work (s : State) (h : s.csv.state = .locked) : s.Work s.loseLock :=
  ((s.csv_onward_work _ (by rw [h]; rfl) (by rfl)).trans (State.latch_work ..)).trans (State.emergencyOut_work ..)

theorem State.stopPulling_work (r : ChaseRecord) (s : State) (h : s.csv.state = .pulling) : s.Work (s.stopPulling r) := by
  have active : s.csv.state ≠ .off := by simp [h]
  exact .ite ((s.csv_resting_work _ (by exact fun h => h active) (by rfl) (by rfl)).trans (State.chaseRequest_work ..))
    ((((s.csv_resting_work _ (by exact fun h => h active) (by rfl) (by rfl)).trans (State.chaseRequest_work ..)).trans
      (State.latch_work ..)).trans (State.writeSense_work ..))

theorem State.pullStep_work (r : ChaseRecord) (s : State) (h : s.csv.state = .pulling) : s.Work (s.pullStep r) :=
  .ite (s.stopPulling_work r h) (s.csv_work _ (by rfl) (by rfl))

theorem State.lockStep_work (r : ChaseRecord) (e : Int) (s : State) (h : s.csv.state = .pulling) :
    s.Work (s.lockStep r e) :=
  .ite ((s.csv_work _ (by rfl) (by rfl)).trans (State.pullStep_work r _ h))
    (.ite (s.declareLock_work h) ((s.csv_work _ (by rfl) (by rfl)).trans (State.pullStep_work r _ h)))

theorem State.blankStep_work (r : ChaseRecord) (e : Int) (s : State) (h : s.csv.state = .locked) :
    s.Work (s.blankStep r e) :=
  .ite (.ite (s.loseLock_work h) (s.csv_work _ (by rfl) (by rfl))) (s.csv_work _ (by rfl) (by rfl))

theorem State.chaseCounts_work (r : ChaseRecord) (e : Int) (s : State) : s.Work (s.chaseCounts r e) := by
  unfold State.chaseCounts
  split
  · rename_i h
    exact s.lockStep_work r e h
  · rename_i h
    exact s.blankStep_work r e h
  all_goals exact .refl

/-- An emergency out whose cause takes the request touches the segment, the messages, the events and the sense record alone. -/
theorem State.emergencyOut_undriven (c : Code) (s : State) :
    (s.emergencyOut c false).tsq = s.tsq ∧ (s.emergencyOut c false).csv = s.csv := by
  unfold State.emergencyOut
  split
  · exact ⟨(State.segmentNotice_frame ..).tsq, (State.segmentNotice_frame ..).csv⟩
  · exact ⟨rfl, rfl⟩

/-- Leaving LOCKED touches the segment, the messages, the events and the sense record alone. -/
theorem State.leaveLock_undriven (s : State) : s.leaveLock.tsq = s.tsq ∧ s.leaveLock.csv = s.csv := by
  unfold State.leaveLock
  split
  · exact State.emergencyOut_undriven _ _
  · exact ⟨rfl, rfl⟩

theorem State.chaseWaits_work (s : State) (h : s.csv.record.isSome = true) : s.Work s.chaseWaits :=
  (s.leaveLock_work.trans (State.csv_resting_work _ _ (fun _ => s.leaveLock_undriven.2 ▸ h) (by rfl) (by rfl))).trans (State.chaseRequest_work ..)

/-- The record of a chase stands as the chase enters a state. -/
theorem Csv.enter_record (c : Csv) (n : ChaseState) : (c.enter n).record = c.record := by
  cases n <;> simp only [Csv.enter]
  split <;> rfl

theorem State.chaseServo_work (std : Standard) (r : ChaseRecord) (m e : Int) (s : State) (hr : s.csv.record = some r)
    (usable : (s.view r.master).usable = true) : s.Work (s.chaseServo std r m e) := by
  have entered {t : State} (h : s.Work t) (hc : t.csv = s.csv) (hp : t.ptb = s.ptb) (n : ChaseState) :
      s.Work { t with csv := t.csv.enter n } :=
    h.trans (State.csv_following_work _ _ r (by rw [Csv.enter_record, hc, hr]) (by rwa [State.view, hp]) (Csv.enter_record ..))
  refine .trans ?_ (State.chaseLaw_work ..)
  split
  · exact entered .refl rfl rfl _
  · exact entered s.leaveLock_work s.leaveLock_undriven.2 s.leaveLock_by.ptb _

theorem State.endReroll_work (r : ChaseRecord) (m e : Int) (s : State) (hr : s.csv.record = some r)
    (usable : (s.view r.master).usable = true) : s.Work (s.endReroll r m e) :=
  .trans (s.csv_following_work { s.csv with offTime := 0, state := .seeking } r hr usable (by rfl)) (State.chaseLaw_work ..)

theorem State.chaseStep_work (std : Standard) (r : ChaseRecord) (m e : Int) (s : State) (hr : s.csv.record = some r)
    (usable : (s.view r.master).usable = true) : s.Work (s.chaseStep std r m e) :=
  .ite (.ite (s.endReroll_work r m e hr usable) (s.csv_work _ (by rfl) (by rfl)))
    ((s.chaseServo_work std r m e hr usable).trans (State.chaseCounts_work ..))

theorem State.setTarget_work (x : Nat) (s : State) : s.Work (s.setTarget x) := s.csv_work _ (by rfl) (by rfl)

/-- The servo aims at a usable master alone (R108). -/
theorem State.usable_of_chaseAim {r : ChaseRecord} {s : State} {a : Standard × Nat × Int} (h : s.chaseAim r = some a) :
    (s.view r.master).usable = true := by
  unfold State.chaseAim at h
  dsimp only at h
  split at h
  · split at h
    · assumption
    · contradiction
  · contradiction

theorem State.chaseFieldStart_work (s : State) : s.Work s.chaseFieldStart := by
  unfold State.chaseFieldStart
  split
  · exact .refl
  · exact .refl
  · exact .refl
  · rename_i r hr _ _
    split
    · exact (s.chaseWaits_work (by rw [hr]; rfl)).trans (State.settle_work _)
    · rename_i target e aim
      exact ((s.setTarget_work target).trans (State.chaseStep_work _ r _ e (s.setTarget target) hr
        (State.usable_of_chaseAim aim))).trans (State.settle_work _)

/-- The chase as an engagement begins it, before it has chosen its state (R104). -/
def State.chaseBegun (r : ChaseRecord) (by_ : Origin) (s : State) : State :=
  let s1 := if s.csv.state = .off then s.engageTransport else s.leaveLock
  { s1 with csv := { s1.csv with
    state := .waiting, record := some r, engagedBy := by_, followStep := .approaching, pullTimer := 0, lockRun := 0,
    blankRun := 0, rerolls := 0, offTime := 0 } }

theorem State.startChase_eq (r : ChaseRecord) (o : Origin) (s : State) :
    s.startChase r o =
      match (s.chaseBegun r o).chaseAim r with
      | none => ((s.chaseBegun r o).chaseRequest .still).settle
      | some (std, target, e) =>
        (((s.chaseBegun r o).setTarget target).chaseServo std r (s.view r.master).speed e).settle := rfl

theorem State.chaseBegun_work {r : ChaseRecord} (o : Origin) {s : State} (hr : s.csv.record = some r) :
    s.Work (s.chaseBegun r o) :=
  have released := State.Work.ite (p := s.csv.state = .off) s.engageTransport_work s.leaveLock_work
  released.trans (State.csv_resting_work _ _ (fun _ => rfl) rfl (hr.symm.trans released.chaseRecord.symm))

/-- The first choice and request of a chase begun (R104). -/
theorem State.startChase_goesOn (r : ChaseRecord) (o : Origin) (s : State) : (s.chaseBegun r o).Work (s.startChase r o) := by
  rw [State.startChase_eq]
  split
  · exact (State.chaseRequest_work ..).trans (State.settle_work _)
  · rename_i std target e aim
    exact ((State.setTarget_work target _).trans
      (State.chaseServo_work _ r _ e ((s.chaseBegun r o).setTarget target) rfl (State.usable_of_chaseAim aim))).trans
      (State.settle_work _)

theorem State.startChase_work {r : ChaseRecord} (o : Origin) {s : State} (hr : s.csv.record = some r) : s.Work (s.startChase r o) :=
  (State.chaseBegun_work o hr).trans (s.startChase_goesOn r o)

theorem State.engageStored_work (o : Origin) (s : State) : s.Work (s.engageStored o).1 := by
  unfold State.engageStored
  repeat' split
  all_goals first
    | exact .refl
    | exact State.startChase_work o ‹_›

theorem State.disableChase_work (s : State) : s.Work s.disableChase :=
  .ite .refl (((((s.emergencyOut_work ..).trans (State.chaseOff_work _)).trans (State.setTransport_work ..)).trans
    (State.drive_work ..)).trans (State.settle_work _))

/-! ### The segment -/

/-- What R141 accepts a RECORD_IN in. -/
theorem State.recordRefusal_none {s : State} (h : s.recordRefusal = none) :
    s.pins.threaded = true ∧ s.rcc.state = .idle ∧ (s.tsq.state = .playing ∨ (s.tsq.state = .chasing ∧ s.csv.state = .locked)) ∧
      s.pins.field.inhibit = false ∧ s.psu.source = .code ∧ s.nearZone = false := by
  unfold State.recordRefusal at h
  repeat' split at h
  all_goals first
    | contradiction
    | skip
  rename_i h1 h2 h3 h4 h5 h6
  simp only [Bool.not_eq_false, ne_eq, not_not, Bool.not_eq_true] at h1 h2 h4 h5 h6
  exact ⟨h1, h2, by tauto, h4, h5, h6⟩

theorem State.beginSegment_work (g : Segment) (s : State) (clear : s.nearZone = false) : s.Work (s.beginSegment g) :=
  have begun : s.Work { s with rcc := { s.rcc with state := .recording, record := some g, fresh := true } } :=
    .single (.rcc s _ rfl fun _ => .inl clear)
  (begun.trans (State.requestRecord_work ..)).trans (State.settle_work _)

theorem State.recordIn_work (i : Nat) (k : BitVec 5) (d : Option Nat) (g : Guard) (l : List Nat) (n : Option Nat)
    (s : State) : s.Work (s.recordIn i k d g l n).1 := by
  unfold State.recordIn
  split
  · exact .refl
  · exact s.beginSegment_work _ (State.recordRefusal_none ‹_›).2.2.2.2.2

theorem State.recordOut_work (s : State) : s.Work s.recordOut.1 := by
  unfold State.recordOut
  split
  · exact (s.endNormally_work _).trans (State.settle_work _)
  · exact .refl

theorem State.segmentStep_work (g : Segment) (s : State) : s.Work (s.segmentStep g) := by
  unfold State.segmentStep
  dsimp only
  split
  · exact (s.abortSegmentAt_work ..).trans (State.settle_work _)
  · split
    · exact (s.endNormally_work _).trans (State.settle_work _)
    · split
      · exact (s.abortSegmentAt_work ..).trans (State.settle_work _)
      · exact s.rcc_work _ (.inr ⟨rfl, rfl⟩) (by rfl)

theorem State.recordFieldStart_work (s : State) : s.Work s.recordFieldStart := by
  unfold State.recordFieldStart
  refine .ite .refl ?_
  split
  · exact s.segmentStep_work _
  · exact .ite (s.rcc_work _ (.inl nofun) (by rfl)) (s.rcc_work _ (.inr ⟨rfl, rfl⟩) (by rfl))
  · exact .refl

end Sys2Proof.Machine
end

section
/-! SUPPORT. The Transition Engine: what every operation keeps of the levels and rest values (R154, R155). -/

namespace Sys2Proof.Machine

/-- The levels, selects and counts in range, the rest values standing at rest (R154, R155). -/
def Ten.Legal (t : Ten) : Prop :=
  (t.outK ≤ 1024 ∧ t.outD ≤ 1024 ∧ t.gainA + t.gainB = 1024 ∧ t.progress ≤ 1024 ∧ t.audio ≤ 1024 ∧ t.k ≤ 2058 ∧
      t.aSel ≤ 7 ∧ t.bSel ≤ 7 ∧ t.preset.all Preset.legal = true) ∧
    (t.state = .atRest ∨ t.state = .preset →
      t.outK = 0 ∧ t.outD = 0 ∧ t.gainA = 1024 ∧ t.gainB = 0 ∧ t.progress = 0 ∧ ∀ e ∈ t.edges, e = (0, 0)) ∧
    (t.state = .atRest ↔ t.preset = none)

theorem State.tenLegal_iff (s : State) : s.ten.Legal ↔ s.levelsLegal ∧ s.restLegal := Iff.rfl

/-- One change that the work of a field start is made of once the views are taken: one of the deck's blocks, or the transition's or
the cue list's own. -/
inductive State.Change : State → State → Prop
  | touch {s t : State} (h : s.Touch t) : s.Change t
  | cul (s : State) (c : Cul) (cues : s.cuesLegal → ({ s with cul := c } : State).cuesLegal) : s.Change { s with cul := c }
  | ten (s : State) (t : Ten) (legal : s.ten.Legal → t.Legal) : s.Change (s.setTen t)

/-- A run of such changes. -/
abbrev State.Course : State → State → Prop := Relation.ReflTransGen State.Change

theorem State.Course.trans {s t u : State} (h : s.Course t) (k : t.Course u) : s.Course u := Relation.ReflTransGen.trans h k

theorem State.Work.course {s t : State} (w : s.Work t) : s.Course t :=
  w.lift id fun _ _ => .touch

/-- What every single change keeps, every run of them keeps. -/
theorem State.Course.keeps {P : State → Prop} (h : ∀ s t : State, s.Change t → P s → P t) {s t : State} (w : s.Course t)
    (hs : P s) : P t := by
  induction w with
  | refl => exact hs
  | tail _ k ih => exact h _ _ k ih

theorem State.Course.ite {s a b : State} {p : Prop} [Decidable p] (h : s.Course a) (k : s.Course b) :
    s.Course (if p then a else b) := by split <;> assumption

theorem State.setTen_course (t : Ten) (s : State) (h : s.ten.Legal → t.Legal) : s.Course (s.setTen t) := .single (.ten s t h)

/-- Every pair of the rest table is (0, 0). -/
theorem eq_of_mem_restEdges {lines : Nat} {e : Nat × Nat} (h : e ∈ restEdges lines) : e = (0, 0) := List.eq_of_mem_replicate h

theorem Preset.legal_iff (p : Preset) : p.legal = true ↔ p.toSource ≤ 7 ∧ p.duration ≤ 999 ∧ p.split.natAbs ≤ 60 := by
  simp [Preset.legal, and_assoc]

/-- A transition is at most 1998 fields long (R156). -/
theorem Preset.fields_le {p : Preset} (h : p.legal = true) : p.fields ≤ 1998 := by
  obtain ⟨-, hd, -⟩ := p.legal_iff.mp h
  unfold Preset.fields
  split <;> omega

theorem Preset.progressAt_le (p : Preset) (k : Nat) : p.progressAt k ≤ 1024 := by
  unfold Preset.progressAt
  split
  · exact Nat.le_refl _
  · rename_i short
    exact Nat.div_le_of_le_mul (Nat.mul_le_mul_right _ (by omega))

theorem Preset.audioAt_le (p : Preset) (k : Nat) : p.audioAt k ≤ 1024 := by
  unfold Preset.audioAt clampInt
  refine Nat.div_le_of_le_mul (Nat.mul_le_mul_right _ ?_)
  split
  · omega
  · split <;> omega

theorem levelK_le (kind : TransitionKind) {p : Nat} (h : p ≤ 1024) : levelK kind p ≤ 1024 := by
  cases kind <;> simp only [levelK]
  case mix => exact h
  case dip => split <;> omega
  all_goals exact Nat.zero_le _

theorem levelD_le (kind : TransitionKind) {p : Nat} (h : p ≤ 1024) : levelD kind p ≤ 1024 := by
  cases kind <;> simp only [levelD]
  case dip => split <;> omega
  all_goals exact Nat.zero_le _

theorem leverPosition_le (reversed : Bool) {u : Nat} (h : u ≤ 1023) : leverPosition reversed u ≤ 1024 := by
  unfold leverPosition
  split <;> omega

/-- A transition not finished at a field index has an index in range (R159). -/
theorem Preset.index_le {p : Preset} {k : Nat} (hp : p.legal = true) (h : p.finishedAt k = false) : k ≤ 2058 := by
  obtain ⟨-, -, hs⟩ := p.legal_iff.mp hp
  have := p.fields_le hp
  simp only [Preset.finishedAt, Bool.and_eq_false_iff, decide_eq_false_iff_not] at h
  omega

/-- A legal engine's preset is legal. -/
theorem Ten.Legal.preset_legal {t : Ten} {p : Preset} (ht : t.Legal) (held : t.preset = some p) : p.legal = true := by
  obtain ⟨⟨-, -, -, -, -, -, -, -, hp⟩, -⟩ := ht
  simpa [held] using hp

/-- The field index of a legal engine. -/
theorem Ten.Legal.index_le {t : Ten} (ht : t.Legal) : t.k ≤ 2058 := by
  obtain ⟨⟨-, -, -, -, -, hk, -⟩, -⟩ := ht
  exact hk

/-- The selects of a legal engine. -/
theorem Ten.Legal.selects_le {t : Ten} (ht : t.Legal) : t.aSel ≤ 7 ∧ t.bSel ≤ 7 := by
  obtain ⟨⟨-, -, -, -, -, -, ha, hb, -⟩, -⟩ := ht
  exact ⟨ha, hb⟩

/-- A completed transition is at rest on its new source (R163). -/
theorem Ten.complete_legal {t : Ten} {p : Preset} {lines : Nat} (ht : t.Legal) (hp : p.legal = true) :
    (t.complete p lines).Legal := by
  obtain ⟨⟨-, -, -, -, -, -, -, hb, -⟩, -⟩ := ht
  obtain ⟨hsource, -, -⟩ := p.legal_iff.mp hp
  exact ⟨⟨Nat.zero_le _, Nat.zero_le _, rfl, Nat.zero_le _, Nat.zero_le _, Nat.zero_le _, hsource, hb, rfl⟩,
    fun _ => ⟨rfl, rfl, rfl, rfl, rfl, fun _ => eq_of_mem_restEdges⟩, Iff.intro (fun _ => rfl) fun _ => rfl⟩

/-- A transition back in its preset shows the rest values (R165). -/
theorem Ten.revert_legal {t : Ten} {p : Preset} {lines : Nat} (ht : t.Legal) (held : t.preset = some p) :
    (t.revert lines).Legal := by
  obtain ⟨⟨-, -, -, -, -, -, ha, hb, hp⟩, -⟩ := ht
  have kept : (t.revert lines).preset ≠ none := by
    show t.preset ≠ none
    simp [held]
  exact ⟨⟨Nat.zero_le _, Nat.zero_le _, rfl, Nat.zero_le _, Nat.zero_le _, Nat.zero_le _, ha, hb, hp⟩,
    fun _ => ⟨rfl, rfl, rfl, rfl, rfl, fun _ => eq_of_mem_restEdges⟩, Iff.intro (fun h => nomatch h) fun h => absurd h kept⟩

/-- A transition on air at a progress in range (R160 to R162). -/
theorem Ten.withProgress_legal {t : Ten} {p : Preset} {lines progress audio : Nat} (ha : t.aSel ≤ 7) (hb : t.bSel ≤ 7)
    (hk : t.k ≤ 2058) (hp : p.legal = true) (held : t.preset = some p) (air : t.state.onAir = true) (hprogress : progress ≤ 1024)
    (haudio : audio ≤ 1024) : (t.withProgress p lines progress audio).Legal := by
  have offRest : t.state ≠ .atRest ∧ t.state ≠ .preset := by
    constructor <;> (intro h; simp [h, TransitionState.onAir] at air)
  refine ⟨⟨levelK_le _ hprogress, levelD_le _ hprogress, Nat.sub_add_cancel haudio, hprogress, haudio, hk, ha, hb, ?_⟩,
    fun rest => absurd rest (not_or.mpr offRest), Iff.intro (fun h => absurd h offRest.1) fun h => ?_⟩
  · show t.preset.all Preset.legal = true
    simpa [held] using hp
  · exact absurd (held.symm.trans h) (by simp)

/-- A change of a legal engine's state among those off rest. -/
theorem Ten.legal_of_onAir {t u : Ten} (ht : t.Legal) (hk : u.k ≤ 2058) (was : t.state ≠ .atRest)
    (air : u.state.onAir = true) (levels : u = { t with state := u.state, k := u.k, fresh := u.fresh }) : u.Legal := by
  obtain ⟨⟨h1, h2, h3, h4, h5, -, h7, h8, h9⟩, -, hpreset⟩ := ht
  have offRest : u.state ≠ .atRest ∧ u.state ≠ .preset := by
    constructor <;> (intro h; simp [h, TransitionState.onAir] at air)
  rw [levels]
  exact ⟨⟨h1, h2, h3, h4, h5, hk, h7, h8, h9⟩, fun rest => absurd rest (not_or.mpr offRest),
    Iff.intro (fun h => absurd h offRest.1) fun h => absurd (hpreset.mpr h) was⟩

theorem Ten.stepTo_legal {t : Ten} {p : Preset} {lines k : Nat} (ht : t.Legal) (held : t.preset = some p)
    (air : t.state.onAir = true) : (t.stepTo p lines k).Legal := by
  have hp := ht.preset_legal held
  unfold Ten.stepTo
  split
  · exact Ten.complete_legal ht hp
  · rename_i going
    exact Ten.withProgress_legal ht.selects_le.1 ht.selects_le.2 (Preset.index_le hp (by simpa using going)) hp held air (p.progressAt_le k) (p.audioAt_le k)

theorem Ten.runStep_legal {t : Ten} {lines : Nat} (ht : t.Legal) : (t.runStep lines).Legal := by
  unfold Ten.runStep
  split
  · rename_i p running held
    split
    · exact ht
    · exact Ten.stepTo_legal ht held (by rw [running]; rfl)
  · exact ht

/-- The lever judged in hand (R168). -/
theorem Ten.judgeLever_legal {t : Ten} {p : Preset} {lines u : Nat} {present : Bool} (ht : t.Legal)
    (held : t.preset = some p) (lever : t.state = .lever) (hu : u ≤ 1023) : (t.judgeLever p lines present u).Legal := by
  have hp := ht.preset_legal held
  obtain ⟨⟨-, -, -, hprogress, -, hk, ha, hb, -⟩, -⟩ := id ht
  have air : t.state.onAir = true := by rw [lever]; rfl
  have hpl := leverPosition_le t.reversed hu
  unfold Ten.judgeLever
  dsimp only
  split
  · refine Ten.legal_of_onAir ht ?_ (by simp [lever]) rfl (by rfl)
    have := p.fields_le hp
    exact (Nat.div_le_of_le_mul (Nat.mul_le_mul_right _ hprogress)).trans (by omega)
  · split
    · exact Ten.complete_legal (t := t) ht hp
    · split
      · exact Ten.revert_legal ht held
      · exact Ten.withProgress_legal ha hb hk hp held air hpl hpl

theorem Ten.leverStep_legal {t : Ten} {lines u : Nat} {present : Bool} (ht : t.Legal) (hu : u ≤ 1023) :
    (t.leverStep lines present u).Legal := by
  unfold Ten.leverStep
  split
  · rename_i p held
    split
    · exact Ten.judgeLever_legal ht held ‹_› hu
    · split
      · rename_i picked
        have was : t.state ≠ .atRest := by
          intro h
          simp [Ten.picksUp, h] at picked
        exact Ten.judgeLever_legal (Ten.legal_of_onAir ht ht.index_le was rfl (by rfl)) held rfl hu
      · exact ht
  · exact ht

theorem Ten.fieldStart_legal {t : Ten} {lines u : Nat} {present : Bool} (ht : t.Legal) (hu : u ≤ 1023) :
    (t.fieldStart lines present u).Legal := Ten.leverStep_legal (Ten.runStep_legal ht) hu

/-! ### The engine's operations as single changes -/

theorem State.transitionFieldStart_course (s : State) : s.Course s.transitionFieldStart :=
  .ite (s.setTen_course _ fun h => Ten.fieldStart_legal h (by omega)) .refl

theorem State.beginTransition_course (p : Preset) (s : State) (was : s.ten.state = .preset) (held : s.ten.preset = some p) :
    s.Course (s.beginTransition p) := by
  unfold State.beginTransition
  refine .ite (s.setTen_course _ fun h => ?_) (s.setTen_course _ fun h => ?_)
  · exact Ten.complete_legal (Ten.legal_of_onAir h (Nat.zero_le _) (by simp [was]) rfl (by rfl)) (h.preset_legal held)
  · exact Ten.withProgress_legal h.selects_le.1 h.selects_le.2 (Nat.zero_le _) (h.preset_legal held) held rfl (p.progressAt_le 0) (p.audioAt_le 0)

theorem State.takeTransition_course (s : State) : s.Course s.takeTransition.1 := by
  unfold State.takeTransition
  split
  · exact s.beginTransition_course _ ‹_› ‹_›
  all_goals exact .refl

theorem State.pauseTransition_course (s : State) : s.Course s.pauseTransition.1 := by
  unfold State.pauseTransition
  split
  case h_4 running =>
    exact s.setTen_course _ fun h => Ten.legal_of_onAir h h.index_le (by simp [running]) rfl (by rfl)
  all_goals exact .refl

theorem State.resumeTransition_course (s : State) : s.Course s.resumeTransition.1 := by
  unfold State.resumeTransition
  split
  case h_4 paused =>
    exact s.setTen_course _ fun h => Ten.legal_of_onAir h h.index_le (by simp [paused]) rfl (by rfl)
  all_goals exact .refl

theorem State.stopTransition_course (s : State) : s.Course s.stopTransition := by
  unfold State.stopTransition
  split
  · rename_i running
    exact s.setTen_course _ fun h => Ten.legal_of_onAir h h.index_le (by simp [running]) rfl (by rfl)
  · exact .refl

theorem State.abortTransition_course (complete : Bool) (s : State) : s.Course (s.abortTransition complete) := by
  unfold State.abortTransition
  split
  · rename_i p _ held
    exact .ite (s.setTen_course _ fun h => Ten.complete_legal h (h.preset_legal held))
      (s.setTen_course _ fun h => Ten.revert_legal h held)
  · exact .refl

/-- A preset set off air stands with the rest values (R156). -/
theorem State.setTransition_course (p : Preset) (s : State) (hp : p.legal = true) : s.Course (s.setTransition p).1 := by
  unfold State.setTransition
  split
  · exact .refl
  · rename_i off
    refine s.setTen_course _ fun h => ?_
    obtain ⟨⟨h1, h2, h3, h4, h5, h6, h7, -, -⟩, hrest, -⟩ := h
    have rests : s.ten.state = .atRest ∨ s.ten.state = .preset := by
      cases hs : s.ten.state <;> simp [hs, TransitionState.onAir] at off ⊢
    exact ⟨⟨h1, h2, h3, h4, h5, h6, h7, (p.legal_iff.mp hp).1, by simpa using hp⟩, fun _ => hrest rests, by simp⟩

theorem State.selectSource_course (n : Nat) (s : State) (hn : n ≤ 7) : s.Course (s.selectSource n).1 := by
  unfold State.selectSource
  split
  · exact .refl
  · refine s.setTen_course _ fun h => ?_
    obtain ⟨⟨h1, h2, h3, h4, h5, h6, -, h8, h9⟩, hrest⟩ := h
    exact ⟨⟨h1, h2, h3, h4, h5, h6, hn, h8, h9⟩, hrest⟩

theorem State.restartTransition_course (s : State) : s.Course s.restartTransition := by
  refine .ite (s.setTen_course _ fun h => ?_) .refl
  obtain ⟨⟨-, -, -, -, -, -, ha, hb, -⟩, -⟩ := h
  exact ⟨⟨Nat.zero_le _, Nat.zero_le _, rfl, Nat.zero_le _, Nat.zero_le _, Nat.zero_le _, ha, hb, rfl⟩,
    fun _ => ⟨rfl, rfl, rfl, rfl, rfl, fun _ => eq_of_mem_restEdges⟩, Iff.intro (fun _ => rfl) fun _ => rfl⟩

theorem State.restEdgeTable_course (s : State) : s.Course s.restEdgeTable := by
  refine .ite (s.setTen_course _ fun h => ?_) .refl
  obtain ⟨hlevels, hrest, hpreset⟩ := h
  refine ⟨hlevels, fun rests => ?_, hpreset⟩
  obtain ⟨h1, h2, h3, h4, h5, -⟩ := hrest rests
  exact ⟨h1, h2, h3, h4, h5, fun _ => eq_of_mem_restEdges⟩

end Sys2Proof.Machine
end

section
/-! SUPPORT. The Cue List and the field start: what the cues, a due roll and the blocks' work at a field start are made of, and what
they leave of the cue list. -/

namespace Sys2Proof.Machine

/-! ### The list (R123 to R125) -/

theorem State.setCues_course (cs : List Cue) (s : State)
    (h : s.cuesLegal → cs.length ≤ 32 ∧ (cs.map (·.id)).Nodup) : s.Course (s.setCues cs) := .single (.cul s _ h)

theorem State.setRoll_course (r : Option RollSlot) (s : State) : s.Course (s.setRoll r) := .single (.cul s _ id)

/-- A cue that takes the place of the one with its id leaves the ids as they stand. -/
theorem replaceCue_ids (c : Cue) (cs : List Cue) : (replaceCue c cs).map (·.id) = cs.map (·.id) := by
  unfold replaceCue
  rw [List.map_map]
  refine List.map_congr_left fun x _ => ?_
  dsimp only [Function.comp]
  split
  · exact Eq.symm ‹_›
  · rfl

/-- An id that is not found is none of the list's. -/
theorem State.findCue_none {id : Nat} {s : State} (h : ¬ (s.findCue id).isSome = true) : id ∉ s.cul.cues.map (·.id) := by
  rw [State.findCue_isSome_iff] at h
  simpa using h

theorem State.loadCue_course (c : Cue) (s : State) : s.Course (s.loadCue c).1 := by
  unfold State.loadCue
  split
  · exact .refl
  · split
    · exact .refl
    · split
      · refine s.setCues_course _ fun ⟨hlen, hids⟩ => ⟨?_, ?_⟩
        · simpa [replaceCue] using hlen
        · rwa [replaceCue_ids]
      · rename_i absent
        split
        · exact .refl
        · refine s.setCues_course _ fun ⟨_, hids⟩ => ⟨?_, ?_⟩
          · simp only [List.length_append, List.length_cons, List.length_nil]
            omega
          · rw [List.map_append, List.nodup_append_comm]
            exact List.nodup_cons.mpr ⟨State.findCue_none absent, hids⟩

theorem State.dropCue_course (id : Nat) (s : State) : s.Course (s.dropCue id).1 := by
  unfold State.dropCue
  split
  · exact s.setCues_course _ fun _ => ⟨Nat.zero_le _, List.nodup_nil⟩
  · split
    · exact s.setCues_course _ fun ⟨hlen, hids⟩ =>
        ⟨(List.length_filter_le _ _).trans hlen, hids.sublist (List.filter_sublist.map _)⟩
    · exact .refl

/-! ### Cues that come to fire -/

theorem State.handOver_course (c : Cue) (s : State) : s.Course (s.handOver c).1 := by
  unfold State.handOver
  split
  · exact (s.recordIn_work ..).course
  · exact s.recordOut_work.course
  · exact s.takeTransition_course
  · exact (s.transportStop_work ..).course
  · exact ((s.cueMotion_work ..).trans (State.settle_work _)).course
  · exact ((s.cueMotion_work ..).trans (State.settle_work _)).course
  · exact (s.engageStored_work _).course
  · exact s.disableChase_work.course
  · exact .single (.cul s _ id)

theorem State.takeTransition_cul (s : State) : s.takeTransition.1.cul = s.cul := by
  unfold State.takeTransition State.beginTransition
  split
  · dsimp only
    split <;> rfl
  all_goals rfl

/-- The owners leave the cue list as it stands. -/
theorem State.handOver_cues (c : Cue) (s : State) : (s.handOver c).1.cul.cues = s.cul.cues := by
  unfold State.handOver
  split
  · rw [(s.recordIn_work ..).cul]
  · rw [s.recordOut_work.cul]
  · rw [s.takeTransition_cul]
  · rw [(s.transportStop_work ..).cul]
  · rw [((s.cueMotion_work ..).trans (State.settle_work _)).cul]
  · rw [((s.cueMotion_work ..).trans (State.settle_work _)).cul]
  · rw [(s.engageStored_work _).cul]
  · rw [s.disableChase_work.cul]
  · rfl

theorem State.fireCue_course (c : Cue) (s : State) : s.Course (s.fireCue c) := by
  unfold State.fireCue
  refine .ite (s.missCue_work ..).course (.ite (s.missCue_work ..).course ?_)
  dsimp only
  split
  · exact (s.handOver_course c).trans (State.missCue_work ..).course
  · exact (s.handOver_course c).trans (State.cueNotice_work ..).course

theorem State.fireCue_cues (c : Cue) (s : State) : (s.fireCue c).cul.cues = s.cul.cues := by
  unfold State.fireCue
  split
  · rw [(s.missCue_work ..).cul]
  · split
    · rw [(s.missCue_work ..).cul]
    · dsimp only
      split
      · rw [(State.missCue_work ..).cul, s.handOver_cues]
      · rw [(State.cueNotice_work ..).cul, s.handOver_cues]

theorem State.judgeCues_course (l : List Cue) (s : State) : s.Course (State.judgeCues l s).1 := by
  induction l generalizing s with
  | nil => exact .refl
  | cons c cs ih =>
    unfold State.judgeCues
    split
    · exact ih s
    · exact (s.fireCue_course c).trans (ih _)
    · exact (s.missCue_work ..).course.trans (ih _)

theorem State.judgeCues_cues (l : List Cue) (s : State) : (State.judgeCues l s).1.cul.cues = s.cul.cues := by
  induction l generalizing s with
  | nil => rfl
  | cons c cs ih =>
    unfold State.judgeCues
    split
    · exact ih s
    · rw [ih, s.fireCue_cues]
    · rw [ih, (s.missCue_work ..).cul]

/-- The cues that stay are of those judged, in their order (R134). -/
theorem State.judgeCues_ids (l : List Cue) (s : State) :
    ((State.judgeCues l s).2.map (·.id)).Sublist (l.map (·.id)) := by
  induction l generalizing s with
  | nil => exact List.Sublist.refl _
  | cons c cs ih =>
    unfold State.judgeCues
    split
    · exact (ih s).cons_cons c.id
    · exact (ih _).cons c.id
    · exact (ih _).cons c.id

/-! ### Timed starts and the stop event -/

theorem State.carryRoll_work (r : RollSlot) (s : State) : s.Work (s.carryRoll r) := by
  have carried : s.Work (if r.engage then s.engageStored (.directive 0x0B) else s.rollPlay r.seq).1 := by
    split
    · exact s.engageStored_work _
    · exact s.rollPlay_work _
  unfold State.carryRoll
  dsimp only
  split
  · exact carried.trans (State.writeSense_work ..)
  · exact carried.trans (State.settle_work _)

theorem State.rollDue_course (n : Count32) (s : State) : s.Course (s.rollDue n) := by
  unfold State.rollDue
  split
  · exact .ite ((s.setRoll_course none).trans (State.carryRoll_work ..).course) .refl
  · exact .refl

theorem State.rollDue_cues (n : Count32) (s : State) : (s.rollDue n).cul.cues = s.cul.cues := by
  unfold State.rollDue
  split
  · split
    · rw [(State.carryRoll_work ..).cul]
      rfl
    · rfl
  · rfl

theorem State.cueFieldStart_course (s : State) : s.Course s.cueFieldStart := by
  unfold State.cueFieldStart
  dsimp only
  have rolled : s.Course (({ s with cul := { s.cul with pulses := 0 } } : State).rollDue s.ftu.counter) :=
    .trans (.single (.cul s { s.cul with pulses := 0 } id)) (State.rollDue_course ..)
  refine (rolled.trans (State.judgeCues_course ..)).trans (State.setCues_course _ _ fun ⟨hlen, hids⟩ => ?_)
  rw [State.judgeCues_cues] at hlen hids
  have judged := State.judgeCues_ids (({ s with cul := { s.cul with pulses := 0 } } : State).rollDue s.ftu.counter).cul.cues
    (({ s with cul := { s.cul with pulses := 0 } } : State).rollDue s.ftu.counter)
  exact ⟨by simpa using judged.length_le.trans (by simpa using hlen), hids.sublist judged⟩

theorem State.stopNotices_work (l : List Cue) (s : State) : s.Work (State.stopNotices l s) := by
  induction l generalizing s with
  | nil => exact .refl
  | cons c cs ih => exact (s.cueNotice_work ..).trans (ih _)

theorem State.stopCues_course (s : State) : s.Course s.stopCues :=
  ((s.setCues_course [] fun _ => ⟨Nat.zero_le _, List.nodup_nil⟩).trans (State.setRoll_course _ _)).trans
    (State.stopNotices_work ..).course

theorem State.stopBlocks_course (s : State) : s.Course s.stopBlocks :=
  (((((s.stopTransport_work.trans (State.chaseOff_work _)).course.trans (State.stopCues_course _)).trans
    (State.emergencyOut_work ..).course).trans (State.stopTransition_course _)).trans (State.settle_work _).course)

theorem State.localStop_course (s : State) : s.Course s.localStop := (s.latch_work _).course.trans (State.stopBlocks_course _)

/-! ### The blocks' work at a field start -/

theorem State.recordCueTransition_course (s : State) : s.Course s.recordCueTransition := by
  have recorded {t : State} (h : s.Course t) := h.trans t.recordFieldStart_work.course
  have stepped {t : State} (h : s.Course t) := h.trans t.transitionFieldStart_course
  have cued {t : State} (h : s.Course t) := h.trans t.cueFieldStart_course
  have first := State.Course.ite (p := s.order.rccFirst = true) (recorded .refl) .refl
  have second := cued (State.Course.ite (p := s.order.tenFirst = true) (stepped first) first)
  have third := State.Course.ite (p := s.order.rccFirst = true) second (recorded second)
  exact .ite third (stepped third)

end Sys2Proof.Machine
end

section
/-! SUPPORT. The transmit queue: what every operation of the Line Interface keeps of its bounds, its order and its flags (R22, R27 to
R31, R37, R38). -/

namespace Sys2Proof.Machine

/-- The transmit queue in bounds and in order, a listen-only station's empty, the flags in agreement and the idle line free (R22, R27,
R28, R30, R37, R38). -/
structure Lif.Legal (l : Lif) : Prop where
  bounded : l.nonAnnouncements ≤ 7
  announced : l.announcements ≤ 1
  rises : classesRise l.waiting = true
  heldBehind : l.heldLegal = true
  heldAnn : l.heldAnn.all TxMsg.isAnn = true
  young : (l.waiting.all fun m => m.isAnn || m.age < 16) = true
  silent : l.listenOnly = true → l.waiting = [] ∧ l.heldAnn = none ∧ (l.sending.all fun x => x.leaves) = true
  flags : l.duplicate = true → l.listenOnly = true
  line : l.idle = true → l.watch = .steady ∧ l.sending = none ∧ l.emitting = false

theorem State.lifLegal_iff (s : State) :
    s.lif.Legal ∧ (s.ownNumber = none → s.lif.listenOnly = true) ↔
      s.txqLegal ∧ s.silentLegal ∧ s.flagsLegal ∧ s.lineLegal := by
  constructor
  · rintro ⟨⟨h1, h2, h3, h4, h5, h6, h7, h8, h9⟩, h10⟩
    exact ⟨⟨h1, h2, h3, h4, h5, h6⟩, h7, ⟨h8, h10⟩, h9⟩
  · rintro ⟨⟨h1, h2, h3, h4, h5, h6⟩, h7, ⟨h8, h10⟩, h9⟩
    exact ⟨⟨h1, h2, h3, h4, h5, h6, h7, h8, h9⟩, h10⟩

/-! ### Joining in order of class (R25, R27) -/

/-- The classes rise along a list exactly where they are sorted. -/
theorem classesRise_iff (q : List TxMsg) : classesRise q = true ↔ q.IsChain fun m n => m.kind.cls ≤ n.kind.cls := by
  induction q with
  | nil => simp [classesRise]
  | cons m q ih =>
    cases q with
    | nil => simp [classesRise]
    | cons n q => simp [classesRise, ih]

theorem joinBehind_perm (m : TxMsg) (q : List TxMsg) : (joinBehind m q).Perm (m :: q) := by
  induction q with
  | nil => exact .refl _
  | cons x q ih =>
    unfold joinBehind
    split
    · exact (ih.cons x).trans (.swap ..)
    · exact .refl _

theorem joinAhead_perm (m : TxMsg) (q : List TxMsg) : (joinAhead m q).Perm (m :: q) := by
  induction q with
  | nil => exact .refl _
  | cons x q ih =>
    unfold joinAhead
    split
    · exact (ih.cons x).trans (.swap ..)
    · exact .refl _

theorem joinBehind_rises (m : TxMsg) (q : List TxMsg) (h : classesRise q = true) : classesRise (joinBehind m q) = true := by
  rw [classesRise_iff, List.isChain_iff_pairwise] at *
  induction q with
  | nil => simp [joinBehind]
  | cons x q ih =>
    obtain ⟨hx, hq⟩ := List.pairwise_cons.mp h
    unfold joinBehind
    split
    · rename_i before
      refine List.pairwise_cons.mpr ⟨fun y hy => ?_, ih hq⟩
      obtain rfl | hy := List.mem_cons.mp ((joinBehind_perm m q).mem_iff.mp hy)
      · exact before
      · exact hx y hy
    · rename_i behind
      have below : m.kind.cls ≤ x.kind.cls := by bv_omega
      refine List.pairwise_cons.mpr ⟨fun y hy => ?_, h⟩
      obtain rfl | hy := List.mem_cons.mp hy
      · exact below
      · exact BitVec.le_trans below (hx y hy)

theorem joinAhead_rises (m : TxMsg) (q : List TxMsg) (h : classesRise q = true) : classesRise (joinAhead m q) = true := by
  rw [classesRise_iff, List.isChain_iff_pairwise] at *
  induction q with
  | nil => simp [joinAhead]
  | cons x q ih =>
    obtain ⟨hx, hq⟩ := List.pairwise_cons.mp h
    unfold joinAhead
    split
    · rename_i before
      refine List.pairwise_cons.mpr ⟨fun y hy => ?_, ih hq⟩
      obtain rfl | hy := List.mem_cons.mp ((joinAhead_perm m q).mem_iff.mp hy)
      · bv_omega
      · exact hx y hy
    · rename_i behind
      have below : m.kind.cls ≤ x.kind.cls := by bv_omega
      refine List.pairwise_cons.mpr ⟨fun y hy => ?_, h⟩
      obtain rfl | hy := List.mem_cons.mp hy
      · exact below
      · exact BitVec.le_trans below (hx y hy)

/-- A part of a queue in order is in order. -/
theorem classesRise_sublist {p q : List TxMsg} (h : p.Sublist q) (hq : classesRise q = true) : classesRise p = true := by
  rw [classesRise_iff, List.isChain_iff_pairwise] at *
  exact hq.sublist h

/-! ### The counts of the queue -/

/-- The announcements among some messages. -/
def annCount (q : List TxMsg) : Nat := q.countP TxMsg.isAnn

/-- The other messages among some messages. -/
def otherCount (q : List TxMsg) : Nat := q.countP fun m => !m.isAnn

/-- The announcement on the line, counted. -/
def Lif.annSent (l : Lif) : Nat := match l.sending with | some x => if x.msg.isAnn then 1 else 0 | none => 0

/-- Another message on the line, counted. -/
def Lif.otherSent (l : Lif) : Nat := match l.sending with | some x => if x.msg.isAnn then 0 else 1 | none => 0

theorem Lif.announcements_eq (l : Lif) : l.announcements = annCount l.waiting + l.annSent := rfl

theorem Lif.nonAnnouncements_eq (l : Lif) : l.nonAnnouncements = otherCount l.waiting + l.otherSent := rfl

theorem annCount_perm {p q : List TxMsg} (h : p.Perm q) : annCount p = annCount q := h.countP_eq _

theorem otherCount_perm {p q : List TxMsg} (h : p.Perm q) : otherCount p = otherCount q := h.countP_eq _

theorem annCount_cons (m : TxMsg) (q : List TxMsg) : annCount (m :: q) = annCount q + if m.isAnn then 1 else 0 := by
  simp [annCount, List.countP_cons]

theorem otherCount_cons (m : TxMsg) (q : List TxMsg) : otherCount (m :: q) = otherCount q + if m.isAnn then 0 else 1 := by
  cases h : m.isAnn <;> simp [otherCount, h]

theorem annCount_sublist {p q : List TxMsg} (h : p.Sublist q) : annCount p ≤ annCount q := h.countP_le

theorem otherCount_sublist {p q : List TxMsg} (h : p.Sublist q) : otherCount p ≤ otherCount q := h.countP_le

/-- No message that waits is of age 16 but the announcement (R30). -/
def queueYoung (q : List TxMsg) : Prop := ∀ m ∈ q, m.isAnn = true ∨ m.age < 16

theorem queueYoung_iff (q : List TxMsg) : (q.all fun m => m.isAnn || m.age < 16) = true ↔ queueYoung q := by
  simp [queueYoung]

theorem queueYoung_perm {p q : List TxMsg} (h : p.Perm q) (hq : queueYoung q) : queueYoung p :=
  fun m hm => hq m (h.mem_iff.mp hm)

theorem queueYoung_cons {m : TxMsg} {q : List TxMsg} (hm : m.isAnn = true ∨ m.age < 16) (hq : queueYoung q) :
    queueYoung (m :: q) := fun x hx => by
  obtain rfl | hx := List.mem_cons.mp hx
  · exact hm
  · exact hq x hx

theorem queueYoung_sublist {p q : List TxMsg} (h : p.Sublist q) (hq : queueYoung q) : queueYoung p :=
  fun m hm => hq m (h.subset hm)

theorem Lif.Legal.queueYoung {l : Lif} (h : l.Legal) : queueYoung l.waiting := (queueYoung_iff _).mp h.young

/-- The announcement is held only while the old one is on the line (R28). -/
theorem Lif.Legal.sends_of_held {l : Lif} (h : l.Legal) {m : TxMsg} (held : l.heldAnn = some m) :
    ∃ x, l.sending = some x ∧ x.msg.isAnn = true ∧ m.isAnn = true := by
  have behind := h.heldBehind
  have ann := h.heldAnn
  cases hs : l.sending <;> simp_all [Lif.heldLegal]

/-- A queue with nothing on the line and no announcement held is legal by what waits in it. -/
theorem Lif.Legal.ofWaiting {l : Lif} (sending : l.sending = none) (held : l.heldAnn = none) (few : otherCount l.waiting ≤ 7)
    (one : annCount l.waiting ≤ 1) (rises : classesRise l.waiting = true) (young : Sys2Proof.Machine.queueYoung l.waiting)
    (silent : l.listenOnly = true → l.waiting = []) (flags : l.duplicate = true → l.listenOnly = true)
    (line : l.idle = true → l.watch = .steady ∧ l.emitting = false) : l.Legal where
  bounded := by simpa [Lif.nonAnnouncements_eq, Lif.otherSent, sending] using few
  announced := by simpa [Lif.announcements_eq, Lif.annSent, sending] using one
  rises := rises
  heldBehind := by simp [Lif.heldLegal, held]
  heldAnn := by simp [held]
  young := (queueYoung_iff _).mpr young
  silent := fun h => ⟨silent h, held, by simp [sending]⟩
  flags := flags
  line := fun h => ⟨(line h).1, sending, (line h).2⟩

/-! ### The operations (R25 to R31) -/

theorem State.txJoin_legal {s : State} {m : TxMsg} (h : s.lif.Legal) (other : m.isAnn = false) (age : m.age < 16) :
    (s.txJoin m).lif.Legal := by
  unfold State.txJoin
  split
  · exact h
  · rename_i loud
    split
    · exact h
    · rename_i room
      have perm := joinBehind_perm m s.lif.waiting
      have room : s.lif.nonAnnouncements < 7 := by simpa [Lif.full] using room
      rw [Lif.nonAnnouncements_eq] at room
      have announced := h.announced
      rw [Lif.announcements_eq] at announced
      exact
        { bounded := by
            change otherCount (joinBehind m s.lif.waiting) + s.lif.otherSent ≤ 7
            rw [otherCount_perm perm, otherCount_cons, other]
            simp only [Bool.false_eq_true, if_false]
            omega
          announced := by
            change annCount (joinBehind m s.lif.waiting) + s.lif.annSent ≤ 1
            rw [annCount_perm perm, annCount_cons, other]
            exact announced
          rises := joinBehind_rises m _ h.rises
          heldBehind := h.heldBehind
          heldAnn := h.heldAnn
          young := (queueYoung_iff _).mpr (queueYoung_perm perm (queueYoung_cons (.inr age) h.queueYoung))
          silent := fun silent => absurd silent loud
          flags := h.flags
          line := h.line }

/-- The queue without its announcement. -/
theorem annCount_others (q : List TxMsg) : annCount (q.filter fun w => !w.isAnn) = 0 := by
  simp [annCount, List.countP_eq_zero]

theorem State.txAnnounce_legal {s : State} {m : TxMsg} (h : s.lif.Legal) (ann : m.isAnn = true) :
    (s.txAnnounce m).lif.Legal := by
  have perm := joinBehind_perm m (s.lif.waiting.filter fun w => !w.isAnn)
  have part : (s.lif.waiting.filter fun w => !w.isAnn).Sublist s.lif.waiting := List.filter_sublist
  have few := h.bounded
  rw [Lif.nonAnnouncements_eq] at few
  have placed (loud : s.lif.listenOnly ≠ true) (notSent : s.lif.annSent = 0) :
      Lif.Legal { s.lif with waiting := joinBehind m (s.lif.waiting.filter fun w => !w.isAnn) } :=
    { bounded := by
        change otherCount (joinBehind m _) + s.lif.otherSent ≤ 7
        rw [otherCount_perm perm, otherCount_cons, ann]
        have := otherCount_sublist part
        simp only [if_true]
        omega
      announced := by
        change annCount (joinBehind m _) + s.lif.annSent ≤ 1
        rw [annCount_perm perm, annCount_cons, annCount_others, ann, notSent]
        exact Nat.le_refl _
      rises := joinBehind_rises m _ (classesRise_sublist part h.rises)
      heldBehind := h.heldBehind
      heldAnn := h.heldAnn
      young := (queueYoung_iff _).mpr
        (queueYoung_perm perm (queueYoung_cons (.inl ann) (queueYoung_sublist part h.queueYoung)))
      silent := fun silent => absurd silent loud
      flags := h.flags
      line := h.line }
  unfold State.txAnnounce
  split
  · exact h
  · rename_i loud
    split
    · rename_i x sends
      split
      · rename_i sendsAnn
        exact { h with
          heldBehind := by simp [Lif.heldLegal, sends, sendsAnn]
          heldAnn := by simpa using ann
          silent := fun silent => absurd silent loud }
      · rename_i sendsOther
        exact placed loud (by simp [Lif.annSent, sends, sendsOther])
    · rename_i sendsNone
      exact placed loud (by simp [Lif.annSent, sendsNone])

/-- Once nothing is on the line the held announcement takes its place (R28). -/
theorem Lif.Legal.placeHeld {l : Lif} (h : l.Legal) : ({ l with sending := none } : Lif).placeHeld.Legal := by
  have few := h.bounded
  rw [Lif.nonAnnouncements_eq] at few
  have one := h.announced
  rw [Lif.announcements_eq] at one
  have line (idle : l.idle = true) : l.watch = .steady ∧ l.emitting = false := ⟨(h.line idle).1, (h.line idle).2.2⟩
  unfold Lif.placeHeld
  split
  · rename_i m held
    obtain ⟨x, sends, sendsAnn, ann⟩ := h.sends_of_held held
    have perm := joinBehind_perm m l.waiting
    refine .ofWaiting rfl rfl ?_ ?_ (joinBehind_rises m _ h.rises)
      (queueYoung_perm perm (queueYoung_cons (.inl ann) h.queueYoung)) (fun silent => ?_) h.flags line
    · change otherCount (joinBehind m l.waiting) ≤ 7
      rw [otherCount_perm perm, otherCount_cons, ann]
      simp only [if_true]
      omega
    · change annCount (joinBehind m l.waiting) ≤ 1
      rw [annCount_perm perm, annCount_cons, ann]
      simp only [Lif.annSent, sends, sendsAnn, if_true] at one ⊢
      omega
    · exact absurd ((h.silent silent).2.1.symm.trans held) (by simp)
  · rename_i held
    exact .ofWaiting rfl held (by change otherCount l.waiting ≤ 7; omega) (by change annCount l.waiting ≤ 1; omega) h.rises
      h.queueYoung (fun silent => (h.silent silent).1) h.flags line

/-- What was on the line is in the queue again, ahead of its class (R25). -/
theorem Lif.Legal.returned {l : Lif} {x : Sending} (h : l.Legal) (sends : l.sending = some x) (stays : x.leaves = false)
    (held : l.heldAnn = none) (young : x.msg.isAnn = true ∨ x.msg.age < 16) :
    Lif.Legal { l with sending := none, waiting := joinAhead x.msg l.waiting } := by
  have few := h.bounded
  rw [Lif.nonAnnouncements_eq, Lif.otherSent, sends] at few
  have one := h.announced
  rw [Lif.announcements_eq, Lif.annSent, sends] at one
  have perm := joinAhead_perm x.msg l.waiting
  refine .ofWaiting rfl held ?_ ?_ (joinAhead_rises _ _ h.rises) (queueYoung_perm perm (queueYoung_cons young h.queueYoung))
    (fun silent => ?_) h.flags fun idle => ⟨(h.line idle).1, (h.line idle).2.2⟩
  · change otherCount (joinAhead x.msg l.waiting) ≤ 7
    rwa [otherCount_perm perm, otherCount_cons]
  · change annCount (joinAhead x.msg l.waiting) ≤ 1
    rwa [annCount_perm perm, annCount_cons]
  · have leaves := (h.silent silent).2.2
    simp [sends, stays] at leaves

theorem Lif.placeHeld_none {l : Lif} (held : l.heldAnn = none) : l.placeHeld = l := by
  unfold Lif.placeHeld
  rw [held]

/-- What was on the line is gone (R30). -/
theorem Lif.Legal.unsent {l : Lif} (h : l.Legal) (held : l.heldAnn = none) : Lif.Legal { l with sending := none } :=
  Lif.placeHeld_none (l := { l with sending := none }) held ▸ h.placeHeld

theorem State.cutShort_legal {s : State} (h : s.lif.Legal) : s.cutShort.lif.Legal := by
  unfold State.cutShort
  split
  · exact h
  · rename_i x sends
    dsimp only
    split
    · exact h.placeHeld
    · rename_i stays
      have stays : x.leaves = false := by simpa using stays
      split
      · rename_i ann
        split
        · exact h.placeHeld
        · rename_i held
          exact h.returned sends stays held (.inl ann)
      · rename_i other
        have held : s.lif.heldAnn = none := by
          cases held : s.lif.heldAnn with
          | none => rfl
          | some m =>
            obtain ⟨y, sends', ann, -⟩ := h.sends_of_held held
            rw [sends] at sends'
            cases sends'
            exact absurd ann other
        split
        · exact h.unsent held
        · rename_i age
          exact h.returned sends stays held (.inr (by omega))

theorem State.sent_legal {s : State} (h : s.lif.Legal) : s.sent.lif.Legal := by
  unfold State.sent
  split
  · exact h
  · exact h.placeHeld

/-- Some of the messages gone and others older, the queue is legal (R30). -/
theorem Lif.Legal.thinned {l : Lif} {w : List TxMsg} {x : Option Sending} (h : l.Legal)
    (few : otherCount w ≤ otherCount l.waiting) (one : annCount w ≤ annCount l.waiting) (rises : classesRise w = true)
    (young : Sys2Proof.Machine.queueYoung w) (silent : l.listenOnly = true → w = [])
    (same : x.map (fun y => (y.msg.isAnn, y.leaves)) = l.sending.map fun y => (y.msg.isAnn, y.leaves)) :
    Lif.Legal { l with waiting := w, sending := x } := by
  have few' := h.bounded
  rw [Lif.nonAnnouncements_eq] at few'
  have one' := h.announced
  rw [Lif.announcements_eq] at one'
  have counts : ({ l with waiting := w, sending := x } : Lif).otherSent = l.otherSent ∧
      ({ l with waiting := w, sending := x } : Lif).annSent = l.annSent := by
    cases x <;> cases hs : l.sending <;> simp_all [Lif.otherSent, Lif.annSent]
  exact
    { bounded := by
        rw [Lif.nonAnnouncements_eq, counts.1]
        change otherCount w + l.otherSent ≤ 7
        omega
      announced := by
        rw [Lif.announcements_eq, counts.2]
        change annCount w + l.annSent ≤ 1
        omega
      rises := rises
      heldBehind := by
        have behind := h.heldBehind
        cases x <;> cases hs : l.sending <;> simp_all [Lif.heldLegal]
      heldAnn := h.heldAnn
      young := (queueYoung_iff _).mpr young
      silent := fun quiet => ⟨silent quiet, (h.silent quiet).2.1, by
        have leaves := (h.silent quiet).2.2
        cases x <;> cases hs : l.sending <;> simp_all⟩
      flags := h.flags
      line := fun idle => ⟨(h.line idle).1, by
        have none := (h.line idle).2.1
        cases x <;> simp_all, (h.line idle).2.2⟩ }

theorem TxMsg.older_isAnn (m : TxMsg) : m.older.isAnn = m.isAnn := by
  unfold TxMsg.older
  split
  · rfl
  · rfl

theorem TxMsg.older_kind (m : TxMsg) : m.older.kind = m.kind := by
  unfold TxMsg.older
  split <;> rfl

/-- Messages that age stand in the order of their classes. -/
theorem classesRise_older (q : List TxMsg) (h : classesRise q = true) : classesRise (q.map TxMsg.older) = true := by
  rw [classesRise_iff, List.isChain_iff_pairwise] at *
  rw [List.pairwise_map]
  simpa only [TxMsg.older_kind] using h

theorem annCount_older (q : List TxMsg) : annCount (q.map TxMsg.older) = annCount q := by
  simp only [annCount, List.countP_map, Function.comp_def, TxMsg.older_isAnn]

theorem otherCount_older (q : List TxMsg) : otherCount (q.map TxMsg.older) = otherCount q := by
  simp only [otherCount, List.countP_map, Function.comp_def, TxMsg.older_isAnn]

theorem State.ageTxq_legal {s : State} (h : s.lif.Legal) : s.ageTxq.lif.Legal := by
  have part : ((s.lif.waiting.map TxMsg.older).filter fun m => m.isAnn || m.age < 16).Sublist (s.lif.waiting.map TxMsg.older) :=
    List.filter_sublist
  have aged : Lif.Legal { s.lif with
      waiting := (s.lif.waiting.map TxMsg.older).filter fun m => m.isAnn || m.age < 16,
      sending := s.lif.sending.map fun x => { x with msg := x.msg.older } } := by
    refine h.thinned ?_ ?_ (classesRise_sublist part (classesRise_older _ h.rises)) (fun m hm => ?_) (fun quiet => ?_) ?_
    · exact (otherCount_sublist part).trans_eq (otherCount_older _)
    · exact (annCount_sublist part).trans_eq (annCount_older _)
    · simpa using List.of_mem_filter hm
    · rw [(h.silent quiet).1]
      rfl
    · cases s.lif.sending <;> simp [TxMsg.older_isAnn]
  unfold State.ageTxq
  dsimp only
  split <;> exact aged

theorem State.expireTxq_legal {s : State} (h : s.lif.Legal) : s.expireTxq.lif.Legal := by
  have part : (s.lif.waiting.filter fun m => m.isAnn || m.age < 15).Sublist s.lif.waiting := List.filter_sublist
  have aged : Lif.Legal { s.lif with
      waiting := s.lif.waiting.filter fun m => m.isAnn || m.age < 15,
      sending := s.lif.sending.map fun x => if x.msg.age = 15 then { x with msg := x.msg.older } else x } := by
    refine h.thinned (otherCount_sublist part) (annCount_sublist part) (classesRise_sublist part h.rises)
      (queueYoung_sublist part h.queueYoung) (fun quiet => ?_) ?_
    · rw [(h.silent quiet).1]
      rfl
    · cases s.lif.sending with
      | none => rfl
      | some x =>
        simp only [Option.map_some]
        split <;> simp [TxMsg.older_isAnn]
  unfold State.expireTxq
  dsimp only
  split <;> exact aged

/-- With the line busy the flags of the line are free (R22). -/
theorem Lif.Legal.busy {l : Lif} (h : l.Legal) (w : LineWatch) (emitting : Bool) :
    Lif.Legal { l with idle := false, watch := w, emitting := emitting } :=
  { h with line := fun idle => nomatch idle }

/-- The messages that can be begun are discarded or sent in their order (R25, R31). -/
theorem State.beginHead_legal {q : List TxMsg} {s : State} (h : s.lif.Legal) (quiet : s.lif.sending = none)
    (loud : s.lif.listenOnly = false) (part : q.Sublist s.lif.waiting) : (State.beginHead q s).lif.Legal := by
  have held : s.lif.heldAnn = none := by
    cases held : s.lif.heldAnn with
    | none => rfl
    | some m =>
      obtain ⟨x, sends, -⟩ := h.sends_of_held held
      exact absurd (quiet.symm.trans sends) (by simp)
  have few := h.bounded
  rw [Lif.nonAnnouncements_eq] at few
  have one := h.announced
  rw [Lif.announcements_eq] at one
  induction q generalizing s with
  | nil =>
    exact .ofWaiting quiet held (Nat.zero_le _) (Nat.zero_le _) rfl (fun _ hm => nomatch hm) (fun _ => rfl) h.flags fun idle =>
      ⟨(h.line idle).1, (h.line idle).2.2⟩
  | cons m q ih =>
    unfold State.beginHead
    split
    · exact ih (s := s.latch .txDropped) h quiet loud ((List.sublist_cons_self m q).trans part) held few one
    · have others := otherCount_sublist part
      have anns := annCount_sublist part
      rw [otherCount_cons] at others
      rw [annCount_cons] at anns
      exact
        { bounded := by
            change otherCount q + (if m.isAnn then 0 else 1) ≤ 7
            omega
          announced := by
            change annCount q + (if m.isAnn then 1 else 0) ≤ 1
            omega
          rises := classesRise_sublist ((List.sublist_cons_self m q).trans part) h.rises
          heldBehind := by simp [Lif.heldLegal, held]
          heldAnn := by simp [held]
          young := (queueYoung_iff _).mpr (queueYoung_sublist ((List.sublist_cons_self m q).trans part) h.queueYoung)
          silent := fun silent => absurd silent (by simp [loud])
          flags := h.flags
          line := fun idle => nomatch idle }

/-- What a duplicate makes of the line (R37, R38). -/
theorem State.becomeDuplicate_lif (lets : Bool) (s : State) :
    (s.becomeDuplicate lets).lif = { s.lif with
      duplicate := true, listenOnly := true, waiting := [], heldAnn := none,
      sending := s.lif.sending.bind fun x => if lets && x.msg.isAnn then some { x with leaves := true } else none } := by
  unfold State.becomeDuplicate
  by_cases met : s.lif.duplicate = true <;> cases sends : s.lif.sending <;> simp [met, sends]

/-- A duplicate has nothing to send but an announcement let finish (R37, R38). -/
theorem State.becomeDuplicate_legal {lets : Bool} {s : State} (busy : s.lif.idle = false) :
    (s.becomeDuplicate lets).lif.Legal := by
  have sent : ∀ x ∈ s.lif.sending.bind fun x => if lets && x.msg.isAnn then some { x with leaves := true } else none,
      x.leaves = true ∧ x.msg.isAnn = true := by
    intro x hx
    obtain ⟨y, -, hy⟩ := Option.bind_eq_some_iff.mp hx
    obtain ⟨finishes, hx⟩ := Option.ite_none_right_eq_some.mp hy
    cases hx
    exact ⟨rfl, ((Bool.and_eq_true _ _).mp finishes).2⟩
  rw [State.becomeDuplicate_lif]
  generalize s.lif.sending.bind _ = sending at sent
  exact
    { bounded := by cases sending <;> simp_all [Lif.nonAnnouncements]
      announced := by cases sending <;> simp_all [Lif.announcements]
      rises := rfl
      heldBehind := rfl
      heldAnn := rfl
      young := rfl
      silent := fun _ => ⟨rfl, rfl, by cases sending <;> simp_all⟩
      flags := fun _ => rfl
      line := fun idle => absurd (busy.symm.trans idle) (by simp) }

/-- The queue at RESTART keeps its announcement, and the message on the line is marked to leave (R39). -/
theorem State.restartQueues_legal {s : State} (h : s.lif.Legal) : s.restartQueues.lif.Legal := by
  have part : (s.lif.waiting.filter (·.isAnn)).Sublist s.lif.waiting := List.filter_sublist
  have few := h.bounded
  have one := h.announced
  rw [Lif.nonAnnouncements_eq] at few
  rw [Lif.announcements_eq] at one
  have others := otherCount_sublist part
  have anns := annCount_sublist part
  unfold State.restartQueues
  exact
    { bounded := by
        refine le_trans ?_ few
        refine Nat.add_le_add others ?_
        cases hs : s.lif.sending with
        | none => simp [Lif.otherSent, hs]
        | some x => cases ha : x.msg.isAnn <;> simp [Lif.otherSent, hs, ha]
      announced := by
        refine le_trans ?_ one
        refine Nat.add_le_add anns ?_
        cases hs : s.lif.sending with
        | none => simp [Lif.annSent, hs]
        | some x => cases ha : x.msg.isAnn <;> simp [Lif.annSent, hs, ha]
      rises := classesRise_sublist part h.rises
      heldBehind := by
        have behind := h.heldBehind
        cases hs : s.lif.sending with
        | none => simp_all [Lif.heldLegal]
        | some x => cases ha : x.msg.isAnn <;> simp_all [Lif.heldLegal]
      heldAnn := h.heldAnn
      young := (queueYoung_iff _).mpr (queueYoung_sublist part h.queueYoung)
      silent := fun quiet => by
        obtain ⟨empty, held, leaves⟩ := h.silent quiet
        refine ⟨by simp [empty], held, ?_⟩
        cases hs : s.lif.sending with
        | none => rfl
        | some x => cases ha : x.msg.isAnn <;> simp_all
      flags := h.flags
      line := fun idle => by
        obtain ⟨watch, none, emitting⟩ := h.line idle
        exact ⟨watch, by simp [none], emitting⟩ }

/-- A directive handed over with room in the queue (R173). -/
theorem State.txDirective_legal {s : State} {dest : BitVec 5} {seq : Byte} {payload : List Byte} (h : s.lif.Legal)
    (loud : s.lif.listenOnly = false) (room : s.lif.full = false) : (s.txDirective dest seq payload).lif.Legal := by
  have same : (s.txDirective dest seq payload).lif =
      (s.txJoin { kind := .directive, dest := dest, seq := seq, payload := payload, age := 0 }).lif := by
    simp [State.txDirective, State.txJoin, loud, room]
  rw [same]
  exact State.txJoin_legal h rfl (Nat.zero_lt_succ _)

end Sys2Proof.Machine
end

section
/-! SUPPORT. Labels, frame counts and the signed difference (R2 to R8): the clock a label spells, and what a label rate and the dropped
labels make of it. -/

namespace Sys2Proof.Machine

/-- A byte keeps a number below 256. -/
theorem toNat_byteOf {n : Nat} (h : n < 256) : (byteOf n).toNat = n := by
  rw [byteOf, BitVec.toNat_ofNat]
  exact Nat.mod_eq_of_lt h

/-- The minutes since midnight of a frame number counted at 30 a second. -/
def Label.minute (l : Label) : Nat := 60 * l.hours.toNat + l.minutes.toNat

/-- The frame number of a label at a label rate, no label dropped (R2). -/
def Label.number (std : Standard) (l : Label) : Nat :=
  (l.hours.toNat * 3600 + l.minutes.toNat * 60 + l.seconds.toNat) * std.rate + l.frames.toNat

theorem labelCount_eq_some_iff (std : Standard) (l : Label) (c : Nat) :
    labelCount std l = some c ↔ Label.valid std l = true ∧
      c = if std = .f30d then Label.number std l - 2 * (Label.minute l - Label.minute l / 10) else Label.number std l := by
  unfold labelCount
  split
  · rename_i valid
    simp only [valid, true_and]
    by_cases h : std = .f30d <;> simp only [h, if_true, if_false, Option.some.injEq] <;> exact eq_comm
  · rename_i invalid
    simp [invalid]

theorem Label.inBounds_iff (std : Standard) (l : Label) :
    Label.inBounds std l = true ↔
      l.hours.toNat ≤ 23 ∧ l.minutes.toNat ≤ 59 ∧ l.seconds.toNat ≤ 59 ∧ l.frames.toNat < std.rate := by
  simp [Label.inBounds, and_assoc]

theorem Label.valid_iff (std : Standard) (l : Label) :
    Label.valid std l = true ↔ Label.inBounds std l = true ∧
      (std = .f30d → l.seconds.toNat = 0 → l.minutes.toNat % 10 ≠ 0 → 2 ≤ l.frames.toNat) := by
  have two : ¬ l.frames.toNat < 2 ↔ 2 ≤ l.frames.toNat := Nat.not_lt
  cases std <;> simp [Label.valid, Label.dropped]
  intro _
  tauto

/-- The label of a clock reading is the reading, its fields within their bounds. -/
theorem countLabel_fields (std : Standard) (c : Nat) (h : undropped std c < std.rate * 86400) :
    let l := countLabel std c
    let t := undropped std c / std.rate
    l.hours.toNat = t / 3600 ∧ l.minutes.toNat = t / 60 % 60 ∧ l.seconds.toNat = t % 60 ∧
      l.frames.toNat = undropped std c % std.rate ∧ t < 86400 := by
  have rate : std.rate = 25 ∨ std.rate = 30 := by cases std <;> simp [Standard.rate]
  have ht : undropped std c / std.rate < 86400 := Nat.div_lt_of_lt_mul h
  have hf : undropped std c % std.rate < 256 := (Nat.mod_lt _ (by omega)).trans (by omega)
  exact ⟨toNat_byteOf (by omega), toNat_byteOf (by omega), toNat_byteOf (by omega), toNat_byteOf hf, ht⟩

/-- A label is its four fields. -/
theorem Label.ext_toNat {k l : Label} (hh : k.hours.toNat = l.hours.toNat) (hm : k.minutes.toNat = l.minutes.toNat)
    (hs : k.seconds.toNat = l.seconds.toNat) (hf : k.frames.toNat = l.frames.toNat) : k = l := by
  cases k
  cases l
  simp only [Label.mk.injEq]
  exact ⟨BitVec.eq_of_toNat_eq hh, BitVec.eq_of_toNat_eq hm, BitVec.eq_of_toNat_eq hs, BitVec.eq_of_toNat_eq hf⟩

/-- A frame number of the day spells a clock reading of the day. -/
theorem undropped_lt (std : Standard) {c : Nat} (h : c < std.framesPerDay) : undropped std c < std.rate * 86400 := by
  cases std <;> simp only [undropped, Standard.framesPerDay, Standard.rate, reduceCtorEq, if_true, if_false] at *
  · omega
  · omega
  · split <;> omega

/-- Under F30D a frame number is a count with two numbers put in at each minute but the tenth ones, and its place in its minute
tells whether they were (R3, R5). -/
theorem undropped_f30d (c : Nat) :
    let n := undropped .f30d c
    n - 2 * (n / 1800 - n / 1800 / 10) = c ∧ (n / 1800 % 10 ≠ 0 → 2 ≤ n % 1800) := by
  simp only [undropped, if_true]
  have whole : c = 17982 * (c / 17982) + c % 17982 := (Nat.div_add_mod ..).symm
  have part : c % 17982 < 17982 := Nat.mod_lt _ (by decide)
  generalize c / 17982 = d at *
  generalize c % 17982 = r at *
  subst whole
  split
  · omega
  · rename_i late
    have minutes : r - 2 = 1798 * ((r - 2) / 1798) + (r - 2) % 1798 := (Nat.div_add_mod ..).symm
    have place : (r - 2) % 1798 < 1798 := Nat.mod_lt _ (by decide)
    generalize (r - 2) / 1798 = m at *
    generalize (r - 2) % 1798 = q at *
    obtain rfl : r = 2 + 1798 * m + q := by omega
    omega

/-- The count of the label of a count is the count (R2 to R5). -/
theorem labelCount_countLabel (std : Standard) {c : Nat} (h : c < std.framesPerDay) :
    labelCount std (countLabel std c) = some c := by
  obtain ⟨hh, hm, hs, hf, ht⟩ := countLabel_fields std c (undropped_lt std h)
  rw [labelCount_eq_some_iff, Label.valid_iff, Label.inBounds_iff, Label.number, Label.minute, hh, hm, hs, hf]
  cases std
  case f30d =>
    obtain ⟨count, kept⟩ := undropped_f30d c
    clear hh hm hs hf h
    generalize undropped .f30d c = n at *
    have rate : Standard.rate .f30d = 30 := rfl
    rw [rate] at ht ⊢
    rw [if_pos rfl]
    have hours : n / 30 / 3600 * 3600 + n / 30 / 60 % 60 * 60 + n / 30 % 60 = n / 30 := by omega
    have minute : 60 * (n / 30 / 3600) + n / 30 / 60 % 60 = n / 1800 := by omega
    rw [hours, minute, Nat.div_add_mod']
    exact ⟨⟨by omega, fun _ => by omega⟩, count.symm⟩
  all_goals
    have same : ∀ std, std ≠ .f30d → undropped std c = c := fun std h => if_neg h
    rw [same _ (by decide)] at ht ⊢
    clear hh hm hs hf
    refine ⟨⟨?_, fun h => nomatch h⟩, ?_⟩
    · simp only [Standard.rate] at ht ⊢
      omega
    · rw [if_neg (by decide)]
      simp only [Standard.rate]
      omega

/-- Under F30D the number a label spells is its count with two numbers put in at each minute but the tenth ones (R3, R5). -/
theorem undropped_number {minute place : Nat} (inMinute : place < 1800) (kept : minute % 10 ≠ 0 → 2 ≤ place) :
    undropped .f30d (1800 * minute + place - 2 * (minute - minute / 10)) = 1800 * minute + place := by
  have whole : minute = 10 * (minute / 10) + minute % 10 := (Nat.div_add_mod ..).symm
  have part : minute % 10 < 10 := Nat.mod_lt _ (by decide)
  generalize minute / 10 = d at *
  generalize minute % 10 = m at *
  subst whole
  have count : 1800 * (10 * d + m) + place - 2 * (10 * d + m - d) = 17982 * d + (1798 * m + place) := by omega
  have hdiv : (17982 * d + (1798 * m + place)) / 17982 = d := by omega
  have hmod : (17982 * d + (1798 * m + place)) % 17982 = 1798 * m + place := by omega
  simp only [undropped, if_true, count, hdiv, hmod]
  split
  · omega
  · have hminutes : (1798 * m + place - 2) / 1798 = m := by omega
    rw [hminutes]
    omega

/-- A valid label's count is one of the day, and the label is that count's (R2 to R5). -/
theorem countLabel_labelCount (std : Standard) {l : Label} {c : Nat} (h : labelCount std l = some c) :
    c < std.framesPerDay ∧ countLabel std c = l := by
  obtain ⟨valid, count⟩ := (labelCount_eq_some_iff std l c).mp h
  obtain ⟨bounds, kept⟩ := (Label.valid_iff std l).mp valid
  obtain ⟨hh, hm, hs, hf⟩ := (Label.inBounds_iff std l).mp bounds
  have number : c < std.framesPerDay ∧ undropped std c = Label.number std l := by
    unfold Label.number Label.minute at count
    cases std
    case f30d =>
      simp only [Standard.framesPerDay, Standard.rate, Label.number, if_true, forall_const] at *
      have same : (l.hours.toNat * 3600 + l.minutes.toNat * 60 + l.seconds.toNat) * 30 + l.frames.toNat =
          1800 * (60 * l.hours.toNat + l.minutes.toNat) + (30 * l.seconds.toNat + l.frames.toNat) := by omega
      rw [same] at count ⊢
      exact ⟨by omega, count ▸ undropped_number (by omega) (by omega)⟩
    all_goals
      simp only [undropped, Standard.framesPerDay, Standard.rate, Label.number, reduceCtorEq, if_false] at count hf ⊢
      omega
  obtain ⟨inDay, number⟩ := number
  obtain ⟨eh, em, es, ef, -⟩ := countLabel_fields std c (undropped_lt std inDay)
  rw [number] at eh em es ef
  refine ⟨inDay, Label.ext_toNat ?_ ?_ ?_ ?_⟩ <;> cases std <;> simp only [Label.number, Standard.rate] at * <;> omega

end Sys2Proof.Machine

open Sys2Proof Sys2Proof.Machine

/-- Settles O13: labels and counts convert by the clock a label spells, the dropped labels taken off; the signed difference is the
remainder of the day taken in its lower or its upper half. -/
theorem labelsCountsAndDifferencesAgree : Obligations.LabelsCountsAndDifferencesAgree := by
  refine ⟨fun std c => labelCount_countLabel std, fun std l c => countLabel_labelCount std, fun std a b ha hb => ?_⟩
  have day : std.day = 552960000 ∨ std.day = 663552000 ∨ std.day = 662888448 := by cases std <;> decide
  unfold diff wrapDay
  generalize std.day = v at *
  obtain rfl | rfl | rfl := day <;> dsimp only <;> split <;> split <;> omega

end

section
/-! SUPPORT. What the Position Unit, the Field Timing Unit, the Local Port, the Peer Table and the zone table keep of their ranges. -/

namespace Sys2Proof.Machine

/-! ### The Position Unit (R9 to R20) -/

/-- The counts of the Position Unit in range under a configuration (R9). -/
def Psu.inRange (u : Psu) (c : Settings) : Prop :=
  1 ≤ c.tpf ∧ u.p.natAbs < c.tpf ∧ u.motion < c.tpf ∧ u.missing ≤ c.dropoutWindow + 1 ∧
    u.anchor < c.standard.framesPerDay ∧ ∀ k, u.candidate = some k → k.motion ≤ 3 * c.tpf / 2 + 1

theorem State.positionLegal_iff (s : State) :
    s.positionLegal ↔ s.psu.speed.natAbs ≤ 32767 ∧
      (s.psu.source = .noSource → s.psu.anchor = 0 ∧ s.psu.p = 0 ∧ s.psu.motion = 0 ∧ s.psu.missing = 0 ∧
        s.psu.candidate = none) ∧
      (s.dhd.config.isNone = true → s.psu.source = .noSource) ∧ ∀ c, s.dhd.config = some c → s.psu.inRange c := by
  have all (o : Option Candidate) (n : Nat) :
      (o.all fun k => k.motion ≤ n) = true ↔ ∀ k, o = some k → k.motion ≤ n := by cases o <;> simp
  unfold State.positionLegal Psu.inRange
  cases s.dhd.config with
  | none => simp
  | some c => simp only [Option.all_some, Bool.and_eq_true, decide_eq_true_eq, and_assoc, all, Option.some.injEq, forall_eq']

/-- A Position Unit with a position stays legal while its counts stay in range. -/
theorem State.positionLegal_of_inRange {s : State} {u : Psu} {c : Settings} (h : s.positionLegal) (hc : s.dhd.config = some c)
    (speed : u.speed = s.psu.speed) (source : u.source ≠ .noSource) (range : s.psu.inRange c → u.inRange c) :
    ({ s with psu := u } : State).positionLegal := by
  rw [State.positionLegal_iff] at *
  obtain ⟨hspeed, -, -, hrange⟩ := h
  refine ⟨speed ▸ hspeed, fun none => absurd none source, fun none => by simp [hc] at none, fun c' hc' => ?_⟩
  obtain rfl : c = c' := Option.some.inj (hc.symm.trans hc')
  exact range (hrange c hc)

theorem framesPerDay_pos (std : Standard) : 0 < std.framesPerDay := by cases std <;> decide

theorem frameAdd_lt {w : Nat} (hw : 0 < w) (c : Nat) (n : Int) : frameAdd w c n < w := by
  unfold frameAdd
  have := Int.emod_lt_of_pos ((c : Int) + n) (by omega : (0 : Int) < w)
  have := Int.emod_nonneg ((c : Int) + n) (by omega : (w : Int) ≠ 0)
  omega

/-- One pulse, rebased at a whole frame, leaves a count shorter than a frame (R11). -/
theorem Psu.inRange.rebased {u : Psu} {c : Settings} {d : Int} (h : u.inRange c) (hd : d.natAbs = 1) :
    (rebase c.standard c.tpf d u).inRange c := by
  obtain ⟨htpf, hp, hmotion, hmissing, hanchor, hcandidate⟩ := h
  have moved (n : Int) := frameAdd_lt (framesPerDay_pos c.standard) u.anchor n
  unfold rebase
  dsimp only
  split
  · exact ⟨htpf, htpf, hmotion, hmissing, moved 1, hcandidate⟩
  · split
    · exact ⟨htpf, htpf, hmotion, hmissing, moved (-1), hcandidate⟩
    · exact ⟨htpf, by dsimp only; omega, hmotion, hmissing, hanchor, hcandidate⟩

/-- What a rebased pulse leaves (R11). -/
theorem rebase_leaves (std : Standard) (tpf : Nat) (d : Int) (u : Psu) :
    rebase std tpf d u = { u with p := (rebase std tpf d u).p, anchor := (rebase std tpf d u).anchor } := by
  unfold rebase
  dsimp only
  split
  · rfl
  · split <;> rfl

theorem ageCandidate_le {tpf : Nat} {o : Option Candidate} (k : Candidate) (h : ageCandidate tpf o = some k) :
    k.motion ≤ 3 * tpf / 2 + 1 := by
  cases o with
  | none => contradiction
  | some c =>
    obtain ⟨short, same⟩ := Option.ite_none_left_eq_some.mp h
    cases same
    simp only [candidateLife] at short
    dsimp only
    omega

/-- A frame of motion without a word keeps the missing count within the window and one (R18). -/
theorem State.frameOfMotion_legal {s : State} {c : Settings} (h : s.positionLegal) (hc : s.dhd.config = some c) :
    (s.frameOfMotion c.dropoutWindow).positionLegal := by
  unfold State.frameOfMotion State.loseCode
  split
  · rename_i code
    split
    · exact State.positionLegal_of_inRange (u := { s.psu with source := .tach, missing := c.dropoutWindow + 1 }) h hc rfl
        (by simp) fun ⟨h1, h2, h3, _, h5, h6⟩ => ⟨h1, h2, h3, Nat.le_refl _, h5, h6⟩
    · refine State.positionLegal_of_inRange h hc rfl (by simp [code]) fun ⟨h1, h2, h3, _, h5, h6⟩ =>
        ⟨h1, h2, h3, ?_, h5, h6⟩
      dsimp only
      omega
  · exact h

theorem State.countPulse_legal {s : State} {c : Settings} {d : Int} (h : s.positionLegal) (hc : s.dhd.config = some c)
    (hd : d.natAbs = 1) (source : s.psu.source ≠ .noSource) : (s.countPulse c d).positionLegal := by
  have left := rebase_leaves c.standard c.tpf d s.psu
  have moved (m : Nat) (hm : 1 ≤ c.tpf → m < c.tpf) : ({ s with psu := { rebase c.standard c.tpf d s.psu with
      candidate := ageCandidate c.tpf (rebase c.standard c.tpf d s.psu).candidate, motion := m } } : State).positionLegal := by
    refine State.positionLegal_of_inRange h hc (by rw [left]) (by rw [left]; exact source) fun range => ?_
    obtain ⟨h1, h2, -, h4, h5, -⟩ := range.rebased hd
    exact ⟨h1, h2, hm h1, h4, h5, fun k hk => ageCandidate_le k hk⟩
  unfold State.countPulse
  dsimp only
  split
  · exact moved _ (fun _ => by omega)
  · exact State.frameOfMotion_legal (moved 0 (by omega)) hc

/-- A change of what no range speaks of. -/
theorem State.positionLegal_of_ranges {s : State} {u : Psu} (h : s.positionLegal)
    (hu : u = { s.psu with fieldTotal := u.fieldTotal, speed := u.speed }) (speed : u.speed.natAbs ≤ 32767) :
    ({ s with psu := u } : State).positionLegal := by
  rw [hu]
  exact ⟨speed, h.2⟩

theorem State.tach_legal {s : State} {forward : Bool} (h : s.positionLegal) : (s.tach forward).positionLegal := by
  unfold State.tach
  generalize hd : (if forward then 1 else -1 : Int) = d
  have one : d.natAbs = 1 := by
    subst hd
    split <;> rfl
  have counted : ({ s with psu := { s.psu with fieldTotal := s.psu.fieldTotal + d } } : State).positionLegal :=
    State.positionLegal_of_ranges h rfl h.1
  dsimp only
  split
  · rename_i c hc
    split
    · rename_i moves
      exact State.countPulse_legal counted hc one (by simpa using (Bool.and_eq_true_iff.mp moves).2)
    · exact counted
  · exact counted

theorem State.adoptWord_legal {s : State} {cfg : Settings} {c : Nat} (h : s.positionLegal) (hcfg : s.dhd.config = some cfg)
    (hc : c < cfg.standard.framesPerDay) : (s.adoptWord c).positionLegal :=
  State.positionLegal_of_inRange h hcfg rfl (by simp) fun ⟨h1, _⟩ =>
    ⟨h1, h1, h1, Nat.zero_le _, hc, fun _ hk => nomatch hk⟩

theorem State.takeCandidate_legal {s : State} {cfg : Settings} {j : Int} (h : s.positionLegal) (hcfg : s.dhd.config = some cfg)
    (source : s.psu.source ≠ .noSource) : (s.takeCandidate j).positionLegal :=
  State.positionLegal_of_inRange h hcfg rfl source fun ⟨h1, h2, h3, h4, h5, _⟩ =>
    ⟨h1, h2, h3, h4, h5, fun k hk => by
      cases hk
      exact Nat.zero_le _⟩

/-- A station with a position has a source. -/
theorem State.source_of_own {s : State} {x : Nat} (h : s.own = some x) : s.psu.source ≠ .noSource := by
  intro none
  simp [State.own, none] at h

theorem State.readWord_legal {s : State} {label : Label} (h : s.positionLegal) : (s.readWord label).positionLegal := by
  unfold State.readWord
  split
  · rename_i cfg hcfg
    split
    · split
      · exact h
      · rename_i c hc
        have inDay := (countLabel_labelCount cfg.standard hc).1
        split
        · exact State.adoptWord_legal h hcfg inDay
        · rename_i x hx
          have source := State.source_of_own hx
          unfold State.judgeWord
          split
          · exact State.adoptWord_legal h hcfg inDay
          · split
            · exact State.takeCandidate_legal h hcfg source
            · split
              · exact State.adoptWord_legal h hcfg inDay
              · exact State.takeCandidate_legal h hcfg source
    · exact h
  · exact h

theorem State.dropCandidate_legal {s : State} (h : s.positionLegal) :
    ({ s with psu := { s.psu with candidate := none } } : State).positionLegal := by
  rw [State.positionLegal_iff] at *
  obtain ⟨h1, h2, h3, h4⟩ := h
  refine ⟨h1, fun none => ?_, h3, fun c hc => ?_⟩
  · obtain ⟨k1, k2, k3, k4, -⟩ := h2 none
    exact ⟨k1, k2, k3, k4, rfl⟩
  · obtain ⟨k1, k2, k3, k4, k5, -⟩ := h4 c hc
    exact ⟨k1, k2, k3, k4, k5, fun _ hk => nomatch hk⟩

theorem State.losePosition_legal {s : State} (h : s.positionLegal) : s.losePosition.positionLegal := by
  rw [State.positionLegal_iff] at *
  obtain ⟨h1, -, -, h4⟩ := h
  refine ⟨h1, fun _ => ⟨rfl, rfl, rfl, rfl, rfl⟩, fun _ => rfl, fun c hc => ?_⟩
  obtain ⟨k1, -⟩ := h4 c hc
  exact ⟨k1, k1, k1, Nat.zero_le _, framesPerDay_pos _, fun _ hk => nomatch hk⟩

theorem State.measureSpeed_legal {s : State} (h : s.positionLegal) : s.measureSpeed.positionLegal := by
  refine State.positionLegal_of_ranges h rfl ?_
  dsimp only
  unfold clampInt
  split
  · split
    · decide
    · split
      · decide
      · omega
  · decide

/-- The ranges of an accepted CONFIGURE record that the invariants speak of (R62). -/
structure Settings.Legal (c : Settings) : Prop where
  tpf : 1 ≤ c.tpf

theorem State.setConfig_positionLegal {s : State} {c : Settings} (h : s.positionLegal) (none : s.dhd.config = none)
    (hc : c.Legal) : (s.setConfig c).positionLegal := by
  rw [State.positionLegal_iff] at *
  obtain ⟨h1, h2, h3, -⟩ := h
  obtain ⟨k1, k2, k3, k4, k5⟩ := h2 (h3 (by simp [none]))
  refine ⟨h1, h2, fun h => absurd h (by simp), fun c' hc' => ?_⟩
  obtain rfl : c = c' := Option.some.inj hc'
  have tpf := hc.tpf
  simp only [Psu.inRange, State.setConfig_psu, k1, k2, k3, k4, k5]
  exact ⟨tpf, tpf, tpf, Nat.zero_le _, framesPerDay_pos _, fun _ hk => nomatch hk⟩

/-! ### The Local Port (R171 to R175) -/

/-- The port's bounds (R171). -/
def Lpt.Legal (l : Lpt) : Prop :=
  l.buffer.length ≤ 35 ∧ l.rxQueue.length ≤ 8 ∧ ∀ m ∈ l.rxQueue, m.place ≤ m.bytes.length

theorem State.portLegal_iff (s : State) : s.portLegal ↔ s.lpt.Legal := by
  simp [State.portLegal, Lpt.Legal]

theorem Lpt.assemble_legal {l : Lpt} {byte : Byte} (h : l.Legal) : (l.assemble byte).Legal := by
  obtain ⟨hbuffer, hrest⟩ := h
  unfold Lpt.assemble
  split
  · exact ⟨hbuffer, hrest⟩
  · refine ⟨?_, hrest⟩
    simp only [List.length_append, List.length_cons, List.length_nil]
    omega

theorem Lpt.withOutcome_legal {l : Lpt} {o : SendOutcome} (h : l.Legal) : (l.withOutcome o).Legal := by
  obtain ⟨hbuffer, hrest⟩ := h
  refine ⟨?_, hrest⟩
  unfold Lpt.withOutcome
  dsimp only
  split
  · exact Nat.zero_le _
  · exact hbuffer

theorem Lpt.cleared_legal {l : Lpt} (h : l.Legal) : l.cleared.Legal := ⟨Nat.zero_le _, h.2⟩

theorem Lpt.dropHead_legal {l : Lpt} (h : l.Legal) : l.dropHead.Legal := by
  obtain ⟨hbuffer, hlength, hplace⟩ := h
  refine ⟨hbuffer, ?_, fun m hm => hplace m (List.mem_of_mem_drop hm)⟩
  simp only [Lpt.dropHead, List.length_drop]
  omega

theorem Lpt.readHead_legal {l : Lpt} (h : l.Legal) : l.readHead.Legal := by
  obtain ⟨hbuffer, hlength, hplace⟩ := h
  refine ⟨hbuffer, ?_⟩
  unfold Lpt.readHead
  cases hq : l.rxQueue with
  | nil => exact ⟨Nat.zero_le _, fun m hm => nomatch hm⟩
  | cons m q =>
    rw [hq] at hlength hplace
    refine ⟨hlength, fun x hx => ?_⟩
    obtain rfl | hx := List.mem_cons.mp hx
    · unfold RxMsg.advanced
      split
      · assumption
      · exact hplace m List.mem_cons_self
    · exact hplace x (List.mem_cons_of_mem _ hx)

theorem State.rxJoin_legal {s : State} {bytes : List Byte} (h : s.lpt.Legal) : (s.rxJoin bytes).lpt.Legal := by
  unfold State.rxJoin
  split
  · exact h
  · rename_i room
    obtain ⟨hbuffer, hlength, hplace⟩ := h
    refine ⟨hbuffer, ?_, fun m hm => ?_⟩
    · simp only [List.length_append, List.length_cons, List.length_nil]
      omega
    · obtain hm | hm := List.mem_append.mp hm
      · exact hplace m hm
      · obtain rfl := List.mem_singleton.mp hm
        exact Nat.zero_le _

/-! ### The Peer Table (R50 to R54) -/

theorem State.storeAnnouncement_eq (n : Nat) (p : Parity) (payload : List Byte) (s : State) :
    s.storeAnnouncement n p payload = s ∨ ∃ e, s.storeAnnouncement n p payload = s.setPeer n (some e) := by
  unfold State.storeAnnouncement
  split
  · dsimp only
    split
    · exact .inr ⟨_, rfl⟩
    · split
      · exact .inr ⟨_, rfl⟩
      · exact .inl rfl
  · exact .inl rfl

/-- An entry set, as the station's own number finds it (R50). -/
theorem State.setPeer_legal {s : State} {n : Nat} {e : Option PeerEntry} (h : s.peersLegal)
    (notOwn : s.isOwn n = true → e = none) : (s.setPeer n e).peersLegal := by
  obtain ⟨hentries, hviews, hown⟩ := h
  unfold State.setPeer
  split
  · exact ⟨hentries, hviews, hown⟩
  · rename_i positive
    refine ⟨by simpa using hentries, hviews, fun m hm => ?_⟩
    have before := hown m hm
    simp only [State.peer] at before ⊢
    split
    · rfl
    · rename_i mpositive
      rw [if_neg mpositive] at before
      rw [List.getElem?_set]
      split
      · rename_i same
        obtain rfl : n = m := by omega
        rw [notOwn hm]
        split <;> rfl
      · exact before

/-- The entries changed one by one, none where none was (R53, R54). -/
theorem State.mapEntries_legal {s : State} {f : Option PeerEntry → Option PeerEntry} {views : List PeerView}
    (h : s.peersLegal) (hf : f none = none) (hviews : views.length = 30) :
    ({ s with ptb := { s.ptb with entries := s.ptb.entries.map f, views := views } } : State).peersLegal := by
  obtain ⟨hentries, -, hown⟩ := h
  refine ⟨by simpa using hentries, hviews, fun m hm => ?_⟩
  have before := hown m hm
  simp only [State.peer] at before ⊢
  split
  · rfl
  · rename_i positive
    rw [if_neg positive] at before
    rw [List.getElem?_map]
    cases he : s.ptb.entries[m - 1]? with
    | none => rfl
    | some e =>
      rw [he] at before
      cases e with
      | none => simp [hf]
      | some e => contradiction

theorem State.viewsFrom_length (s : State) (n : Nat) (es : List (Option PeerEntry)) : (s.viewsFrom n es).length = es.length := by
  induction es generalizing n with
  | nil => rfl
  | cons e es ih => simp [State.viewsFrom, ih]

theorem State.agePeers_legal {s : State} (h : s.peersLegal) : s.agePeers.peersLegal :=
  State.mapEntries_legal (f := removeOld s.ftu.counter) h rfl (by rw [State.viewsFrom_length, List.length_map, h.1])

/-! ### The zone table (R151, R152) -/

/-- Zones in ascending order and disjoint, as pairs. -/
theorem zonesOrdered_iff (zs : List Zone) :
    zonesOrdered zs = true ↔ (∀ z ∈ zs, z.start < z.stop) ∧ zs.Pairwise fun y z => y.stop ≤ z.start := by
  induction zs with
  | nil => simp [zonesOrdered]
  | cons z zs ih =>
    cases zs with
    | nil => simp [zonesOrdered]
    | cons y zs =>
      simp only [zonesOrdered, Bool.and_eq_true, decide_eq_true_eq, ih]
      constructor
      · rintro ⟨⟨hz, hzy⟩, hlong, hpair⟩
        refine ⟨by simpa [hz] using hlong, List.pairwise_cons.mpr ⟨fun x hx => ?_, hpair⟩⟩
        obtain rfl | hx := List.mem_cons.mp hx
        · exact hzy
        · have := hlong y List.mem_cons_self
          have := (List.pairwise_cons.mp hpair).1 x hx
          omega
      · rintro ⟨hlong, hpair⟩
        obtain ⟨hz, hpair⟩ := List.pairwise_cons.mp hpair
        exact ⟨⟨hlong z List.mem_cons_self, hz y List.mem_cons_self⟩, fun x hx => hlong x (List.mem_cons_of_mem _ hx), hpair⟩

theorem insertZone_perm (z : Zone) (zs : List Zone) : (insertZone z zs).Perm (z :: zs) := by
  induction zs with
  | nil => exact .refl _
  | cons x zs ih =>
    unfold insertZone
    split
    · exact .refl _
    · exact (ih.cons x).trans (.swap ..)

/-- A zone that overlaps none stands in the table in ascending order (R151, R152). -/
theorem insertZone_ordered {z : Zone} {zs : List Zone} (h : zonesOrdered zs = true) (hz : z.start < z.stop)
    (clear : ∀ x ∈ zs, z.overlaps x = false) : zonesOrdered (insertZone z zs) = true := by
  rw [zonesOrdered_iff] at *
  obtain ⟨hlong, hpair⟩ := h
  refine ⟨fun x hx => ?_, ?_⟩
  · obtain rfl | hx := List.mem_cons.mp ((insertZone_perm z zs).mem_iff.mp hx)
    · exact hz
    · exact hlong x hx
  · induction zs with
    | nil => simp [insertZone]
    | cons x zs ih =>
      obtain ⟨hx, hrest⟩ := List.pairwise_cons.mp hpair
      have apart := clear x List.mem_cons_self
      simp only [Zone.overlaps, Bool.and_eq_false_iff, decide_eq_false_iff_not] at apart
      have long := hlong x List.mem_cons_self
      unfold insertZone
      split
      · refine List.pairwise_cons.mpr ⟨fun y hy => ?_, hpair⟩
        obtain rfl | hy := List.mem_cons.mp hy
        · omega
        · have := hx y hy
          omega
      · refine List.pairwise_cons.mpr ⟨fun y hy => ?_, ih (fun y hy => clear y (List.mem_cons_of_mem _ hy))
          (fun y hy => hlong y (List.mem_cons_of_mem _ hy)) hrest⟩
        obtain rfl | hy := List.mem_cons.mp ((insertZone_perm z zs).mem_iff.mp hy)
        · omega
        · exact hx y hy

end Sys2Proof.Machine
end

section
/-! SUPPORT. What a whole command is made of: single deeds, each with what it keeps of the invariants, and the runs of such deeds. Every
command but the reset is such a run; the deeds that empty the records, accept a configuration or give a field start are granted to
some alone. -/

namespace Sys2Proof.Machine

/-- What a command may do beside the work every command may do. -/
inductive Grant where
  | plain
  | configures
  | clears
  | fields

/-- One deed that a command is made of. -/
inductive State.Deed (g : Grant) : State → State → Prop
  | change {s t : State} (h : s.Change t) : State.Deed g s t
  | lif (s : State) (l : Lif) (legal : s.lif.Legal → l.Legal) (listens : s.lif.listenOnly = true → l.listenOnly = true)
      (doubled : s.lif.duplicate = true → l.duplicate = true) : State.Deed g s { s with lif := l }
  | lpt (s : State) (l : Lpt) (legal : s.lpt.Legal → l.Legal) : State.Deed g s (s.setLpt l)
  | psu (s : State) (u : Psu) (legal : s.positionLegal → ({ s with psu := u } : State).positionLegal) :
      State.Deed g s { s with psu := u }
  | ftu (s : State) (f : Ftu) (legal : s.clockLegal → (s.setFtu f).clockLegal) (counts : f.counter = s.ftu.counter) :
      State.Deed g s (s.setFtu f)
  | entries (s : State) (es : List (Option PeerEntry))
      (legal : s.peersLegal → ({ s with ptb := { s.ptb with entries := es } } : State).peersLegal) :
      State.Deed g s { s with ptb := { s.ptb with entries := es } }
  | stores (s : State) (c : Csv)
      (stored : (s.csv.state ≠ .off → s.csv.record.isSome = true) → c.state ≠ .off → c.record.isSome = true)
      (master : s.masterLegal → ({ s with csv := c } : State).masterLegal) : State.Deed g s { s with csv := c }
  | pins (s : State) (p : Pins) : State.Deed g s { s with pins := p }
  | zones (s : State) (zs : List Zone) (legal : s.zonesLegal → (s.setZones zs).zonesLegal) : State.Deed g s (s.setZones zs)
  | config (s : State) (c : Settings) (none : s.dhd.config = none) (legal : c.Legal) (granted : g = .configures) :
      State.Deed g s (s.setConfig c)
  | cleared (s : State) (granted : g = .clears) : State.Deed g s s.clearRecords
  | field (s : State) (p : Parity) (m : Nat) (x : FieldSource) (pins : FieldPins) (granted : g = .fields) :
      State.Deed g s (s.fieldStart p m x pins)

/-- A run of deeds. -/
abbrev State.Deeds (g : Grant) : State → State → Prop := Relation.ReflTransGen (State.Deed g)

theorem State.Deeds.trans {g : Grant} {s t u : State} (h : State.Deeds g s t) (k : State.Deeds g t u) : State.Deeds g s u :=
  Relation.ReflTransGen.trans h k

theorem State.Course.deeds {g : Grant} {s t : State} (w : s.Course t) : State.Deeds g s t := w.lift id fun _ _ => .change

theorem State.Work.deeds {g : Grant} {s t : State} (w : s.Work t) : State.Deeds g s t := w.course.deeds

/-- What every single deed keeps, every run of them keeps. -/
theorem State.Deeds.keeps {g : Grant} {P : State → Prop} (h : ∀ s t : State, State.Deed g s t → P s → P t) {s t : State}
    (w : State.Deeds g s t) (hs : P s) : P t := by
  induction w with
  | refl => exact hs
  | tail _ k ih => exact h _ _ k ih

theorem State.Deeds.ite {g : Grant} {s a b : State} {p : Prop} [Decidable p] (h : State.Deeds g s a) (k : State.Deeds g s b) :
    State.Deeds g s (if p then a else b) := by split <;> assumption

variable {g : Grant}

/-! ### The line -/

theorem State.lif_deeds {s : State} (l : Lif) (legal : s.lif.Legal → l.Legal)
    (listens : s.lif.listenOnly = true → l.listenOnly = true := by exact id)
    (doubled : s.lif.duplicate = true → l.duplicate = true := by exact id) : State.Deeds g s { s with lif := l } :=
  .single (.lif s l legal listens doubled)

theorem State.lineBusy_deeds (s : State) : State.Deeds g s s.lineBusy := State.lif_deeds _ fun h => h.busy _ _

/-- The line's own record changes, and TX_DROPPED may be latched. -/
def State.LineShape (s t : State) : Prop :=
  t = { s with lif := t.lif } ∨ t = ({ s with lif := t.lif } : State).latch .txDropped

theorem State.LineShape.deeds {s t : State} (h : s.LineShape t) (legal : s.lif.Legal → t.lif.Legal)
    (listens : t.lif.listenOnly = s.lif.listenOnly) (doubled : t.lif.duplicate = s.lif.duplicate) : State.Deeds g s t := by
  have changed : State.Deeds g s { s with lif := t.lif } :=
    State.lif_deeds t.lif legal (fun k => listens.trans k) fun k => doubled.trans k
  obtain h | h := h <;> rw [h]
  · exact changed
  · exact changed.trans (State.latch_work ..).deeds

theorem State.cutShort_shape (s : State) : s.LineShape s.cutShort := by
  unfold State.LineShape State.cutShort
  split
  · exact .inl rfl
  · dsimp only
    split
    · exact .inl rfl
    · split
      · split <;> exact .inl rfl
      · split
        · exact .inr rfl
        · exact .inl rfl

theorem State.cutShort_deeds (s : State) : State.Deeds g s s.cutShort :=
  s.cutShort_shape.deeds State.cutShort_legal s.cutShort_frame.listenOnly s.cutShort_frame.duplicate

theorem State.sent_deeds (s : State) : State.Deeds g s s.sent := by
  have shape : s.LineShape s.sent := by
    unfold State.LineShape State.sent
    split <;> exact .inl rfl
  exact shape.deeds State.sent_legal s.sent_frame.listenOnly s.sent_frame.duplicate

/-- The messages that wait, or the one on the line, grown older: the flags of the line stand. -/
theorem State.ageTxq_shape (s : State) : s.LineShape s.ageTxq ∧ s.ageTxq.lif.listenOnly = s.lif.listenOnly ∧
    s.ageTxq.lif.duplicate = s.lif.duplicate := by
  unfold State.LineShape State.ageTxq
  dsimp only
  split
  · exact ⟨.inr rfl, rfl, rfl⟩
  · exact ⟨.inl rfl, rfl, rfl⟩

theorem State.expireTxq_shape (s : State) : s.LineShape s.expireTxq ∧ s.expireTxq.lif.listenOnly = s.lif.listenOnly ∧
    s.expireTxq.lif.duplicate = s.lif.duplicate := by
  unfold State.LineShape State.expireTxq
  dsimp only
  split
  · exact ⟨.inr rfl, rfl, rfl⟩
  · exact ⟨.inl rfl, rfl, rfl⟩

theorem State.expireTxq_deeds (s : State) : State.Deeds g s s.expireTxq :=
  have ⟨shape, listens, doubled⟩ := s.expireTxq_shape
  shape.deeds State.expireTxq_legal listens doubled

theorem State.txAnnounce_shape (m : TxMsg) (s : State) : s.txAnnounce m = { s with lif := (s.txAnnounce m).lif } ∧
    (s.txAnnounce m).lif.listenOnly = s.lif.listenOnly ∧ (s.txAnnounce m).lif.duplicate = s.lif.duplicate := by
  unfold State.txAnnounce
  split
  · exact ⟨rfl, rfl, rfl⟩
  · split
    · split <;> exact ⟨rfl, rfl, rfl⟩
    · exact ⟨rfl, rfl, rfl⟩

theorem State.beginHead_deeds (q : List TxMsg) (s : State) (quiet : s.lif.sending = none) (loud : s.lif.listenOnly = false)
    (part : q.Sublist s.lif.waiting) : State.Deeds g s (State.beginHead q s) := by
  induction q generalizing s with
  | nil => exact State.lif_deeds _ fun h => State.beginHead_legal h quiet loud part
  | cons m q ih =>
    by_cases old : m.tooOld = true
    · rw [show State.beginHead (m :: q) s = State.beginHead q (s.latch .txDropped) from if_pos old]
      exact (s.latch_work _).deeds.trans (ih (s.latch .txDropped) quiet loud ((List.sublist_cons_self m q).trans part))
    · have begun : State.beginHead (m :: q) s = { s with lif := { s.lif with
          waiting := q, sending := some { msg := m, frame := s.frameOfMsg m, leaves := false }, idle := false } } := if_neg old
      have legal := fun h => State.beginHead_legal (s := s) h quiet loud part
      rw [begun] at *
      exact State.lif_deeds _ legal

theorem State.becomeDuplicate_deeds (lets : Bool) (s : State) (busy : s.lif.idle = false) :
    State.Deeds g s (s.becomeDuplicate lets) := by
  have lif := s.becomeDuplicate_lif lets
  have changed {t : State} (h : s.Work t) (ht : t.lif = s.lif) :
      State.Deeds g s { t with lif := (s.becomeDuplicate lets).lif } :=
    h.deeds.trans (State.lif_deeds _ (fun _ => State.becomeDuplicate_legal busy) (fun _ => by rw [lif]) fun _ => by rw [lif])
  by_cases met : s.lif.duplicate = true
  · have shape : s.becomeDuplicate lets = { s with lif := (s.becomeDuplicate lets).lif } := by
      simp [State.becomeDuplicate, met]
    exact shape ▸ changed .refl rfl
  · have shape : s.becomeDuplicate lets =
        { s.latch .duplicateStation with lif := (s.becomeDuplicate lets).lif } := by
      simp [State.becomeDuplicate, met]
    exact shape ▸ changed (s.latch_work _) rfl

theorem State.emitStop_deeds (s : State) : State.Deeds g s s.emitStop :=
  s.cutShort_deeds.trans (State.lif_deeds _ fun h => h.busy _ _)

theorem State.requestStop_deeds (s : State) : State.Deeds g s s.requestStop := .ite s.localStop_course.deeds s.emitStop_deeds

theorem State.lineStop_deeds (s : State) : State.Deeds g s s.lineStop :=
  (s.cutShort_deeds.trans (State.lif_deeds _ fun h => h.busy _ _)).trans (State.localStop_course _).deeds

theorem State.stopRun_deeds (s : State) : State.Deeds g s s.stopRun := by
  unfold State.stopRun
  split
  · exact s.lineBusy_deeds
  · exact s.lineBusy_deeds
  · exact s.lineStop_deeds
  · exact s.lineStop_deeds

/-- Frames are let go until the line is idle; the line is busy meanwhile (R23, R24). -/
theorem State.setWatch_deeds (w : LineWatch) (s : State) (busy : s.lif.idle = false) : State.Deeds g s (s.setWatch w) :=
  State.lif_deeds _ fun h => { h with line := fun idle => absurd (busy.symm.trans idle) (by simp) }

theorem State.discardMalformed_deeds (tooLong : Bool) (s : State) (busy : s.lif.idle = false) :
    State.Deeds g s (s.discardMalformed tooLong) :=
  .ite ((s.latch_work _).deeds.trans (State.setWatch_deeds .abandoned (s.latch .lineError) busy)) (s.latch_work _).deeds

theorem State.violation_deeds (s : State) : State.Deeds g s s.violation :=
  ((s.lineBusy_deeds.trans (State.cutShort_deeds _)).trans (State.latch_work ..).deeds).trans
    (State.setWatch_deeds _ _ s.lineBusy.cutShort_frame.idle)

theorem State.dominantRun_deeds (run : Nat) (s : State) : State.Deeds g s (s.dominantRun run) :=
  .ite .refl (.ite s.lineBusy_deeds (.ite s.stopRun_deeds (.ite s.violation_deeds s.lineBusy_deeds)))

/-! ### The port, the peers, the zones -/

theorem State.setLpt_deeds {s : State} (l : Lpt) (legal : s.lpt.Legal → l.Legal) : State.Deeds g s (s.setLpt l) :=
  .single (.lpt s l legal)

theorem State.setPeer_deeds (n : Nat) (e : Option PeerEntry) (s : State) (notOwn : s.isOwn n = true → e = none) :
    State.Deeds g s (s.setPeer n e) := by
  have legal := fun h => State.setPeer_legal (s := s) (n := n) (e := e) h notOwn
  by_cases zero : n = 0
  · rw [show s.setPeer n e = s from if_pos zero]
  · have shape : s.setPeer n e = { s with ptb := { s.ptb with entries := s.ptb.entries.set (n - 1) e } } := if_neg zero
    rw [shape] at legal ⊢
    exact .single (.entries s _ legal)

theorem State.storeAnnouncement_deeds (n : Nat) (p : Parity) (payload : List Byte) (s : State) (notOwn : s.isOwn n = false) :
    State.Deeds g s (s.storeAnnouncement n p payload) := by
  obtain h | ⟨e, h⟩ := s.storeAnnouncement_eq n p payload
  · rw [h]
  · rw [h]
    exact s.setPeer_deeds n _ fun own => absurd (notOwn.symm.trans own) (by simp)

theorem State.loadZone_deeds (a b : Nat) (s : State) : State.Deeds g s (s.loadZone a b).1 := by
  unfold State.loadZone
  dsimp only
  split
  · exact .refl
  · rename_i long
    split
    · exact .refl
    · rename_i clear
      split
      · exact .refl
      · rename_i room
        split
        · exact .refl
        · refine .single (.zones s _ fun ⟨hlength, hordered⟩ => ⟨?_, ?_⟩)
          · show (insertZone _ s.rcc.zones).length ≤ 8
            rw [(insertZone_perm _ _).length_eq, List.length_cons]
            omega
          · exact insertZone_ordered hordered (by simpa using long) (by simpa using clear)

theorem State.clearZones_deeds (s : State) : State.Deeds g s s.clearZones.1 :=
  .single (.zones s [] fun _ => ⟨Nat.zero_le _, rfl⟩)

theorem State.judgeForeign_deeds (s : State) : State.Deeds g s s.judgeForeign :=
  .single (.entries s _ fun h => State.mapEntries_legal (f := fun e => e.map fun x =>
    { x with foreign := s.isForeign x.content.standard }) (views := s.ptb.views) h rfl h.2.1)

end Sys2Proof.Machine
end

section
/-! SUPPORT. Every command as a run of deeds: the field timing, the directives with the ranges their parameters passed, the frames and
the port, and the commands of the table one by one. -/

namespace Sys2Proof.Machine

variable {g : Grant}

/-! ### The field timing (R41 to R46) -/

theorem State.setFtu_deeds {s : State} (f : Ftu) (counts : f.counter = s.ftu.counter)
    (legal : s.clockLegal → (s.setFtu f).clockLegal) :
    State.Deeds g s (s.setFtu f) := .single (.ftu s f legal counts)

theorem State.field_deeds (p : Parity) (m : Nat) (x : FieldSource) (pins : FieldPins) (s : State) :
    State.Deeds .fields s (s.fieldStart p m x pins) := .single (.field s p m x pins rfl)

theorem State.config_of_standard {s : State} {std : Standard} (h : s.standard = some std) : s.dhd.config.isNone = false := by
  cases hc : s.dhd.config <;> simp_all [State.standard]

theorem State.watchRunsOut_deeds (std : Standard) (pins : FieldPins) (s : State) (h : s.standard = some std) :
    State.Deeds .fields s (s.watchRunsOut std pins) := by
  have ready := State.config_of_standard h
  refine .trans (.trans (State.setFtu_deeds s.ftu.fallen (by rfl) fun ⟨h1, h2, h3, _⟩ => ?_) (State.latch_work ..).deeds)
    (State.field_deeds ..)
  exact ⟨h1, h2, h3, fun none => absurd (ready.symm.trans none) (by simp), fun locked => (nomatch locked), fun _ => rfl,
    Nat.zero_le _⟩

theorem State.returnWaitRunsOut_deeds (std : Standard) (pins : FieldPins) (s : State) (h : s.ftu.refState = .fallback) :
    State.Deeds .fields s (s.returnWaitRunsOut std pins) := by
  refine .trans (State.setFtu_deeds _ (by rfl) fun ⟨h1, h2, h3, h4, _⟩ => ?_) (State.field_deeds ..)
  exact ⟨h1, h2, h3, h4, fun locked => absurd (h.symm.trans locked) (by simp), fun _ => rfl, Nat.zero_le _⟩

theorem State.timerFires_deeds (s : State) : State.Deeds .fields s s.timerFires := by
  unfold State.timerFires
  split
  · exact .refl
  · exact s.watchRunsOut_deeds _ _ ‹_›
  · exact State.field_deeds ..
  · exact s.returnWaitRunsOut_deeds _ _ ‹_›

theorem State.runTimers_deeds (most moment : Nat) (s : State) : State.Deeds .fields s (s.runTimers most moment) := by
  induction most generalizing s with
  | zero => exact .refl
  | succ n ih =>
    unfold State.runTimers
    split
    · exact .ite (s.timerFires_deeds.trans (ih _)) .refl
    · exact .refl

theorem State.reachMoment_deeds (moment : Nat) (s : State) : State.Deeds g s (s.reachMoment moment) :=
  State.setFtu_deeds _ (by rfl) fun ⟨h1, h2, h3, hrest⟩ =>
    ⟨h1.trans (Nat.le_max_left ..), h2.trans (Nat.le_max_left ..), h3.trans (Nat.le_max_left ..), hrest⟩

theorem State.passTo_deeds (moment : Nat) (s : State) : State.Deeds .fields s (s.passTo moment) :=
  (s.runTimers_deeds _ _).trans (State.reachMoment_deeds ..)

/-- The return to the reference leaves the timing in agreement (R46). -/
theorem State.returned_deeds (s : State) : State.Deeds g s (s.setFtu (s.ftu.returned s.ftu.now)) :=
  State.setFtu_deeds _ (by rfl) fun ⟨h1, _, h3, _⟩ =>
    ⟨h1, Nat.le_refl _, h3, fun _ => rfl, fun _ => ⟨rfl, rfl⟩, fun fallen => (nomatch fallen), Nat.zero_le _⟩

theorem State.fallbackPulse_deeds (std : Standard) (p : Parity) (pins : FieldPins) (s : State)
    (fallen : s.ftu.refState = .fallback) : State.Deeds .fields s (s.fallbackPulse std p s.ftu.now pins) := by
  have notLocked {f : Ftu} (h : f.refState = s.ftu.refState) (locked : f.refState = .lockedRef) : False := by
    rw [h, fallen] at locked
    contradiction
  unfold State.fallbackPulse
  split
  · exact s.returned_deeds.trans (State.field_deeds ..)
  · rename_i atIdle
    refine .ite ?_ (State.setFtu_deeds _ (by rfl) fun ⟨h1, _, h3, h4, h5, h6, _⟩ => ⟨h1, Nat.le_refl _, h3, h4, h5, h6, Nat.zero_le _⟩)
    split
    · refine .ite (s.returned_deeds.trans (State.field_deeds ..)) (State.setFtu_deeds _ (by rfl) fun ⟨h1, _, h3, h4, _, _, h7⟩ => ?_)
      exact ⟨h1, Nat.le_refl _, h3, h4, fun locked => (notLocked rfl locked).elim, fun _ => rfl, h7⟩
    · rename_i few
      exact State.setFtu_deeds _ (by rfl) fun ⟨h1, _, h3, h4, h5, h6, _⟩ => ⟨h1, Nat.le_refl _, h3, h4, h5, h6, by
        simp only [State.setFtu_ftu]
        omega⟩

theorem State.refPulseTaken_deeds (p : Parity) (pins : FieldPins) (s : State) : State.Deeds .fields s (s.refPulseTaken p pins) := by
  unfold State.refPulseTaken
  split
  · exact s.fallbackPulse_deeds _ _ _ ‹_›
  · exact (State.setFtu_deeds { s.ftu with lastPulse := some s.ftu.now } (by rfl) fun ⟨h1, _, hrest⟩ => ⟨h1, Nat.le_refl _, hrest⟩).trans
      (State.field_deeds ..)

theorem State.tick_deeds (s : State) : State.Deeds g s s.tick :=
  State.setFtu_deeds _ (by rfl) fun ⟨h1, h2, h3, hrest⟩ =>
    ⟨h1.trans (Nat.le_succ _), h2.trans (Nat.le_succ _), h3.trans (Nat.le_succ _), hrest⟩

/-! ### The tape and its lines -/

theorem State.psu_deeds {s : State} (u : Psu) (legal : s.positionLegal → ({ s with psu := u } : State).positionLegal) :
    State.Deeds g s { s with psu := u } := .single (.psu s u legal)

/-- A change of the Position Unit's own record, with one event latched beside it or none. -/
theorem State.psu_deeds_of_shape {s t : State} (shape : t = { s with psu := t.psu } ∨ ∃ e, t = ({ s with psu := t.psu } : State).latch e)
    (legal : s.positionLegal → t.positionLegal) : State.Deeds g s t := by
  obtain h | ⟨e, h⟩ := shape
  · rw [h] at legal ⊢
    exact State.psu_deeds _ legal
  · rw [h] at legal ⊢
    exact (State.psu_deeds _ legal).trans (State.latch_work ..).deeds

theorem State.tach_deeds (forward : Bool) (s : State) : State.Deeds g s (s.tach forward) := by
  refine State.psu_deeds_of_shape ?_ State.tach_legal
  unfold State.tach State.countPulse State.frameOfMotion State.loseCode
  dsimp only
  repeat' split
  all_goals first
    | exact .inl rfl
    | exact .inr ⟨_, rfl⟩

theorem State.readWord_deeds (label : Label) (s : State) : State.Deeds g s (s.readWord label) := by
  refine State.psu_deeds_of_shape ?_ State.readWord_legal
  unfold State.readWord State.judgeWord
  repeat' split
  all_goals first
    | exact .inl rfl
    | exact .inr ⟨_, rfl⟩

theorem State.pins_deeds (p : Pins) (s : State) : State.Deeds g s { s with pins := p } := .single (.pins s p)

theorem State.changeTally_deeds (t : Tally) (s : State) : State.Deeds g s (s.changeTally t) := by
  have changed : State.Deeds g s { s with pins := { s.pins with tally := t } } := s.pins_deeds _
  exact .ite changed (.ite (.ite (changed.trans ((State.onMatched_work _).trans (State.settle_work _)).deeds) changed)
    (.ite (changed.trans (State.overridden_work ..).deeds) changed))

theorem State.unthread_deeds (s : State) : State.Deeds g s s.unthread := by
  refine .ite ?_ .refl
  have lost : State.Deeds g s ({ s with pins := { s.pins with threaded := false } } : State).losePosition :=
    (s.pins_deeds _).trans (State.psu_deeds _ State.losePosition_legal)
  refine .ite (lost.trans ?_) lost
  exact ((((((State.setTransport_work ..).trans (State.setRequest_work ..)).trans (State.tsq_work _ _ (by rfl))).trans
    (State.loseTape_work _)).trans (State.chaseOff_work _)).trans (State.emergencyOut_work ..)).trans (State.settle_work _) |>.deeds

theorem State.thread_deeds (s : State) : State.Deeds g s s.thread := by
  refine .ite .refl ?_
  have risen : State.Deeds g s { s with pins := { s.pins with threaded := true } } := s.pins_deeds _
  have stopped := risen.trans (State.setTransport_work .stopped _).deeds
  exact .ite (.ite (stopped.trans ((State.startWait_work _).trans (State.settle_work _)).deeds) stopped) risen

/-! ### The directives (R62 to R78) -/

/-- The ranges of a directive's parameters that the invariants rest on (R62, R68). -/
def Directive.InRange : Directive → Prop
  | .configure record => ∀ c, record = some c → c.Legal
  | .setTransition p => p.legal = true
  | .selectA n => n ≤ 7
  | _ => True

/-- What a directive is granted beside the work every command may do. -/
def Directive.grant : Directive → Grant
  | .configure _ => .configures
  | .restart | .status true true => .clears
  | _ => .plain

/-- The bytes that spell a directive with a grant. -/
def Directive.Spelt (p : List Byte) : Directive → Prop
  | .configure _ => byteAt p 0 = 1
  | .restart => byteAt p 0 = 3
  | .status true true => byteAt p 0 = 2 ∧ byteAt p 1 = 1 ∧ byteAt p 2 = 1
  | _ => True

theorem readSettings_legal {p : List Byte} {c : Settings} (h : readSettings p = some c) : c.Legal := by
  unfold readSettings at h
  split at h
  · contradiction
  · obtain ⟨⟨tpf, -⟩, h⟩ := Option.ite_none_right_eq_some.mp h
    cases h
    exact ⟨tpf⟩

end Sys2Proof.Machine
end

section
/-! SUPPORT. What the checks of R65 leave of a directive: its ranges, and the bytes that spell one with a grant. -/

namespace Sys2Proof.Machine

/-- A directive that no invariant rests on and that has no grant. -/
def Directive.Ordinary : Directive → Prop
  | .configure _ | .setTransition _ | .selectA _ | .restart | .status _ _ => False
  | _ => True

theorem Directive.Ordinary.plain {d : Directive} (h : d.Ordinary) : d.InRange ∧ d.grant = .plain := by
  cases d <;> trivial

theorem Directive.spelt_of_plain {d : Directive} (h : d.grant = .plain) (p : List Byte) : d.Spelt p := by
  cases d with
  | configure | restart => cases h
  | status page clear => cases page <;> cases clear <;> trivial
  | _ => trivial

theorem parseTransport_ordinary {p : List Byte} {d : Directive} (h : parseTransport p = .ok d) : d.Ordinary := by
  unfold parseTransport at h
  repeat' split at h
  all_goals cases h
  all_goals trivial

theorem parseChase_ordinary {std : Standard} {p : List Byte} {d : Directive} (h : parseChase std p = .ok d) : d.Ordinary := by
  unfold parseChase at h
  split at h
  all_goals cases h
  all_goals trivial

theorem parseLoadCue_ordinary {own : Option (BitVec 5)} {std : Standard} {p : List Byte} {d : Directive}
    (h : parseLoadCue own std p = .ok d) : d.Ordinary := by
  unfold parseLoadCue at h
  dsimp only at h
  repeat' split at h
  all_goals cases h
  all_goals trivial

theorem parseAbort_ordinary {p : List Byte} {d : Directive} (h : parseAbort p = .ok d) : d.Ordinary := by
  unfold parseAbort at h
  repeat' split at h
  all_goals cases h
  all_goals trivial

theorem parseRoll_ordinary {fromLine : Bool} {p : List Byte} {d : Directive} (h : parseRoll fromLine p = .ok d) : d.Ordinary := by
  unfold parseRoll at h
  obtain ⟨-, h⟩ | ⟨-, h⟩ := ite_eq_iff.mp h
  · cases h
  · cases h
    trivial

theorem parseSetTransition_plain {p : List Byte} {d : Directive} (h : parseSetTransition p = .ok d) :
    d.InRange ∧ d.grant = .plain := by
  unfold parseSetTransition at h
  dsimp only at h
  split at h
  · split at h
    · cases h
    · rename_i ranges
      cases h
      push Not at ranges
      obtain ⟨source, duration, low, high, -⟩ := ranges
      refine ⟨(Preset.legal_iff _).mpr ⟨source, duration, ?_⟩, rfl⟩
      show (intAt8 p 6).natAbs ≤ 60
      omega
  · cases h

theorem parseConfigured_plain {own : Option (BitVec 5)} {std : Standard} {fromLine : Bool} {p : List Byte} {d : Directive}
    (h : parseConfigured own std fromLine p = .ok d) : d.InRange ∧ d.grant = .plain := by
  unfold parseConfigured at h
  split at h
  · exact (parseTransport_ordinary h).plain
  · split at h <;> cases h
    exact ⟨trivial, rfl⟩
  · unfold parseJog at h
    dsimp only at h
    split at h <;> cases h
    exact ⟨trivial, rfl⟩
  · exact (parseChase_ordinary h).plain
  · exact (parseLoadCue_ordinary h).plain
  · cases h
    exact ⟨trivial, rfl⟩
  · exact (parseRoll_ordinary h).plain
  · unfold parseLoadZone at h
    split at h <;> cases h
    exact ⟨trivial, rfl⟩
  · cases h
    exact ⟨trivial, rfl⟩
  · exact parseSetTransition_plain h
  · split at h
    · cases h
    · cases h
      exact ⟨Nat.le_of_not_lt ‹_›, rfl⟩
  · cases h
    exact ⟨trivial, rfl⟩
  · cases h
    exact ⟨trivial, rfl⟩
  · cases h
    exact ⟨trivial, rfl⟩
  · exact (parseAbort_ordinary h).plain
  · split at h <;> cases h
    exact ⟨trivial, rfl⟩
  · cases h

theorem parseStatus_spelt {p : List Byte} {d : Directive} (type : byteAt p 0 = 2) (h : parseStatus p = .ok d) :
    d.InRange ∧ d.Spelt p := by
  unfold parseStatus at h
  dsimp only at h
  split at h
  · cases h
  · cases h
    refine ⟨trivial, ?_⟩
    cases page : (byteAt p 1).toNat == 1 with
    | false => exact Directive.spelt_of_plain (by cases (byteAt p 2).toNat == 1 <;> rfl) p
    | true =>
      cases clear : (byteAt p 2).toNat == 1 with
      | false => trivial
      | true => exact ⟨type, BitVec.eq_of_toNat_eq (by simpa using page), BitVec.eq_of_toNat_eq (by simpa using clear)⟩

/-- What passes the parameter check is in range, and is spelt by its bytes (R68). -/
theorem parseParams_spelt {own : Option (BitVec 5)} {standard : Option Standard} {fromLine : Bool} {p : List Byte} {d : Directive}
    (h : parseParams own standard fromLine p = .ok d) : d.InRange ∧ d.Spelt p := by
  unfold parseParams at h
  split at h
  · cases h
  split at h
  · rename_i type
    cases h
    exact ⟨fun _ => readSettings_legal, BitVec.eq_of_toNat_eq type⟩
  · rename_i type
    exact parseStatus_spelt (BitVec.eq_of_toNat_eq type) h
  · rename_i type
    cases h
    exact ⟨trivial, BitVec.eq_of_toNat_eq type⟩
  · split at h <;> cases h
    exact ⟨trivial, trivial⟩
  · obtain ⟨inRange, plain⟩ := parseConfigured_plain h
    exact ⟨inRange, Directive.spelt_of_plain plain p⟩
  · cases h

/-- What passes the checks of R65 has a type, is in range, and is spelt by its bytes. -/
theorem State.checkDirective_spelt {s : State} {via : Via} {p : List Byte} {d : Directive} (h : s.checkDirective via p = .ok d) :
    typeUnknown p = false ∧ d.InRange ∧ d.Spelt p := by
  unfold State.checkDirective at h
  repeat' split at h
  · cases h
  · cases h
  · cases h
  · cases h
  · exact ⟨by simpa using ‹¬ typeUnknown p = true›, parseParams_spelt h⟩

/-! ### What each directive does -/

variable {g : Grant}

theorem State.clearRecords_deeds (s : State) : State.Deeds .clears s s.clearRecords := .single (.cleared s rfl)

theorem State.status_deeds (page clear : Bool) (s : State) :
    State.Deeds (Directive.status page clear).grant s (s.status page clear).1 := by
  cases page with
  | false => exact .refl
  | true =>
    cases clear with
    | false => exact .refl
    | true => exact s.clearRecords_deeds

theorem State.acceptConfig_deeds (c : Settings) (s : State) (none : s.dhd.config = none) (legal : c.Legal) :
    State.Deeds .configures s (s.acceptConfig c) := by
  have marked : State.Deeds .configures s s.markAcceptance :=
    State.setFtu_deeds { s.ftu with accepted := some s.ftu.now } (by rfl) fun ⟨h1, h2, _, hrest⟩ => ⟨h1, h2, Nat.le_refl _, hrest⟩
  have set : State.Deeds .configures s (s.markAcceptance.setConfig c) := marked.trans (.single (.config _ c none legal rfl))
  exact ((set.trans (State.judgeForeign_deeds _)).trans (State.configureTransport_work _).deeds).trans
    (State.restEdgeTable_course _).deeds

theorem State.configure_deeds (record : Option Settings) (s : State) (legal : ∀ c, record = some c → c.Legal) :
    State.Deeds .configures s (s.configure record).1 := by
  unfold State.configure
  split
  · exact .refl
  · rename_i fresh
    cases record with
    | none => exact .refl
    | some c => exact s.acceptConfig_deeds c (by simpa using fresh) (legal c rfl)

theorem State.restartQueues_deeds (s : State) : State.Deeds g s s.restartQueues :=
  (State.lif_deeds s.restartQueues.lif fun h => State.restartQueues_legal h).trans
    (State.setLpt_deeds (s := { s with lif := s.restartQueues.lif }) { s.lpt with rxQueue := [] }
      fun h => ⟨h.1, Nat.zero_le _, fun _ none => nomatch none⟩)

theorem State.restartRecord_deeds (s : State) : State.Deeds g s s.restartRecord :=
  have emptied : State.Deeds g s { s with rcc := { s.rcc with state := .idle, record := none, gapCount := 0 } } :=
    (s.rcc_work _ (.inl (by nofun)) (by rfl)).deeds
  emptied.trans (State.clearZones_deeds _)

theorem State.quiet_deeds (s : State) : State.Deeds .clears s s.quiet := by
  have noCues (t : State) : State.Deeds .clears t (t.setCues []) :=
    (t.setCues_course [] fun _ => ⟨Nat.zero_le _, by simp⟩).deeds
  exact ((((((s.restartQueues_deeds.trans (State.restartTransport_work _).deeds).trans (State.chaseOff_work _).deeds).trans
    (noCues _)).trans (State.setRoll_course _ _).deeds).trans (State.restartRecord_deeds _)).trans
    (State.restartTransition_course _).deeds).trans (State.clearRecords_deeds _)

theorem State.reportEnded_work (o : Option PendingOp) (s : State) : s.Work (s.reportEnded o) := by
  unfold State.reportEnded
  split
  · exact .ite .refl (s.answer_work ..)
  · exact .refl

theorem State.noticeEnded_work (st : SegState) (x : Option Segment) (s : State) : s.Work (s.noticeEnded st x) := by
  unfold State.noticeEnded
  split
  · exact s.segmentNotice_work ..
  · exact .refl

theorem State.restart_deeds (i : Issuer) (q : Byte) (s : State) : State.Deeds .clears s (s.restart i q) :=
  s.quiet_deeds.trans (((State.answer_work ..).trans (State.reportEnded_work ..)).trans (State.noticeEnded_work ..)).deeds

theorem State.setRollStart_course (stamp : Count32) (delay : Nat) (engage : Bool) (seq : Byte) (s : State) :
    s.Course (s.setRollStart stamp delay engage seq).1 :=
  have placed := s.setRoll_course (some { start := stamp + BitVec.ofNat 32 delay, engage := engage, seq := seq })
  placed.trans (State.rollDue_course ..)

/-- An active chase has a stored record (R102). -/
def State.ChaseStored (s : State) : Prop := s.csv.state ≠ .off → s.csv.record.isSome = true

/-- A chase at rest, or one whose master is usable, is as the rules say. -/
theorem State.masterLegal_of {s : State} (stored : s.ChaseStored)
    (usable : s.csv.state.follows = true → ∀ r, s.csv.record = some r → (s.view r.master).usable = true) : s.masterLegal := by
  refine ⟨stored, fun follows => ?_⟩
  have follows := (ChaseState.follows_iff _).mpr follows
  obtain ⟨r, hr⟩ := Option.isSome_iff_exists.mp (stored (ChaseState.active_of_follows follows))
  rw [hr]
  exact congrArg some (usable follows r hr)

/-- A record stored while the chase follows no master (R104, R105). -/
theorem State.stores_deeds (c : Csv) (s : State) (rests : c.state.follows = false) (held : c.record.isSome = true) :
    State.Deeds g s { s with csv := c } :=
  .single (.stores s c (fun _ _ => held) fun _ => State.masterLegal_of (fun _ => held) fun follows => by
    exact nomatch (rests.symm.trans follows))

theorem State.startChase_deeds (r : ChaseRecord) (o : Origin) (s : State) : State.Deeds g s (s.startChase r o) :=
  have released := State.Work.ite (p := s.csv.state = .off) s.engageTransport_work s.leaveLock_work
  (released.deeds.trans (State.stores_deeds _ _ rfl rfl)).trans (s.startChase_goesOn r o).deeds

theorem State.enableChase_deeds (r : ChaseRecord) (s : State) : State.Deeds g s (s.enableChase r).1 := by
  unfold State.enableChase
  repeat' split
  · exact .refl
  · exact .refl
  · exact .refl
  · exact .refl
  · exact .refl
  · exact s.startChase_deeds ..

theorem State.storeChase_deeds (r : ChaseRecord) (s : State) : State.Deeds g s (s.storeChase r).1 := by
  unfold State.storeChase
  split
  · exact .refl
  · split
    · exact .refl
    · rename_i off
      exact State.stores_deeds { s.csv with record := some r } s (by rw [not_not.mp off]; rfl) rfl

theorem State.abortSegment_work (s : State) : s.Work s.abortSegment := (s.emergencyOut_work ..).trans (State.settle_work _)

/-- What the owner of a directive does. -/
theorem State.runOwner_deeds {d : Directive} (via : Via) (s : State) (h : d.InRange) :
    State.Deeds d.grant s (s.runOwner d via).1 := by
  cases d with
  | configure record => exact s.configure_deeds record h
  | status page clear => exact s.status_deeds page clear
  | restart => exact s.restart_deeds ..
  | peerQuery n => exact .refl
  | transportStop => exact (s.transportStop_work ..).deeds
  | motion m => exact (s.requestMotion_work ..).deeds
  | chaseEnable r => exact s.enableChase_deeds r
  | chaseStore r => exact s.storeChase_deeds r
  | chaseDisable => exact s.disableChase_work.deeds
  | loadCue c => exact (s.loadCue_course c).deeds
  | dropCue id => exact (s.dropCue_course id).deeds
  | roll delay engage => exact (s.setRollStart_course ..).deeds
  | loadZone a b => exact s.loadZone_deeds a b
  | clearZones => exact s.clearZones_deeds
  | setTransition p => exact (s.setTransition_course p h).deeds
  | selectA n => exact (s.selectSource_course n h).deeds
  | take => exact s.takeTransition_course.deeds
  | pause => exact s.pauseTransition_course.deeds
  | resume => exact s.resumeTransition_course.deeds
  | abortTransportOp => exact s.abortOp_work.deeds
  | abortSegment => exact s.abortSegment_work.deeds
  | abortTransition complete => exact (s.abortTransition_course complete).deeds
  | allStop => exact (s.answer_work ..).deeds.trans (State.requestStop_deeds _)

end Sys2Proof.Machine
end

section
/-! SUPPORT. Every command of the table but the reset is a run of deeds, and a step is a command or a timer's end. -/

namespace Sys2Proof.Machine

/-- The command may accept a configuration: a CONFIGURE, the end of a collision, or SEND. -/
def MayConfigure (i : Instr) : Prop :=
  (∃ via p, i = .configure via p) ∨ (∃ f, i = .ownFrameCollision (.frame f)) ∨ i = .send

/-- The command may empty the records: STATUS page 1 with clear, RESTART, the end of a collision, or SEND. -/
def MayClear (i : Instr) : Prop :=
  (∃ via p, i = .statusPage1Clear via p) ∨ (∃ via p, i = .restart via p) ∨ i = .send ∨ ∃ f, i = .ownFrameCollision (.frame f)

/-- The four commands that can give a field start (R41 to R46). -/
def GivesField (i : Instr) : Prop :=
  (∃ p moment pins, i = .refPulse p moment pins) ∨ (∃ moment pins, i = .refWatchExpires moment pins) ∨
    (∃ pins, i = .internalFieldStart pins) ∨ ∃ pins, i = .returnWaitExpires pins

/-- The deeds of a handling, with what the grants are given for: bytes that configure, bytes that clear and leave the sense record
empty, or a field start. -/
inductive State.Handled (configures clears fields : Prop) (s t : State) : Prop
  | plain (deeds : State.Deeds .plain s t)
  | configured (deeds : State.Deeds .configures s t) (why : configures)
  | cleared (deeds : State.Deeds .clears s t) (empty : t.dhd.sense = none) (why : clears)
  | timed (deeds : State.Deeds .fields s t) (why : fields)

theorem State.Handled.after {a b c : Prop} {s t u : State} (h : ∀ g, State.Deeds g s t) (k : State.Handled a b c t u) :
    State.Handled a b c s u := by
  cases k with
  | plain deeds => exact .plain ((h _).trans deeds)
  | configured deeds why => exact .configured ((h _).trans deeds) why
  | cleared deeds empty why => exact .cleared ((h _).trans deeds) empty why
  | timed deeds why => exact .timed ((h _).trans deeds) why

theorem State.Handled.imp {a b c d e f : Prop} {s t : State} (h : State.Handled a b e s t) (ha : a → c) (hb : b → d)
    (he : e → f := by exact False.elim) : State.Handled c d f s t := by
  cases h with
  | plain deeds => exact .plain deeds
  | configured deeds why => exact .configured deeds (ha why)
  | cleared deeds empty why => exact .cleared deeds empty (hb why)
  | timed deeds why => exact .timed deeds (he why)

/-! ### Directives -/

/-- The bytes of a payload that empty the records. -/
def clearingBytes (p : List Byte) : Prop := byteAt p 0 = 3 ∨ (byteAt p 0 = 2 ∧ byteAt p 1 = 1 ∧ byteAt p 2 = 1)

/-- The event set alone of the records may change. -/
theorem State.answer_sense (i : Issuer) (q y : Byte) (c : Code) (r : List Byte) (s : State) :
    (s.answer i q y c r).dhd.sense = s.dhd.sense := by
  unfold State.answer State.rxJoin State.txJoin
  dsimp only
  repeat' split
  all_goals rfl

theorem State.segmentNotice_sense (x : Segment) (c : Code) (s : State) : (s.segmentNotice x c).dhd.sense = s.dhd.sense := by
  unfold State.segmentNotice State.raiseNotice State.rxJoin State.txJoin
  dsimp only
  repeat' split
  all_goals rfl

theorem State.restart_sense (i : Issuer) (q : Byte) (s : State) : (s.restart i q).dhd.sense = none := by
  unfold State.restart State.noticeEnded State.reportEnded
  repeat' split
  all_goals simp [State.answer_sense, State.segmentNotice_sense, State.quiet]

/-- A directive that is handed over, by the bytes that spell it. -/
theorem State.handDirective_handled (via : Via) (p : List Byte) (s : State) :
    State.Handled (byteAt p 0 = 1) (clearingBytes p) False s (s.handDirective via p) := by
  unfold State.handDirective
  split
  · exact .plain .refl
  split
  · exact .plain (s.answer_work ..).deeds
  rename_i d check
  obtain ⟨-, inRange, spelt⟩ := State.checkDirective_spelt check
  have all : State.Deeds d.grant s
      ((s.runOwner d via).1.reply (Via.issuer via) (Via.seq via) (byteAt p 0) (s.runOwner d via).2) :=
    (s.runOwner_deeds via inRange).trans (State.reply_work ..).deeds
  dsimp only
  cases d with
  | configure => exact .configured all spelt
  | restart => exact .cleared all (s.restart_sense ..) (.inl spelt)
  | status page clear =>
    cases page with
    | false => exact .plain all
    | true =>
      cases clear with
      | false => exact .plain all
      | true => exact .cleared all (State.answer_sense ..) (.inr spelt)
  | _ => exact .plain all

variable {g : Grant}

/-- A directive handed over by the line or the port: nothing but the busy line and LINE_ERROR goes before the handling. -/
theorem State.takeDirective_begins (via : Via) (p : List Byte) (s : State) :
    (∀ g, State.Deeds g s (s.takeDirective via p)) ∨
      ∃ r, (∀ g, State.Deeds g s r) ∧ s.takeDirective via p = r.handDirective via p := by
  unfold State.takeDirective
  split
  · exact .inr ⟨s, fun _ => .refl, rfl⟩
  · split
    · exact .inl fun _ => s.lineBusy_deeds
    · split
      · exact .inl fun _ => s.lineBusy_deeds.trans (State.discardMalformed_deeds _ _ rfl)
      · exact .inr ⟨_, fun _ => s.lineBusy_deeds, rfl⟩

theorem State.takeDirective_handled (via : Via) (p : List Byte) (s : State) :
    State.Handled (byteAt p 0 = 1) (clearingBytes p) False s (s.takeDirective via p) := by
  obtain h | ⟨r, h, k⟩ := s.takeDirective_begins via p
  · exact .plain (h _)
  · exact k ▸ (r.handDirective_handled via p).after h

/-! ### Frames and the port -/

theorem State.rxJoin_work (bytes : List Byte) (s : State) : s.Work (s.rxJoin bytes) := .single (.receive s bytes)

/-- A frame that is not handed on as a directive. -/
theorem State.handFrame_deeds (f : Frame) (s : State) (other : f.cls ≠ 0) (busy : s.lif.idle = false) :
    State.Deeds g s (s.handFrame f) := by
  unfold State.handFrame
  refine (if_neg other) ▸ .ite ?_ (.ite (s.rxJoin_work _).deeds .refl)
  split
  · exact s.becomeDuplicate_deeds true busy
  · rename_i notTwin
    exact s.storeAnnouncement_deeds _ _ _ (by simpa [State.isTwin] using notTwin)

theorem State.handFrame_handled (f : Frame) (s : State) (busy : s.lif.idle = false) :
    State.Handled True True False s (s.handFrame f) := by
  by_cases directive : f.cls = 0
  · rw [show s.handFrame f = s.handDirective (.line f.source f.dest f.seq f.parity) f.payload from if_pos directive]
    exact (s.handDirective_handled _ _).imp (fun _ => trivial) fun _ => trivial
  · exact .plain (s.handFrame_deeds f directive busy)

theorem State.receiveFrame_handled (f : Frame) (s : State) : State.Handled True True False s (s.receiveFrame f) := by
  unfold State.receiveFrame
  split
  · exact .plain s.lineBusy_deeds
  · split
    · exact (s.lineBusy.handFrame_handled f rfl).after fun _ => s.lineBusy_deeds
    · exact .plain (s.lineBusy_deeds.trans (State.discardMalformed_deeds _ _ rfl))

/-- A frame that is malformed, or no directive, does what every command may do. -/
theorem State.receiveFrame_deeds (f : Frame) (s : State) (other : f.taken = true → f.cls ≠ 0) :
    State.Deeds g s (s.receiveFrame f) := by
  unfold State.receiveFrame
  refine .ite s.lineBusy_deeds ?_
  split
  · exact s.lineBusy_deeds.trans (State.handFrame_deeds f s.lineBusy (other ‹_›) rfl)
  · exact s.lineBusy_deeds.trans (State.discardMalformed_deeds _ _ rfl)

theorem State.collide_deeds (ending : CollisionEnd) (s : State) (noFrame : ∀ f, ending ≠ .frame f) :
    State.Deeds g s (s.collide ending) := by
  cases ending with
  | frame f => exact absurd rfl (noFrame f)
  | codingViolation => exact s.violation_deeds
  | stopSignal => exact (s.lineBusy_deeds.trans (State.cutShort_deeds _)).trans (State.setWatch_deeds _ _ s.lineBusy.cutShort_frame.idle)

theorem State.collide_handled (f : Frame) (s : State) : State.Handled True True False s (s.collide (.frame f)) := by
  unfold State.collide
  dsimp only
  split
  · exact .plain (s.lineBusy_deeds.trans (State.becomeDuplicate_deeds false _ rfl))
  · exact (s.cutShort.receiveFrame_handled f).after fun _ => s.cutShort_deeds

theorem State.withOutcome_deeds (o : SendOutcome) (s : State) : State.Deeds g s (s.setLpt (s.lpt.withOutcome o)) :=
  State.setLpt_deeds _ Lpt.withOutcome_legal

theorem State.sendToLine_deeds (s : State) : State.Deeds g s s.sendToLine := by
  unfold State.sendToLine
  split
  · exact s.withOutcome_deeds _
  · rename_i taken
    obtain ⟨loud, room⟩ : s.lif.listenOnly = false ∧ s.lif.full = false := by simpa using taken
    have joined : State.Deeds g s (s.txDirective ((byteAt s.lpt.buffer 0).setWidth 5) (byteAt s.lpt.buffer 1) s.lpt.payload) :=
      State.lif_deeds _ fun h => State.txDirective_legal h loud room
    exact joined.trans (State.setLpt_deeds _ Lpt.withOutcome_legal)

theorem State.sendCommand_handled (s : State) : State.Handled True True False s s.sendCommand := by
  unfold State.sendCommand
  split
  · exact .plain (s.withOutcome_deeds _)
  · split
    · exact ((State.handDirective_handled _ _ _).imp (fun _ => trivial) fun _ => trivial).after fun _ => s.withOutcome_deeds _
    · exact .plain s.sendToLine_deeds

/-! ### The commands of the table -/

theorem exec_of_directive {i : Instr} {via : Via} {p : List Byte} (h : directiveOf i = some (via, p)) (s : State) :
    exec i s = .next (s.takeDirective via p) := by
  cases i <;> cases h <;> rfl

/-- An ill-formed row of an unknown type may hold any directive, a well-formed one holds none. -/
theorem typeUnknown_of_wf {via : Via} {p : List Byte} (h : (Instr.unknownType via p).wf = true) : typeUnknown p = true := by
  have unknown : unknownPayload p = true := (Bool.and_eq_true_iff.mp h).2
  cases p with
  | nil => rfl
  | cons type rest => exact unknown

theorem mayConfigure_of_bytes {i : Instr} {via : Via} {p : List Byte} (h : directiveOf i = some (via, p)) (wf : i.wf = true)
    (bytes : byteAt p 0 = 1) : MayConfigure i := by
  cases i with
  | configure via p => exact .inl ⟨via, p, rfl⟩
  | unknownType via p =>
    obtain ⟨rfl, rfl⟩ := by simpa [directiveOf] using h
    have unknown := typeUnknown_of_wf wf
    cases p <;> simp_all [typeUnknown, byteAt]
  | _ => cases h <;> simp [byteAt] at bytes

theorem mayClear_of_bytes {i : Instr} {via : Via} {p : List Byte} (h : directiveOf i = some (via, p)) (wf : i.wf = true)
    (bytes : clearingBytes p) : MayClear i := by
  cases i with
  | statusPage1Clear via p => exact .inl ⟨via, p, rfl⟩
  | restart via p => exact .inr (.inl ⟨via, p, rfl⟩)
  | unknownType via p =>
    obtain ⟨rfl, rfl⟩ := by simpa [directiveOf] using h
    have unknown := typeUnknown_of_wf wf
    cases p with
    | nil => simp [clearingBytes, byteAt] at bytes
    | cons type rest => obtain h | ⟨h, -⟩ := bytes <;> simp_all [typeUnknown, byteAt]
  | _ => cases h <;> simp [clearingBytes, byteAt] at bytes

theorem Outcome.deeds_of_ite {p : Prop} [Decidable p] {s a t : State} (w : State.Deeds g s a)
    (h : (if p then Host.Outcome.next a else Host.Outcome.next s : Host.Outcome State Fault Refusal) = .next t) :
    State.Deeds g s t := by
  split at h <;> cases h
  · exact w
  · exact .refl

/-- The frames of three rows: a malformed one, an announcement, a report or notice. -/
def rowFrame : Instr → Option Frame
  | .malformedFrame f | .announcementReceived f | .reportOrNoticeReceived f => some f
  | _ => none

theorem State.receiveFrame_row {i : Instr} {f : Frame} (row : rowFrame i = some f) (s : State) :
    State.Handled (i.wf = true → MayConfigure i) (i.wf = true → MayClear i) False s (s.receiveFrame f) := by
  by_cases wf : i.wf = true
  · refine .plain (s.receiveFrame_deeds f fun taken directive => ?_)
    cases i <;> cases row <;> simp_all [Instr.wf]
  · exact (s.receiveFrame_handled f).imp (fun _ k => absurd k wf) fun _ k => absurd k wf

theorem State.portWrite_handled (address : BitVec 2) (byte : Byte) (s : State) :
    State.Handled True True False s (s.portWrite address byte) := by
  unfold State.portWrite
  split
  · exact .plain (State.setLpt_deeds _ Lpt.assemble_legal)
  · split
    · exact s.sendCommand_handled
    · exact .plain (State.setLpt_deeds _ Lpt.cleared_legal)
    · exact .plain (State.setLpt_deeds _ Lpt.dropHead_legal)
    · exact .plain .refl
  · exact .plain (State.setLpt_deeds _ id)
  · exact .plain .refl

theorem State.portWrite_nothing {address : BitVec 2} {byte : Byte} {s : State}
    (wf : (Instr.portWriteNoEffect address byte).wf = true) : s.portWrite address byte = s := by
  have known : address = 2 ∨ (address = 1 ∧ byte ≠ 1 ∧ byte ≠ 2 ∧ byte ≠ 3) := by
    simpa [Instr.wf, and_assoc] using wf
  obtain rfl | ⟨rfl, one, two, three⟩ := known
  · rfl
  · have not (n : Byte) (h : byte ≠ n) : byte.toNat ≠ n.toNat := fun k => h (BitVec.eq_of_toNat_eq k)
    have h1 := not 1 one
    have h2 := not 2 two
    have h3 := not 3 three
    unfold State.portWrite
    split
    · contradiction
    · split <;> first | contradiction | rfl
    · contradiction
    · rfl

/-- Code is lost as at the next frame of motion without a word (R18). -/
theorem State.loseCode_deeds {s : State} {c : Settings} (hc : s.dhd.config = some c)
    (due : s.psu.source = .code ∧ c.dropoutWindow ≤ s.psu.missing) : State.Deeds g s (s.loseCode c.dropoutWindow) := by
  have frame : s.loseCode c.dropoutWindow = s.frameOfMotion c.dropoutWindow := by
    unfold State.frameOfMotion
    rw [if_pos due.1, if_pos due.2]
  refine State.psu_deeds_of_shape (.inr ⟨.codeLost, rfl⟩) fun h => ?_
  rw [frame]
  exact State.frameOfMotion_legal h hc

/-- Every command but the reset is a run of deeds (R62, R76, R78). -/
theorem exec_handled {i : Instr} {s t : State} (noReset : ∀ pins, i ≠ .powerUpReset pins) (h : exec i s = .next t) :
    State.Handled (i.wf = true → MayConfigure i) (i.wf = true → MayClear i) (GivesField i) s t := by
  cases i with
  | powerUpReset pins => exact absurd rfl (noReset pins)
  | refPulse p moment pins =>
    cases h
    exact .timed ((s.passTo_deeds moment).trans (State.refPulseTaken_deeds p pins _)) (.inl ⟨p, moment, pins, rfl⟩)
  | refWatchExpires moment pins =>
    change execRefWatchExpires moment pins s = _ at h
    unfold execRefWatchExpires at h
    split at h
    · exact .timed (Outcome.deeds_of_ite (s.watchRunsOut_deeds _ pins ‹_›) h) (.inr (.inl ⟨moment, pins, rfl⟩))
    · cases h
      exact .plain .refl
  | internalFieldStart pins =>
    change execInternalFieldStart pins s = _ at h
    unfold execInternalFieldStart at h
    split at h
    · exact .timed (Outcome.deeds_of_ite (State.field_deeds ..) h) (.inr (.inr (.inl ⟨pins, rfl⟩)))
    · cases h
      exact .plain .refl
  | returnWaitExpires pins =>
    change execReturnWaitExpires pins s = _ at h
    unfold execReturnWaitExpires at h
    split at h
    · split at h
      · rename_i due
        cases h
        exact .timed (s.returnWaitRunsOut_deeds _ pins due.1) (.inr (.inr (.inr ⟨pins, rfl⟩)))
      · cases h
        exact .plain .refl
    · cases h
      exact .plain .refl
  | stopInput =>
    change execStopInput s = _ at h
    unfold execStopInput at h
    split at h
    · cases h
      exact .plain .refl
    · cases h
      have pressed : State.Deeds .plain s { s with lif := { s.lif with stopLevel := true } } :=
        State.lif_deeds _ fun k => { k with }
      exact .plain (pressed.trans (State.requestStop_deeds _))
  | stopInputReleased =>
    cases h
    exact .plain (State.lif_deeds _ fun k => { k with })
  | stopEmissionEnds =>
    cases h
    exact .plain (State.lif_deeds _ fun k => { k with line := fun idle => ⟨(k.line idle).1, (k.line idle).2.1, rfl⟩ })
  | stopEvent =>
    cases h
    exact .plain s.stopRun_deeds
  | codingViolation run =>
    cases h
    exact .plain (s.dominantRun_deeds run)
  | malformedFrame f | announcementReceived f | reportOrNoticeReceived f =>
    cases h
    exact (s.receiveFrame_row rfl).imp id id
  | frameTransmitStart =>
    change execFrameTransmitStart s = _ at h
    unfold execFrameTransmitStart at h
    split at h
    · rename_i can
      obtain ⟨loud, quiet⟩ : s.lif.listenOnly = false ∧ s.lif.sending = none := by
        simp only [Lif.canBegin, Bool.and_eq_true, Bool.not_eq_eq_eq_not, Bool.not_true, Option.isNone_iff_eq_none] at can
        exact ⟨can.1.2, can.2⟩
      cases h
      exact .plain (State.beginHead_deeds _ s quiet loud (List.Sublist.refl _))
    · cases h
      exact .plain .refl
  | arbitrationLost =>
    cases h
    exact .plain s.cutShort_deeds
  | ownFrameCollision ending =>
    change execOwnFrameCollision ending s = _ at h
    unfold execOwnFrameCollision at h
    split at h
    · cases h
      cases ending with
      | frame f => exact (s.collide_handled f).imp (fun _ _ => .inr (.inl ⟨f, rfl⟩)) fun _ _ => .inr (.inr (.inr ⟨f, rfl⟩))
      | codingViolation => exact .plain (s.collide_deeds _ fun f none => nomatch none)
      | stopSignal => exact .plain (s.collide_deeds _ fun f none => nomatch none)
    · cases h
      exact .plain .refl
  | frameSent =>
    cases h
    exact .plain s.sent_deeds
  | txqMessageExpires =>
    cases h
    exact .plain s.expireTxq_deeds
  | peerEntryRemoved n =>
    change execPeerEntryRemoved n s = _ at h
    unfold execPeerEntryRemoved at h
    split at h
    · exact .plain (Outcome.deeds_of_ite (s.setPeer_deeds n none fun _ => rfl) h)
    · cases h
      exact .plain .refl
  | tachPulse forward =>
    cases h
    exact .plain (s.tach_deeds forward)
  | codeWord label =>
    cases h
    exact .plain (s.readWord_deeds label)
  | jumpCandidateExpires =>
    change execJumpCandidateExpires s = _ at h
    unfold execJumpCandidateExpires at h
    split at h
    · exact .plain (Outcome.deeds_of_ite (State.psu_deeds _ State.dropCandidate_legal) h)
    · cases h
      exact .plain .refl
  | codeLost =>
    change execCodeLost s = _ at h
    unfold execCodeLost at h
    split at h
    · split at h
      · rename_i hc due
        cases h
        exact .plain (State.loseCode_deeds hc due)
      · cases h
        exact .plain .refl
    · cases h
      exact .plain .refl
  | tallyChange tally =>
    cases h
    exact .plain (s.changeTally_deeds tally)
  | threadedFalls =>
    cases h
    exact .plain s.unthread_deeds
  | threadedRises =>
    cases h
    exact .plain s.thread_deeds
  | tallyWaitRunsOut =>
    change execTallyWaitRunsOut s = _ at h
    unfold execTallyWaitRunsOut at h
    split at h
    · exact .plain (Outcome.deeds_of_ite s.waitRunsOut_work.deeds h)
    · cases h
      exact .plain .refl
  | deckFaultQualified => exact .plain (Outcome.deeds_of_ite s.faultQualified_work.deeds h)
  | recoveryOffTimeEnds =>
    change execRecoveryOffTimeEnds s = _ at h
    unfold execRecoveryOffTimeEnds at h
    split at h
    · exact .plain (Outcome.deeds_of_ite s.offTimeEnds_work.deeds h)
    · cases h
      exact .plain .refl
  | recoveryWaitRunsOut =>
    change execRecoveryWaitRunsOut s = _ at h
    unfold execRecoveryWaitRunsOut at h
    split at h
    · exact .plain (Outcome.deeds_of_ite s.waitRunsOut_work.deeds h)
    · cases h
      exact .plain .refl
  | deferralExpired =>
    change execDeferralExpired s = _ at h
    unfold execDeferralExpired at h
    split at h
    · exact .plain (Outcome.deeds_of_ite (s.expireSlot_work _).deeds h)
    · cases h
      exact .plain .refl
  | seekFailed =>
    change execSeekFailed s = _ at h
    unfold execSeekFailed at h
    split at h
    · exact .plain (Outcome.deeds_of_ite (s.failSeek_work _).deeds h)
    · cases h
      exact .plain .refl
  | lockDeclared =>
    change execLockDeclared s = _ at h
    unfold execLockDeclared at h
    split at h
    · rename_i due
      cases h
      exact .plain (s.declareLock_work due.1).deeds
    · cases h
      exact .plain .refl
  | lockLost =>
    change execLockLost s = _ at h
    unfold execLockLost at h
    split at h
    · split at h
      · rename_i due
        cases h
        exact .plain ((s.loseLock_work due.1).trans (State.settle_work _)).deeds
      · cases h
        exact .plain .refl
    · cases h
      exact .plain .refl
  | pullTimeExceeded =>
    change execPullTimeExceeded s = _ at h
    unfold execPullTimeExceeded at h
    split at h
    · split at h
      · rename_i due
        cases h
        exact .plain ((s.stopPulling_work _ due.1).trans (State.settle_work _)).deeds
      · cases h
        exact .plain .refl
    · cases h
      exact .plain .refl
  | rerollOffTimeEnds =>
    change execRerollOffTimeEnds s = _ at h
    unfold execRerollOffTimeEnds at h
    split at h
    · rename_i r stored
      split at h
      · rename_i std target e aim
        have seeks := State.endReroll_work r (s.view r.master).speed e (s.setTarget target) stored (State.usable_of_chaseAim aim)
        exact .plain (Outcome.deeds_of_ite (((s.setTarget_work target).trans seeks).trans (State.settle_work _)).deeds h)
      · cases h
        exact .plain .refl
    · cases h
      exact .plain .refl
  | gapEnds => exact .plain (Outcome.deeds_of_ite (s.rcc_work _ (.inl (by nofun)) (by rfl)).deeds h)
  | rollStart =>
    cases h
    exact .plain (s.rollDue_course _).deeds
  | transitionCompletes =>
    change execTransitionCompletes s = _ at h
    unfold execTransitionCompletes at h
    split at h
    · rename_i p _ held
      exact .plain (Outcome.deeds_of_ite (s.setTen_course _ fun k => Ten.complete_legal k (k.preset_legal held)).deeds h)
    · cases h
      exact .plain .refl
  | assemblyByteWrite byte =>
    cases h
    exact .plain (State.setLpt_deeds _ Lpt.assemble_legal)
  | send =>
    cases h
    exact s.sendCommand_handled.imp (fun _ _ => .inr (.inr rfl)) fun _ _ => .inr (.inr (.inl rfl))
  | clear =>
    cases h
    exact .plain (State.setLpt_deeds _ Lpt.cleared_legal)
  | next =>
    cases h
    exact .plain (State.setLpt_deeds _ Lpt.dropHead_legal)
  | receiveByteRead =>
    cases h
    exact .plain (State.setLpt_deeds _ Lpt.readHead_legal)
  | statusByteRead =>
    cases h
    exact .plain (State.setLpt_deeds _ id)
  | interruptMaskWrite byte =>
    cases h
    exact .plain (State.setLpt_deeds _ id)
  | portWriteNoEffect address byte =>
    cases h
    by_cases wf : (Instr.portWriteNoEffect address byte).wf = true
    · rw [State.portWrite_nothing wf]
      exact .plain .refl
    · exact (s.portWrite_handled address byte).imp (fun _ k => absurd k wf) fun _ k => absurd k wf
  | lineIdle =>
    change execLineIdle s = _ at h
    unfold execLineIdle at h
    split at h
    · cases h
      exact .plain .refl
    · rename_i quiet
      cases h
      obtain ⟨quiet, none⟩ : s.lif.emitting = false ∧ s.lif.sending = none := by simpa using quiet
      exact .plain (State.lif_deeds _ fun k => { k with line := fun _ => ⟨rfl, none, quiet⟩ })
  | _ =>
    cases (exec_of_directive rfl s).symm.trans h
    exact (State.takeDirective_handled _ _ s).imp (fun bytes wf => mayConfigure_of_bytes rfl wf bytes)
      fun bytes wf => mayClear_of_bytes rfl wf bytes

end Sys2Proof.Machine
end

section
/-! SUPPORT. What every deed keeps, every step keeps; the invariants of the lists, the levels, the line, the port, the position and the
clock. -/

namespace Sys2Proof.Machine

/-- What every deed keeps, those of a field start taken one by one. -/
structure State.Kept (g : Grant) (P : State → Prop) : Prop where
  change : ∀ s t : State, s.Change t → P s → P t
  lif : ∀ (s : State) (l : Lif), (s.lif.Legal → l.Legal) → (s.lif.listenOnly = true → l.listenOnly = true) →
    (s.lif.duplicate = true → l.duplicate = true) → P s → P { s with lif := l } := by intros; assumption
  lpt : ∀ (s : State) (l : Lpt), (s.lpt.Legal → l.Legal) → P s → P (s.setLpt l) := by intros; assumption
  psu : ∀ (s : State) (u : Psu), (s.positionLegal → ({ s with psu := u } : State).positionLegal) →
    P s → P { s with psu := u } := by intros; assumption
  ftu : ∀ (s : State) (f : Ftu), (s.clockLegal → (s.setFtu f).clockLegal) → P s → P (s.setFtu f) := by intros; assumption
  entries : ∀ (s : State) (es : List (Option PeerEntry)),
    (s.peersLegal → ({ s with ptb := { s.ptb with entries := es } } : State).peersLegal) →
    P s → P { s with ptb := { s.ptb with entries := es } } := by intros; assumption
  stores : ∀ (s : State) (c : Csv), (s.masterLegal → ({ s with csv := c } : State).masterLegal) → P s → P { s with csv := c } := by
    intros; assumption
  pins : ∀ (s : State) (p : Pins), P s → P { s with pins := p } := by intros; assumption
  zones : ∀ (s : State) (zs : List Zone), (s.zonesLegal → (s.setZones zs).zonesLegal) → P s → P (s.setZones zs) := by
    intros; assumption
  config : ∀ (s : State) (c : Settings), s.dhd.config = none → c.Legal → g = .configures → P s → P (s.setConfig c) := by intros; assumption
  cleared : ∀ s : State, g = .clears → P s → P s.clearRecords := by intros; assumption
  mark : ∀ (s : State) (p : Parity) (m : Nat) (x : FieldSource) (pins : FieldPins), P s → P (s.markField p m x pins) := by
    intros; assumption
  views : ∀ s : State, P s → P s.agePeers := by intros; assumption
  queue : ∀ (s : State) (q : List Instr), P s → P (s.withPending q) := by intros; assumption

variable {g : Grant} {P : State → Prop}

theorem State.Kept.course (k : State.Kept g P) {s t : State} (w : s.Course t) (h : P s) : P t := w.keeps k.change h

theorem State.Kept.work (k : State.Kept g P) {s t : State} (w : s.Work t) (h : P s) : P t := k.course w.course h

theorem State.Kept.line (k : State.Kept g P) {s t : State} (w : s.LineShape t) (legal : s.lif.Legal → t.lif.Legal)
    (listens : t.lif.listenOnly = s.lif.listenOnly) (doubled : t.lif.duplicate = s.lif.duplicate) (h : P s) : P t := by
  have changed : P { s with lif := t.lif } :=
    k.lif s t.lif legal (fun only => listens.trans only) (fun double => doubled.trans double) h
  obtain w | w := w <;> rw [w]
  · exact changed
  · exact k.work (State.latch_work ..) changed

/-- The work of a field start beside the announcement, once the views are taken and the messages aged (R42). -/
theorem State.fieldCourse (s : State) : s.Course (s.transportFieldStart.chaseFieldStart.recordCueTransition) :=
  ((s.transportFieldStart_work.trans (State.chaseFieldStart_work _)).course).trans (State.recordCueTransition_course _)

theorem State.Kept.announceField (k : State.Kept g P) {s : State} (h : P s) : P s.announceField := by
  have ⟨shape, listens, doubled⟩ := State.txAnnounce_shape s.announcement s
  exact k.line (.inl shape) (fun legal => State.txAnnounce_legal legal rfl) listens doubled h

/-- A field start, deed by deed (R42). -/
theorem State.Kept.fieldStart (k : State.Kept g P) (p : Parity) (m : Nat) (x : FieldSource) (pins : FieldPins) (s : State) (h : P s) :
    P (s.fieldStart p m x pins) := by
  have viewed := k.views _ (k.psu _ _ State.measureSpeed_legal (k.mark s p m x pins h))
  have ⟨ageShape, ageListens, ageDoubled⟩ := (s.markField p m x pins).measureSpeed.agePeers.ageTxq_shape
  have worked := k.course (State.fieldCourse _) (k.line ageShape State.ageTxq_legal ageListens ageDoubled viewed)
  exact k.announceField worked

theorem State.Kept.deed (k : State.Kept g P) (s t : State) (w : State.Deed g s t) (h : P s) : P t := by
  cases w with
  | change c => exact k.change _ _ c h
  | lif l legal listens doubled => exact k.lif _ l legal listens doubled h
  | lpt l legal => exact k.lpt _ l legal h
  | psu u legal => exact k.psu _ u legal h
  | ftu f legal _ => exact k.ftu _ f legal h
  | entries es legal => exact k.entries _ es legal h
  | stores c _ master => exact k.stores _ c master h
  | pins p => exact k.pins _ p h
  | zones zs legal => exact k.zones _ zs legal h
  | config c none legal granted => exact k.config _ c none legal granted h
  | cleared granted => exact k.cleared _ granted h
  | field p m x pins _ => exact k.fieldStart p m x pins s h

theorem State.Kept.deeds (k : State.Kept g P) {s t : State} (w : State.Deeds g s t) (h : P s) : P t := w.keeps k.deed h

theorem State.Handled.deeds {a b c : Prop} {s t : State} (w : State.Handled a b c s t) : ∃ g, State.Deeds g s t := by
  cases w with
  | plain deeds | configured deeds | cleared deeds | timed deeds => exact ⟨_, deeds⟩

/-- A command is the reset or a run of deeds. -/
theorem exec_cases {i : Instr} {s t : State} (h : exec i s = .next t) :
    (∃ pins, i = .powerUpReset pins ∧ t = State.ofPins pins s.order s.pending) ∨ ∃ g, State.Deeds g s t := by
  by_cases reset : ∃ pins, i = .powerUpReset pins
  · obtain ⟨pins, rfl⟩ := reset
    cases h
    exact .inl ⟨pins, rfl, rfl⟩
  · exact .inr (exec_handled (fun pins k => reset ⟨pins, k⟩) h).deeds

/-- A step is a command on the queue's rest, or what an empty queue lets come about: a microsecond, or a timer's end. -/
theorem step_cases {s t : State} (h : step s = .next t) :
    t = s.tick ∨ (∃ i, exec i s = .next t) ∨ ∃ i rest, exec i (s.withPending rest) = .next t := by
  unfold step at h
  split at h
  · obtain k | k | k | k := s.idle_cases
    · exact .inl (Host.Outcome.next.inj (h.symm.trans k))
    · exact .inr (.inl ⟨.refWatchExpires _ _, k.symm.trans h⟩)
    · exact .inr (.inl ⟨.internalFieldStart _, k.symm.trans h⟩)
    · exact .inr (.inl ⟨.returnWaitExpires _, k.symm.trans h⟩)
  · exact .inr (.inr ⟨_, _, h⟩)

/-- What every deed keeps and the reset state meets, every command keeps. -/
theorem exec_keeps (k : ∀ g, State.Kept g P) (reset : ∀ pins order q, P (State.ofPins pins order q)) {i : Instr} {s t : State}
    (e : exec i s = .next t) (h : P s) : P t := by
  obtain ⟨pins, -, rfl⟩ | ⟨g, w⟩ := exec_cases e
  · exact reset ..
  · exact (k g).deeds w h

/-- What every deed keeps and the reset state meets, every step keeps. -/
theorem step_keeps (k : ∀ g, State.Kept g P) (reset : ∀ pins order q, P (State.ofPins pins order q)) {s t : State}
    (e : step s = .next t) (h : P s) : P t := by
  obtain rfl | ⟨i, e⟩ | ⟨i, rest, e⟩ := step_cases e
  · exact (k .plain).deeds s.tick_deeds h
  · exact exec_keeps k reset e h
  · exact exec_keeps k reset e ((k .plain).queue s rest h)

/-! ### What a single change keeps -/

/-- A single change of the field's work, by what it leaves: all but the deck's, the cue list's and the transition's blocks. -/
theorem State.Change.keeps_of {s t : State} (h : s.Change t) (touch : s.Touch t → P t)
    (cul : ∀ c, (s.cuesLegal → ({ s with cul := c } : State).cuesLegal) → P { s with cul := c })
    (ten : ∀ x, (s.ten.Legal → x.Legal) → P (s.setTen x)) : P t := by
  cases h with
  | touch h => exact touch h
  | cul c cues => exact cul c cues
  | ten x legal => exact ten x legal

theorem State.Touch.cul {s t : State} (h : s.Touch t) : t.cul = s.cul := State.Work.cul (.single h)

theorem State.Touch.ten {s t : State} (h : s.Touch t) : t.ten = s.ten := State.Work.ten (.single h)

theorem State.Touch.zones {s t : State} (h : s.Touch t) : t.rcc.zones = s.rcc.zones := State.Work.zones (.single h)

theorem State.Touch.psu {s t : State} (h : s.Touch t) : t.psu = s.psu := State.Work.psu (.single h)

theorem zonesLegal_kept (g : Grant) : State.Kept g State.zonesLegal where
  change s t h k := h.keeps_of (P := State.zonesLegal) (fun h => by unfold State.zonesLegal; rwa [h.zones]) (fun _ _ => k)
    fun _ _ => k
  zones s zs legal := legal

theorem cuesLegal_kept (g : Grant) : State.Kept g State.cuesLegal where
  change s t h k := h.keeps_of (P := State.cuesLegal) (fun h => by unfold State.cuesLegal; rwa [h.cul]) (fun _ legal => legal k)
    fun _ _ => k

theorem State.ownNumber_eq {s t : State} (h : t.dhd.stn = s.dhd.stn) : t.ownNumber = s.ownNumber := by
  unfold State.ownNumber
  rw [h]

theorem State.isOwn_eq {s t : State} (h : t.dhd.stn = s.dhd.stn) (n : Nat) : t.isOwn n = s.isOwn n := by
  unfold State.isOwn
  rw [State.ownNumber_eq h]

theorem peersLegal_kept (g : Grant) : State.Kept g State.peersLegal where
  change s t h k := h.keeps_of (P := State.peersLegal) (fun h => by
    unfold State.peersLegal State.peer
    rw [h.by.ptb]
    exact ⟨k.1, k.2.1, fun n own => k.2.2 n ((State.isOwn_eq h.by.stn n).symm.trans own)⟩) (fun _ _ => k) fun _ _ => k
  entries s es legal := legal
  views s := State.agePeers_legal

theorem tenLegal_kept (g : Grant) : State.Kept g (fun s => s.ten.Legal) where
  change s t h k := h.keeps_of (P := fun s => s.ten.Legal) (fun h => by rwa [h.ten]) (fun _ _ => k) fun _ legal => legal k

theorem State.txJoin_lpt (m : TxMsg) (s : State) : (s.txJoin m).lpt = s.lpt := by
  unfold State.txJoin
  repeat' split
  all_goals rfl

theorem State.rxJoin_lif (bytes : List Byte) (s : State) : (s.rxJoin bytes).lif = s.lif := by
  unfold State.rxJoin
  split <;> rfl

theorem State.Touch.port {s t : State} (h : s.Touch t) (k : s.lpt.Legal) : t.lpt.Legal := by
  cases h with
  | send m => exact (s.txJoin_lpt m).symm ▸ k
  | receive b => exact State.rxJoin_legal k
  | _ => exact k

theorem portLegal_kept (g : Grant) : State.Kept g (fun s => s.lpt.Legal) where
  change s t h k := h.keeps_of (P := fun s => s.lpt.Legal) (fun h => h.port k) (fun _ _ => k) fun _ _ => k
  lpt s l legal := legal

theorem State.Touch.lif {s t : State} (h : s.Touch t) (k : s.lif.Legal) : t.lif.Legal := by
  cases h with
  | send m kind age =>
    refine State.txJoin_legal k ?_ (by omega)
    obtain kind | kind := kind <;> simp [TxMsg.isAnn, kind]
  | receive b => exact (s.rxJoin_lif b).symm ▸ k
  | _ => exact k

theorem lifLegal_kept (g : Grant) : State.Kept g (fun s => s.lif.Legal ∧ (s.ownNumber = none → s.lif.listenOnly = true)) where
  change s t h k := h.keeps_of (P := fun s => s.lif.Legal ∧ (s.ownNumber = none → s.lif.listenOnly = true)) (fun h => by
    refine ⟨h.lif k.1, fun none => ?_⟩
    rw [h.by.lif]
    exact k.2 ((State.ownNumber_eq h.by.stn).symm.trans none)) (fun _ _ => k) fun _ _ => k
  lif s l legal listens _ := fun ⟨h, k⟩ => ⟨legal h, fun none => listens (k none)⟩

theorem State.speedLegal_of_frame {s t : State} (h : s.MessageFrame t) : t.speedLegal ↔ s.speedLegal := by
  unfold State.speedLegal State.shuttleLimit
  rw [h.tsq, h.config]

theorem speedLegal_kept (g : Grant) : State.Kept g State.speedLegal where
  change s t h k := h.keeps_of (P := State.speedLegal) (fun h => by
    cases h with
    | tsq q speed => exact speed k
    | send m => exact (State.speedLegal_of_frame (s.txJoin_frame m)).mpr k
    | receive b => exact (State.speedLegal_of_frame (s.rxJoin_frame b)).mpr k
    | _ => exact k) (fun _ _ => k) fun _ _ => k
  config s c none legal _ k := by
    have still : s.tsq.reqSpeed.natAbs ≤ 0 := by simpa [State.speedLegal, State.shuttleLimit, none] using k
    exact still.trans (Nat.zero_le _)

theorem positionLegal_kept (g : Grant) : State.Kept g State.positionLegal where
  change s t h k := h.keeps_of (P := State.positionLegal) (fun h => by
    unfold State.positionLegal
    rwa [h.psu, h.by.config]) (fun _ _ => k) fun _ _ => k
  psu s u legal := legal
  config s c none legal _ k := State.setConfig_positionLegal k none legal

theorem clockLegal_kept (g : Grant) : State.Kept g State.clockLegal where
  change s t h k := h.keeps_of (P := State.clockLegal) (fun h => by
    unfold State.clockLegal
    rwa [h.by.ftu, h.by.config]) (fun _ _ => k) fun _ _ => k
  ftu s f legal := legal
  config s c none legal _ k := ⟨k.1, k.2.1, k.2.2.1, fun none => (nomatch none), k.2.2.2.2⟩
  mark s p m x pins := fun ⟨_, h2, h3, hrest⟩ =>
    ⟨Nat.le_max_right .., h2.trans (Nat.le_max_left ..), Nat.zero_le _, hrest⟩

/-! ### The state after power-up reset (R9, R37, R39, R40, R50, R154, R155) -/

section
variable (pins : PowerUpPins) (order : FieldOrder) (q : List Instr)

theorem State.ofPins_zones : (State.ofPins pins order q).zonesLegal := ⟨Nat.zero_le _, rfl⟩

theorem State.ofPins_cues : (State.ofPins pins order q).cuesLegal := ⟨Nat.zero_le _, List.nodup_nil⟩

theorem State.ofPins_peers : (State.ofPins pins order q).peersLegal := by
  refine ⟨List.length_replicate, List.length_replicate, fun n _ => ?_⟩
  unfold State.peer
  split
  · rfl
  · show ((List.replicate 30 none)[n - 1]?).join = none
    rw [List.getElem?_replicate]
    split <;> rfl

theorem State.ofPins_ten : (State.ofPins pins order q).ten.Legal := by
  rw [State.tenLegal_iff]
  simp [State.levelsLegal, State.restLegal, State.ofPins, Ten.reset]

theorem State.ofPins_lpt : (State.ofPins pins order q).lpt.Legal :=
  ⟨Nat.zero_le _, Nat.zero_le _, fun _ none => nomatch none⟩

theorem State.ofPins_lif : (State.ofPins pins order q).lif.Legal ∧
    ((State.ofPins pins order q).ownNumber = none → (State.ofPins pins order q).lif.listenOnly = true) := by
  refine ⟨⟨Nat.zero_le _, Nat.zero_le _, rfl, rfl, rfl, rfl, fun _ => ⟨rfl, rfl, rfl⟩, nofun, nofun⟩, fun none => ?_⟩
  have strapped : pins.stn = 0 ∨ pins.stn = 31 := by
    by_contra numbered
    exact absurd ((if_neg numbered).symm.trans none) (by simp)
  simpa [State.ofPins, Lif.reset] using strapped

theorem State.ofPins_speed : (State.ofPins pins order q).speedLegal := Nat.zero_le _

theorem State.ofPins_position : (State.ofPins pins order q).positionLegal := by
  simp [State.positionLegal, State.ofPins, Psu.reset, Dhd.reset]

theorem State.ofPins_clock : (State.ofPins pins order q).clockLegal := by
  simp [State.clockLegal, State.ofPins, Ftu.reset, Ftu.lastStart]

end

end Sys2Proof.Machine

open Sys2Proof Sys2Proof.Machine

/-- Settles O6: every deed keeps the zones ordered, the cue ids distinct and the Peer Table's places, and so does every step. -/
theorem listsStayLegal : Obligations.ListsStayLegal := fun _ _ zones cues peers h =>
  ⟨step_keeps zonesLegal_kept State.ofPins_zones h zones, step_keeps cuesLegal_kept State.ofPins_cues h cues,
    step_keeps peersLegal_kept State.ofPins_peers h peers⟩

/-- Settles O7: every deed keeps the engine's levels and rest values. -/
theorem levelsStayInRange : Obligations.LevelsStayInRange := fun s t levels rest h =>
  t.tenLegal_iff.mp (step_keeps tenLegal_kept State.ofPins_ten h (s.tenLegal_iff.mpr ⟨levels, rest⟩))

/-- Settles O8: every deed keeps the transmit queue's bounds and order and the flags of the line. -/
theorem transmitQueueStaysOrdered : Obligations.TransmitQueueStaysOrdered := fun s t txq silent flags line h =>
  t.lifLegal_iff.mp (step_keeps lifLegal_kept State.ofPins_lif h (s.lifLegal_iff.mpr ⟨txq, silent, flags, line⟩))

/-- Settles O9: every deed keeps the speed word, the port's bounds, the position's counts and the clock. -/
theorem countsStayInRange : Obligations.CountsStayInRange := fun s t h =>
  ⟨step_keeps speedLegal_kept State.ofPins_speed h,
    fun port => t.portLegal_iff.mpr (step_keeps portLegal_kept State.ofPins_lpt h (s.portLegal_iff.mp port)),
    step_keeps positionLegal_kept State.ofPins_position h, step_keeps clockLegal_kept State.ofPins_clock h⟩

end

section
/-! SUPPORT. The chase's master through a field start, and the identity and the events through every command. -/

namespace Sys2Proof.Machine

/-! ### The chase's master (R108, R110) -/

theorem State.Touch.chase {s t : State} (h : s.Touch t) : t.csv = s.csv ∨ ∃ c, t = { s with csv := c } ∧
    (s.ChaseStored → ({ s with csv := c } : State).ChaseStored) ∧ (s.masterLegal → ({ s with csv := c } : State).masterLegal) := by
  cases h with
  | csv c stored master _ => exact .inr ⟨c, rfl, stored, master⟩
  | send m => exact .inl (s.txJoin_frame m).csv
  | receive b => exact .inl (s.rxJoin_frame b).csv
  | _ => exact .inl rfl

theorem State.chaseStored_of_work {s t : State} (w : s.Work t) (h : s.ChaseStored) : t.ChaseStored :=
  w.keeps (P := State.ChaseStored) (fun s t touch h => by
    obtain same | ⟨c, rfl, stored, -⟩ := touch.chase
    · rwa [State.ChaseStored, same]
    · exact stored h) h

theorem State.Touch.master {s t : State} (touch : s.Touch t) (h : s.masterLegal) : t.masterLegal := by
  obtain same | ⟨c, rfl, -, master⟩ := touch.chase
  · unfold State.masterLegal State.view
    rwa [same, touch.by.ptb]
  · exact master h

theorem State.Change.master {s t : State} (c : s.Change t) (h : s.masterLegal) : t.masterLegal :=
  c.keeps_of (P := State.masterLegal) (fun touch => touch.master h) (fun _ _ => h) fun _ _ => h

theorem State.masterLegal_of_work {s t : State} (w : s.Work t) (h : s.masterLegal) : t.masterLegal :=
  w.keeps (P := State.masterLegal) (fun _ _ touch => touch.master) h

/-- The servo's work at a field start leaves every chase that follows with a master the views show usable (R108). -/
theorem State.chaseFieldStart_master {s : State} (h : s.ChaseStored) : s.chaseFieldStart.masterLegal := by
  unfold State.chaseFieldStart
  split
  · rename_i off
    exact State.masterLegal_of h (by simp [off, ChaseState.follows])
  · rename_i failed
    exact State.masterLegal_of h (by simp [failed, ChaseState.follows])
  · rename_i unstored _ _
    exact State.masterLegal_of h (by simp [unstored])
  · rename_i r hr _ _
    split
    · have waits : ({ s.leaveLock with csv := { s.leaveLock.csv with state := .waiting, pullTimer := 0, lockRun := 0, blankRun := 0, offTime := 0, followStep := .approaching } } : State).masterLegal :=
        State.masterLegal_of (fun _ => by simp [s.leaveLock_undriven.2, hr]) (by simp [ChaseState.follows])
      exact State.masterLegal_of_work ((State.chaseRequest_work ..).trans (State.settle_work _)) waits
    · rename_i target e aim
      have usable := State.usable_of_chaseAim aim
      refine State.masterLegal_of_work (((s.setTarget_work target).trans
        (State.chaseStep_work _ r _ e (s.setTarget target) hr usable)).trans (State.settle_work _)) ?_
      refine State.masterLegal_of h fun _ r' hr' => ?_
      cases hr.symm.trans hr'
      exact usable

theorem State.LineShape.chase {s t : State} (w : s.LineShape t) : t.csv = s.csv ∧ t.ptb = s.ptb := by
  obtain h | h := w
  · rw [h]
    exact ⟨rfl, rfl⟩
  · rw [h]
    exact ⟨rfl, rfl⟩

theorem State.masterLegal_of_chase {s t : State} (same : t.csv = s.csv ∧ t.ptb = s.ptb) (h : s.masterLegal) : t.masterLegal := by
  unfold State.masterLegal State.view
  rwa [same.1, same.2]

theorem State.fieldStart_master (p : Parity) (m : Nat) (x : FieldSource) (pins : FieldPins) (s : State) (h : s.masterLegal) :
    (s.fieldStart p m x pins).masterLegal := by
  have aged : (s.markField p m x pins).measureSpeed.agePeers.ageTxq.ChaseStored := by
    unfold State.ChaseStored
    rw [(State.ageTxq_shape _).1.chase.1]
    exact h.1
  have chased := State.chaseFieldStart_master (State.chaseStored_of_work (State.transportFieldStart_work _) aged)
  have worked := (State.recordCueTransition_course _).keeps (P := State.masterLegal) (fun _ _ => State.Change.master) chased
  exact State.masterLegal_of_chase (t := State.announceField _) (State.LineShape.chase (.inl (State.txAnnounce_shape _ _).1)) worked

/-- A handling keeps the chase's master usable: the Peer Table's views change at a field start alone. -/
theorem State.Deed.master {g : Grant} {s t : State} (d : State.Deed g s t) (h : s.masterLegal) : t.masterLegal := by
  cases d with
  | change c => exact c.master h
  | stores c _ master => exact master h
  | field p m x pins _ => exact s.fieldStart_master p m x pins h
  | _ => exact h

theorem State.ofPins_master (pins : PowerUpPins) (order : FieldOrder) (q : List Instr) : (State.ofPins pins order q).masterLegal :=
  State.masterLegal_of (fun active => absurd rfl active) nofun

theorem exec_master {i : Instr} {s t : State} (e : exec i s = .next t) (h : s.masterLegal) : t.masterLegal := by
  obtain ⟨pins, -, rfl⟩ | ⟨g, w⟩ := exec_cases e
  · exact State.ofPins_master ..
  · exact w.keeps (P := State.masterLegal) (fun _ _ => State.Deed.master) h

/-! ### Identity, configuration and flags (R37, R60, R61) -/

/-- The straps as read, an accepted configuration, and the flags once set, as they stood. -/
abbrev State.SameStation (s t : State) : Prop :=
  (t.dhd.stn = s.dhd.stn ∧ t.dhd.transportFitted = s.dhd.transportFitted ∧ t.dhd.channelFitted = s.dhd.channelFitted) ∧
    (s.dhd.config.isSome = true → t.dhd.config = s.dhd.config) ∧
    (s.lif.duplicate = true → t.lif.duplicate = true) ∧ (s.lif.listenOnly = true → t.lif.listenOnly = true)

theorem sameStation_kept (g : Grant) (s : State) : State.Kept g s.SameStation where
  change t u h k := h.keeps_of (P := s.SameStation) (fun h => by
    unfold State.SameStation
    rwa [h.by.stn, h.by.transportFitted, h.by.channelFitted, h.by.config, h.by.lif]) (fun _ _ => k) fun _ _ => k
  lif t l _ listens doubled := fun ⟨straps, config, duplicate, listenOnly⟩ =>
    ⟨straps, config, doubled ∘ duplicate, listens ∘ listenOnly⟩
  config t c none _ _ := fun ⟨straps, config, flags⟩ =>
    ⟨straps, fun accepted => absurd ((config accepted).symm.trans none) (by rintro k; simp [k] at accepted), flags⟩

/-- No station becomes READY but by the deeds of a CONFIGURE. -/
theorem config_kept (g : Grant) (plain : g ≠ .configures) (c : Option Settings) : State.Kept g fun t => t.dhd.config = c where
  change t u h k := h.keeps_of (P := fun t => t.dhd.config = c) (fun h => h.by.config.trans k) (fun _ _ => k) fun _ _ => k
  config t c _ _ granted := absurd granted plain

/-! ### Latched events (R74) -/

theorem holdsEvent_kept (g : Grant) (plain : g ≠ .clears) (e : Event) : State.Kept g fun t => t.holdsEvent e = true where
  change t u h k := h.keeps_of (P := fun t => t.holdsEvent e = true) (fun h => h.by.events e k) (fun _ _ => k) fun _ _ => k
  cleared t granted := absurd granted plain

end Sys2Proof.Machine

open Sys2Proof Sys2Proof.Machine

/-- Settles O5: the servo's work at a field start leaves a chase that follows with a usable master, and nothing else takes views. -/
theorem chasedMasterStaysUsable : Obligations.ChasedMasterStaysUsable := by
  intro s t h e
  obtain rfl | ⟨i, e⟩ | ⟨i, rest, e⟩ := step_cases e
  · exact h
  · exact exec_master e h
  · exact exec_master e (s := s.withPending rest) h

/-- Settles O11: no deed changes the straps, an accepted configuration or a flag once set, and a CONFIGURE's deeds alone accept one. -/
theorem identityAndConfigurationHold : Obligations.IdentityAndConfigurationHold := by
  intro i s t wf noReset e
  have handled := exec_handled noReset e
  obtain ⟨g, deeds⟩ := handled.deeds
  obtain ⟨⟨stn, transport, channel⟩, config, duplicate, listenOnly⟩ :=
    (sameStation_kept g s).deeds deeds ⟨⟨rfl, rfl, rfl⟩, fun _ => rfl, id, id⟩
  refine ⟨stn, transport, channel, config, fun ready fresh => ?_, duplicate, listenOnly⟩
  have plain {g : Grant} (other : g ≠ .configures) (deeds : State.Deeds g s t) : False := by
    have still : t.dhd.config = none := (config_kept g other none).deeds deeds fresh
    simp [still] at ready
  cases handled with
  | plain deeds => exact (plain (g := .plain) nofun deeds).elim
  | configured _ why => exact why wf
  | cleared deeds => exact (plain (g := .clears) nofun deeds).elim
  | timed deeds => exact (plain (g := .fields) nofun deeds).elim

/-- Settles O12: no deed but the emptying of the records lets an event go, and that is granted to the clearing commands alone. -/
theorem latchedEventsStand : Obligations.LatchedEventsStand := by
  intro i s t e wf h held
  by_cases reset : ∃ pins, i = .powerUpReset pins
  · obtain ⟨pins, rfl⟩ := reset
    cases h
    exact .inr ⟨rfl, .inr (.inr (.inr (.inr ⟨pins, rfl⟩)))⟩
  · cases exec_handled (fun pins k => reset ⟨pins, k⟩) h with
    | plain deeds => exact .inl ((holdsEvent_kept .plain nofun e).deeds deeds held)
    | configured deeds => exact .inl ((holdsEvent_kept .configures nofun e).deeds deeds held)
    | timed deeds => exact .inl ((holdsEvent_kept .fields nofun e).deeds deeds held)
    | cleared deeds empty why =>
      refine .inr ⟨empty, ?_⟩
      obtain h | h | h | h := why wf
      · exact .inl h
      · exact .inr (.inl h)
      · exact .inr (.inr (.inl h))
      · exact .inr (.inr (.inr (.inl h)))

end

section
/-! SUPPORT. A step, power-up reset, and the rows of the table that are one count or one line alone. -/

namespace Sys2Proof.Machine

/-- With no standard in force no timer runs (R43). -/
theorem State.timerDue_of_unconfigured {s : State} (h : s.dhd.config = none) : s.timerDue = none := by
  simp [State.timerDue, State.standard, h]

theorem State.standard_of_config {s : State} {c : Settings} (h : s.dhd.config = some c) : s.standard = some c.standard := by
  simp [State.standard, h]

/-- An idle step with a timer that runs lets a microsecond pass before its end, and is the timer's row from its end on. -/
theorem State.idle_of_timerDue {s : State} {ends : Nat} (h : s.timerDue = some ends) :
    (s.ftu.now < ends → s.idle = .next s.tick) ∧ (ends ≤ s.ftu.now → s.idle = .next s.timerFires) := by
  unfold State.idle
  rw [h]
  exact ⟨fun early => if_neg (by omega), fun due => if_pos due⟩

theorem State.idle_of_noTimer {s : State} (h : s.timerDue = none) : s.idle = .next s.tick := by
  unfold State.idle
  rw [h]

theorem step_of_empty {s : State} (h : s.pending = []) : step s = s.idle := by
  unfold step
  rw [h]

/-- The end of a timer is given by that timer's row alone. -/
theorem State.timerFires_of_locked {s : State} {c : Settings} (hc : s.dhd.config = some c) (h : s.ftu.refState = .lockedRef) :
    s.timerFires = s.watchRunsOut c.standard s.pins.field := by
  simp [State.timerFires, State.standard_of_config hc, h]

theorem State.timerFires_of_running {s : State} {c : Settings} (hc : s.dhd.config = some c) (h : s.ftu.refState = .fallback)
    (idle : s.ftu.returnStep = .idle) : s.timerFires = s.timerRunsOut c.standard s.pins.field := by
  simp [State.timerFires, State.standard_of_config hc, h, idle]

theorem State.timerFires_of_skipped {s : State} {c : Settings} (hc : s.dhd.config = some c) (h : s.ftu.refState = .fallback)
    (skipped : s.ftu.returnStep = .skipped) : s.timerFires = s.returnWaitRunsOut c.standard s.pins.field := by
  simp [State.timerFires, State.standard_of_config hc, h, skipped]

theorem execRefWatchExpires_of_due {s : State} {c : Settings} {m : Nat} (pins : FieldPins) (hc : s.dhd.config = some c)
    (locked : s.ftu.refState = .lockedRef) (due : s.ftu.watchEnd c.standard ≤ max s.ftu.now m) :
    exec (.refWatchExpires m pins) s = .next (s.watchRunsOut c.standard pins) := by
  show execRefWatchExpires m pins s = _
  simp [execRefWatchExpires, State.standard_of_config hc, locked, le_max_iff.mp due]

theorem execInternalFieldStart_of_running {s : State} {c : Settings} (pins : FieldPins) (hc : s.dhd.config = some c)
    (running : s.ftu.timerRunning = true) : exec (.internalFieldStart pins) s = .next (s.timerRunsOut c.standard pins) := by
  show execInternalFieldStart pins s = _
  simp [execInternalFieldStart, State.standard_of_config hc, running]

theorem execReturnWaitExpires_of_skipped {s : State} {c : Settings} (pins : FieldPins) (hc : s.dhd.config = some c)
    (fallen : s.ftu.refState = .fallback) (skipped : s.ftu.returnStep = .skipped) :
    exec (.returnWaitExpires pins) s = .next (s.returnWaitRunsOut c.standard pins) := by
  show execReturnWaitExpires pins s = _
  simp [execReturnWaitExpires, State.standard_of_config hc, fallen, skipped]

/-- The agreement of transport, chase and segment at power-up (R80, R102, R139). -/
theorem State.ofPins_transport (pins : PowerUpPins) (order : FieldOrder) (q : List Instr) :
    (State.ofPins pins order q).transportLegal := by
  intro _
  cases h : pins.threaded <;>
    simp [State.recordAgrees, State.chaseAgrees, State.pendingAgrees, State.requestAgrees, State.threadAgrees,
      State.unconfiguredAgrees, State.ofPins, Tsq.reset, Csv.reset, Cul.reset, Rcc.reset, Dhd.reset, h, TransportState.allows]

theorem State.emitStop_of_quiet {s : State} (quiet : s.lif.sending = none) :
    s.emitStop = { s with lif := { s.lif with
      emitting := true, idle := false, watch := if s.lif.watch = .steady then .abandoned else s.lif.watch } } := by
  have same : s.cutShort = s := by
    unfold State.cutShort
    rw [quiet]
  unfold State.emitStop
  rw [same]

theorem State.emitStop_watch {s : State} (steady : s.lif.watch = .steady) : s.emitStop.lif.watch = .abandoned :=
  if_pos (s.cutShort_frame.watch.trans steady)

theorem execStopInput_pressed {s : State} (released : s.lif.stopLevel = false) (loud : s.lif.listenOnly = false) :
    exec .stopInput s = .next ({ s with lif := { s.lif with stopLevel := true } } : State).emitStop := by
  show execStopInput s = _
  simp [execStopInput, State.requestStop, released, loud]

end Sys2Proof.Machine

open Sys2Proof Sys2Proof.Machine

/-- Settles O1: the front command is executed, and an empty queue lets a microsecond pass or gives the running timer's field start. -/
theorem stepRunsTheFrontCommand : Obligations.StepRunsTheFrontCommand := by
  refine ⟨fun _ _ _ => rfl, fun s empty => ?_⟩
  rw [step_of_empty empty]
  refine ⟨fun none => s.idle_of_noTimer (State.timerDue_of_unconfigured none), fun c hc => ⟨fun locked => ?_, ?_, ?_, ?_⟩⟩
  · have due : s.timerDue = some (s.ftu.watchEnd c.standard) := by simp [State.timerDue, State.standard_of_config hc, locked]
    obtain ⟨early, late⟩ := State.idle_of_timerDue due
    refine ⟨early, fun h => ?_⟩
    rw [execRefWatchExpires_of_due _ hc locked (h.trans (Nat.le_max_left ..)), late h, State.timerFires_of_locked hc locked]
  · intro fallen idle stopped
    exact s.idle_of_noTimer (by simp [State.timerDue, State.standard_of_config hc, fallen, idle, stopped])
  · intro fallen idle running
    have due : s.timerDue = some (s.ftu.timerEnd c.standard) := by
      simp [State.timerDue, State.standard_of_config hc, fallen, idle, running]
    obtain ⟨early, late⟩ := State.idle_of_timerDue due
    refine ⟨early, fun h => ?_⟩
    rw [execInternalFieldStart_of_running _ hc running, late h, State.timerFires_of_running hc fallen idle]
  · intro pulse fallen skipped last
    have due : s.timerDue = some (s.ftu.returnEnd c.standard) := by
      simp [State.timerDue, State.standard_of_config hc, fallen, skipped]
    obtain ⟨early, late⟩ := State.idle_of_timerDue due
    have ends : s.ftu.returnEnd c.standard = pulse + c.standard.watchPeriod := by simp [Ftu.returnEnd, last]
    rw [ends] at early late
    refine ⟨early, fun h => ?_⟩
    rw [execReturnWaitExpires_of_skipped _ hc fallen skipped, late h, State.timerFires_of_skipped hc fallen skipped]

/-- Settles O2: the reset state is written out block by block. -/
theorem powerUpResetSetsEveryBlock : Obligations.PowerUpResetSetsEveryBlock := fun pins s =>
  ⟨State.ofPins pins s.order s.pending, rfl, rfl, rfl, rfl, rfl, rfl, rfl, rfl, rfl, rfl, rfl, rfl, rfl, rfl, rfl⟩

/-- Settles O3: each invariant at the reset state. -/
theorem powerUpStateIsLegal : Obligations.PowerUpStateIsLegal := by
  intro pins order q
  obtain ⟨levels, rest⟩ := (State.tenLegal_iff _).mp (State.ofPins_ten pins order q)
  obtain ⟨txq, silent, flags, line⟩ := (State.lifLegal_iff _).mp (State.ofPins_lif pins order q)
  exact ⟨State.ofPins_transport pins order q, State.ofPins_speed .., State.ofPins_master .., State.ofPins_peers .., State.ofPins_zones ..,
    State.ofPins_cues .., levels, rest, txq, silent, flags, line, (State.portLegal_iff _).mpr (State.ofPins_lpt ..),
    State.ofPins_position .., State.ofPins_clock .., nofun⟩

/-- Settles O16: the two rows by the count they are taken at. -/
theorem candidateExpiresAndCodeIsLost : Obligations.CandidateExpiresAndCodeIsLost := by
  intro s c hc
  have expires : exec .jumpCandidateExpires s = execJumpCandidateExpires s := rfl
  have lost : exec .codeLost s = execCodeLost s := rfl
  rw [expires, lost]
  unfold execJumpCandidateExpires execCodeLost
  rw [hc]
  refine ⟨fun k hk due => ?_, fun k hk young => ?_, fun code due => ?_, fun short => ?_⟩
  · rw [hk]
    exact if_pos due
  · rw [hk]
    exact if_neg (Nat.not_le_of_lt young)
  · exact if_pos ⟨code, due⟩
  · refine if_neg fun ⟨code, due⟩ => ?_
    obtain other | short := short
    · exact other code
    · omega

/-- Settles O25: a press cuts the own frame short and drives the line; held it does nothing, and release and end clear one bit. -/
theorem stopInputEmitsOnce : Obligations.StopInputEmitsOnce := by
  refine fun s => ⟨fun released loud => ⟨_, execStopInput_pressed released loud, rfl, ?_, ?_, ?_, ?_⟩, fun held => ?_, rfl, rfl⟩
  · exact (State.cutShort_frame _).stopLevel
  · exact State.cutShort_sending _
  · intro steady
    exact State.emitStop_watch steady
  · intro quiet
    exact State.emitStop_of_quiet quiet
  · exact if_pos held

end

section
/-! SUPPORT. The deck in brief: what the rules' agreement of transport, chase and segment speaks of, and what each operation of these
blocks does to it. -/

namespace Sys2Proof.Machine

/-- What the agreement of transport, chase and segment speaks of (R80 to R83, R87, R95, R102, R140). -/
structure Deck where
  state : TransportState
  reqMode : ReqMode
  matched : Bool
  waits : Bool
  recovery : Recovery
  pending : Option OpKind
  held : Bool
  chase : ChaseState
  stored : Bool
  seg : SegState
  segHeld : Bool
  threaded : Bool
  configured : Bool
  listed : Bool

/-- The deck in brief. -/
def State.brief (s : State) : Deck :=
  { state := s.tsq.state, reqMode := s.tsq.reqMode, matched := s.tsq.matched, waits := s.tsq.wait.isSome,
    recovery := s.tsq.recovery, pending := s.tsq.pendingOp.map (·.kind), held := s.tsq.slot.isSome, chase := s.csv.state,
    stored := s.csv.record.isSome, seg := s.rcc.state, segHeld := s.rcc.record.isSome, threaded := s.pins.threaded,
    configured := s.dhd.config.isSome, listed := !(s.cul.cues.isEmpty && s.cul.roll.isNone) }

/-- The pending record's kind fits the transport state (R90, R93, R95). -/
def Deck.pendingFits : Option OpKind → TransportState → Bool
  | none, t => t != .cueing
  | some .cueTo, t | some .jog, t => t == .cueing
  | some .eject, t => t == .ejecting
  | some .mode, t => t != .cueing && t != .ejecting

/-- The agreement, but for the tally wait. -/
structure Deck.Core (d : Deck) : Prop where
  records : d.reqMode = .record ↔ d.seg = .recording
  holds : d.seg = .recording ↔ d.segHeld = true
  chases : d.chase ≠ .off ↔ d.state = .chasing
  stores : d.chase ≠ .off → d.stored = true
  locks : d.state = .chasing → d.reqMode = .record → d.chase = .locked
  pends : Deck.pendingFits d.pending d.state = true
  allows : d.state.allows d.reqMode = true
  recovers : d.recovery ≠ .idle → d.state = .faulted
  asks : d.configured = true → d.reqMode ≠ .noMode
  threads : d.state = .unthreaded ↔ d.threaded = false
  dormant : d.configured = false → d.reqMode = .noMode ∧ d.recovery = .idle ∧ d.pending = none ∧ d.held = false ∧
    d.chase = .off ∧ d.seg = .idle ∧ d.listed = false

/-- The agreement, the tally wait with it: one that runs is for a request not matched, at a configured deck with a tape. -/
structure Deck.Legal (d : Deck) : Prop extends Deck.Core d where
  unmatched : d.waits = true → d.matched = false
  awaited : d.waits = true → d.state ≠ .unthreaded ∧ d.configured = true

theorem State.transportLegal_iff (s : State) : s.transportLegal ↔ (s.dhd.transportFitted = true → s.brief.Legal) := by
  have pends : s.pendingAgrees = Deck.pendingFits s.brief.pending s.brief.state := by
    unfold State.pendingAgrees State.brief
    cases s.tsq.pendingOp with
    | none => rfl
    | some o => cases h : o.kind <;> simp [h, Deck.pendingFits]
  refine forall_congr' fun _ => ⟨?_, ?_⟩
  · rintro ⟨⟨h1, h2⟩, ⟨h3, h4, h5⟩, h6, ⟨h7, h8, h9, h10, h11⟩, h12, h13⟩
    refine ⟨⟨h1, h2, h3, h4, h5, pends ▸ h6, h7, h8, h11, h12, fun none => ?_⟩, h9, fun wait => ⟨fun gone => ?_, ?_⟩⟩
    · obtain ⟨r1, r2, r3, r4, r5, r6, r7, r8, r9⟩ := h13 (by simpa [State.brief] using none)
      exact ⟨r1, r3, by simp [State.brief, r4], by simp [State.brief, r5], r6, r7, by simp [State.brief, r8, r9]⟩
    · simp [State.brief, h10 gone] at wait
    · by_contra none
      have none : s.dhd.config.isNone = true := by simpa [State.brief] using none
      simp [State.brief, (h13 none).2.1] at wait
  · rintro ⟨⟨h1, h2, h3, h4, h5, h6, h7, h8, h9, h10, h11⟩, h12, h13⟩
    refine ⟨⟨h1, h2⟩, ⟨h3, h4, h5⟩, pends ▸ h6, ⟨h7, h8, h12, fun gone => ?_, h9⟩, h10, fun none => ?_⟩
    · by_contra wait
      exact (h13 (Option.isSome_iff_ne_none.mpr wait)).1 gone
    · have none : s.brief.configured = false := by simpa [State.brief] using none
      obtain ⟨r1, r2, r3, r4, r5, r6, r7⟩ := h11 none
      refine ⟨r1, ?_, r2, ?_, ?_, r5, r6, ?_⟩
      · by_contra wait
        exact absurd (none.symm.trans (h13 (Option.isSome_iff_ne_none.mpr wait)).2) (by simp)
      · simpa [State.brief] using r3
      · simpa [State.brief] using r4
      · simpa [State.brief] using r7

/-! ### What a matched request and a request bring about -/

/-- The recovery STOP's wait satisfied: STOPPED, recovery over (R87). -/
def Deck.recovered (d : Deck) : Deck :=
  if d.recovery = .recoveryWait then { d with state := .stopped, recovery := .idle } else d

/-- A request is matched: the pending operation goes on, is over, or comes to rest (R83, R90, R91, R94). -/
inductive Deck.Satisfied (d : Deck) : Deck → Prop
  | plain : Deck.Satisfied d { d.recovered with matched := true, waits := false }
  | ended (kind : d.pending = some .mode ∨ d.pending = some .eject) :
      Deck.Satisfied d { d.recovered with matched := true, waits := false, pending := none }
  | rested (kind : d.pending = some .cueTo ∨ d.pending = some .jog) (cueing : d.recovered.state = .cueing)
      (still : d.reqMode = .still) :
      Deck.Satisfied d { d.recovered with matched := true, waits := false, pending := none, state := .still }

/-- A mode is requested: it stands not matched, waits for its tally, or is matched at once (R81, R83, R91). -/
inductive Deck.Driven (m : ReqMode) (d : Deck) : Deck → Prop
  | stands (asked : d.reqMode = m) (unmatched : d.matched = false) : Deck.Driven m d d
  | waits : Deck.Driven m d { d with reqMode := m, matched := false, waits := true }
  | satisfied {d' : Deck} (h : Deck.Satisfied { d with reqMode := m } d') : Deck.Driven m d d'

theorem Deck.Core.recovered {d : Deck} (core : d.Core) : d.recovered.Core := by
  unfold Deck.recovered
  split
  · rename_i waits
    have faulted := core.recovers (by simp [waits])
    have allows := core.allows
    have pends := core.pends
    rw [faulted] at allows pends
    obtain ⟨h1, h2, h3, h4, h5, h6, h7, h8, h9, h10, h11⟩ := core
    constructor
    all_goals simp_all [TransportState.allows]
    cases hp : d.pending with
    | none => rfl
    | some k => cases k <;> simp_all [Deck.pendingFits]
  · exact core

theorem Deck.Satisfied.legal {d d' : Deck} (h : d.Satisfied d') (core : d.Core) : d'.Legal := by
  have recovered := core.recovered
  obtain ⟨h1, h2, h3, h4, h5, h6, h7, h8, h9, h10, h11⟩ := recovered
  have pending : d.recovered.pending = d.pending := by unfold Deck.recovered; split <;> rfl
  have mode : d.recovered.reqMode = d.reqMode := by unfold Deck.recovered; split <;> rfl
  cases h with
  | plain => exact ⟨⟨h1, h2, h3, h4, h5, h6, h7, h8, h9, h10, h11⟩, nofun, nofun⟩
  | ended kind =>
    refine ⟨⟨h1, h2, h3, h4, h5, ?_, h7, h8, h9, h10, by grind⟩, nofun, nofun⟩
    obtain kind | kind := kind <;> simp_all [Deck.pendingFits]
  | rested kind cueing still =>
    refine ⟨⟨h1, h2, ?_, h4, ?_, rfl, ?_, ?_, h9, ?_, by grind⟩, nofun, nofun⟩
    all_goals grind [TransportState.allows]

theorem Deck.Driven.legal {m : ReqMode} {d d' : Deck} (h : d.Driven m d') (core : ({ d with reqMode := m } : Deck).Core)
    (waits : d.waits = true → d.matched = false) (tape : d.state ≠ .unthreaded) (ready : d.configured = true) : d'.Legal := by
  cases h with
  | stands asked unmatched =>
    subst asked
    exact ⟨core, waits, fun _ => ⟨tape, ready⟩⟩
  | waits =>
    obtain ⟨h1, h2, h3, h4, h5, h6, h7, h8, h9, h10, h11⟩ := core
    exact ⟨⟨h1, h2, h3, h4, h5, h6, h7, h8, h9, h10, h11⟩, fun _ => rfl, fun _ => ⟨tape, ready⟩⟩
  | satisfied h => exact h.legal core

/-- The deck with another chase and segment. -/
def Deck.apart (c : ChaseState) (g : SegState) (h : Bool) (d : Deck) : Deck := { d with chase := c, seg := g, segHeld := h }

theorem Deck.Satisfied.apart {d d' : Deck} (h : d.Satisfied d') (c : ChaseState) (g : SegState) (x : Bool) :
    (d.apart c g x).Satisfied (d'.apart c g x) := by
  have recovered : (d.apart c g x).recovered = d.recovered.apart c g x := by
    unfold Deck.recovered Deck.apart
    split <;> rfl
  cases h with
  | plain =>
    have matched := Deck.Satisfied.plain (d := d.apart c g x)
    rw [recovered] at matched
    exact matched
  | ended kind =>
    have done := Deck.Satisfied.ended (d := d.apart c g x) kind
    rw [recovered] at done
    exact done
  | rested kind cueing still =>
    have still := Deck.Satisfied.rested (d := d.apart c g x) kind (by rw [recovered]; exact cueing) still
    rw [recovered] at still
    exact still

theorem Deck.Driven.apart {m : ReqMode} {d d' : Deck} (h : d.Driven m d') (c : ChaseState) (g : SegState) (x : Bool) :
    (d.apart c g x).Driven m (d'.apart c g x) := by
  cases h with
  | stands asked unmatched => exact .stands asked unmatched
  | waits => exact .waits
  | satisfied h => exact .satisfied (h.apart c g x)

/-! ### What the state's operations do to the deck -/

theorem State.MessageFrame.brief {s t : State} (h : s.MessageFrame t) : t.brief = s.brief := by
  unfold State.brief
  rw [h.tsq, h.csv, h.rcc, h.pins, h.config, h.cul]

@[simp] theorem State.answer_brief (i : Issuer) (q y : Byte) (c : Code) (r : List Byte) (s : State) :
    (s.answer i q y c r).brief = s.brief := (s.answer_frame i q y c r).brief

@[simp] theorem State.reply_brief (i : Issuer) (q y : Byte) (r : Reply) (s : State) : (s.reply i q y r).brief = s.brief :=
  (s.reply_frame i q y r).brief

@[simp] theorem State.segmentNotice_brief (g : Segment) (c : Code) (s : State) : (s.segmentNotice g c).brief = s.brief :=
  (s.segmentNotice_frame g c).brief

@[simp] theorem State.latch_brief (e : Event) (s : State) : (s.latch e).brief = s.brief := rfl

@[simp] theorem State.writeSense_brief (r : Sense) (s : State) : (s.writeSense r).brief = s.brief := rfl

@[simp] theorem State.setTransport_brief (t : TransportState) (s : State) :
    (s.setTransport t).brief = { s.brief with state := t } := rfl

@[simp] theorem State.setPending_brief (o : Option PendingOp) (s : State) :
    (s.setPending o).brief = { s.brief with pending := o.map (·.kind) } := rfl

@[simp] theorem State.setRequest_brief (m : ReqMode) (s : State) :
    (s.setRequest m).brief = { s.brief with reqMode := m, matched := false, waits := false } := rfl

@[simp] theorem State.chaseOff_brief (s : State) : s.chaseOff.brief = { s.brief with chase := .off } := rfl

@[simp] theorem State.emptySlot_brief (c : Code) (s : State) : (s.emptySlot c).brief = { s.brief with held := false } := by
  unfold State.emptySlot
  split
  · rw [State.answer_brief]
    rfl
  · rename_i none
    simp [State.brief, none]

@[simp] theorem State.endPending_brief (a b : Code) (s : State) : (s.endPending a b).brief = { s.brief with pending := none } := by
  unfold State.endPending
  split
  · rename_i none
    simp [State.brief, none]
  · split <;> simp

theorem State.matchRecovery_brief (s : State) : s.matchRecovery.brief = s.brief.recovered := by
  unfold State.matchRecovery Deck.recovered
  by_cases h : s.tsq.recovery = .recoveryWait
  · rw [if_pos h, if_pos (show s.brief.recovery = _ from h)]
    rfl
  · rw [if_neg h, if_neg (show ¬ s.brief.recovery = _ from h)]

theorem State.matchFollow_brief (s : State) : s.matchFollow.brief = s.brief := by
  unfold State.matchFollow
  repeat' split
  all_goals rfl

/-- What a pending operation does when its request is matched, in brief. -/
theorem State.matchPending_brief (s : State) :
    s.matchPending.brief = s.brief ∨
      ((s.brief.pending = some .mode ∨ s.brief.pending = some .eject) ∧
        s.matchPending.brief = { s.brief with pending := none }) ∨
      ((s.brief.pending = some .cueTo ∨ s.brief.pending = some .jog) ∧ s.brief.state = .cueing ∧ s.brief.reqMode = .still ∧
        s.matchPending.brief = { s.brief with pending := none, state := .still }) := by
  have rests (o : PendingOp) : (s.judgeRest o).brief = s.brief ∨
      (s.judgeRest o).brief = { s.brief with pending := none, state := .still } := by
    unfold State.judgeRest
    split
    · split
      · exact .inr (State.answer_brief ..)
      · exact .inl rfl
    · exact .inl rfl
  have kind {o : PendingOp} {k : OpKind} (h : s.tsq.pendingOp = some o) (hk : o.kind = k) : s.brief.pending = some k := by
    simp [State.brief, h, hk]
  unfold State.matchPending
  split
  · exact .inl rfl
  · rename_i o pending
    split
    · rename_i k
      exact .inr (.inl ⟨.inl (kind pending k), rfl⟩)
    · rename_i k
      split
      · exact .inr (.inl ⟨.inr (kind pending k), State.answer_brief ..⟩)
      · exact .inl rfl
    · rename_i k
      split
      · rename_i asked
        obtain same | rest := rests o
        · exact .inl same
        · exact .inr (.inr ⟨.inl (kind pending k), asked.1, asked.2, rest⟩)
      · exact .inl rfl
    · rename_i k
      split
      · rename_i asked
        obtain same | rest := rests o
        · exact .inl same
        · exact .inr (.inr ⟨.inr (kind pending k), asked.1, asked.2, rest⟩)
      · exact .inl rfl

/-- The request is matched, in brief (R83). -/
theorem State.onMatched_brief (s : State) : s.brief.Satisfied s.onMatched.brief := by
  have start : (({ s with tsq := { s.tsq with matched := true, wait := none } } : State).matchRecovery).brief =
      { s.brief.recovered with matched := true, waits := false } := by
    rw [State.matchRecovery_brief]
    unfold Deck.recovered
    split <;> rename_i h
    · rw [if_pos (show s.brief.recovery = _ from h)]
      rfl
    · rw [if_neg (show ¬ s.brief.recovery = _ from h)]
      rfl
  have kept : s.brief.recovered.pending = s.brief.pending := by unfold Deck.recovered; split <;> rfl
  have mode : s.brief.recovered.reqMode = s.brief.reqMode := by unfold Deck.recovered; split <;> rfl
  unfold State.onMatched
  rw [State.matchFollow_brief]
  obtain same | ⟨kind, done⟩ | ⟨kind, cueing, still, done⟩ :=
    (({ s with tsq := { s.tsq with matched := true, wait := none } } : State).matchRecovery).matchPending_brief
  · rw [same, start]
    exact .plain
  · rw [start] at kind
    rw [done, start]
    exact .ended (kept ▸ kind)
  · rw [start] at kind cueing still
    rw [done, start]
    exact .rested (kept ▸ kind) cueing (mode ▸ still)

/-- Whether the request stood matched, or a wait ran, is nothing to what its matching brings about. -/
theorem Deck.Satisfied.of_asked {d d' : Deck} {a b : Bool} (h : ({ d with matched := a, waits := b } : Deck).Satisfied d') :
    d.Satisfied d' := by
  have recovered : ({ d with matched := a, waits := b } : Deck).recovered = { d.recovered with matched := a, waits := b } := by
    unfold Deck.recovered
    split <;> rfl
  cases h with
  | plain =>
    rw [recovered]
    exact .plain
  | ended kind =>
    rw [recovered]
    exact .ended kind
  | rested kind cueing still =>
    rw [recovered] at cueing ⊢
    exact .rested kind cueing still

/-- A request, in brief (R81, R83, R91). -/
theorem State.drive_brief (m : ReqMode) (v : Int) (k : BitVec 5) (s : State) : s.brief.Driven m (s.drive m v k).brief := by
  unfold State.drive
  generalize (if m = .var ∨ m = .record then s.clampSpeed v else 0) = w
  generalize (if m = .record then k else 0) = track
  dsimp only
  split
  · rename_i same
    subst same
    split
    · exact .satisfied (State.onMatched_brief { s with tsq := { s.tsq with reqSpeed := w } })
    · rename_i unmatched
      exact .stands rfl (Bool.eq_false_iff.mpr unmatched)
  · split
    · exact .satisfied (Deck.Satisfied.of_asked (a := false) (b := true) (State.onMatched_brief { s with tsq := { s.tsq with
        reqMode := m, reqSpeed := w, reqTrack := track, matched := false, wait := some { settle := 0, busy := 0 } } }))
    · exact .waits

/-- A fresh tally wait for the mode requested, in brief. -/
theorem State.startWait_brief (s : State) : s.brief.Driven s.brief.reqMode s.startWait.brief := by
  unfold State.startWait
  dsimp only
  split
  · exact .satisfied (Deck.Satisfied.of_asked (a := false) (b := true) (State.onMatched_brief { s with tsq := { s.tsq with
      matched := false, wait := some { settle := 0, busy := 0 } } }))
  · exact .waits

theorem State.driveStanding_brief (s : State) :
    s.brief.Driven .still s.driveStanding.brief ∨ s.brief.Driven .var s.driveStanding.brief := by
  unfold State.driveStanding
  split
  · exact .inl (s.drive_brief ..)
  · exact .inr (s.drive_brief ..)

/-- The segment is over: in its gap or IDLE, with no record (R150). -/
theorem State.enterGap_brief (s : State) : ∃ g, g ≠ .recording ∧ s.enterGap.brief = { s.brief with seg := g, segHeld := false } := by
  unfold State.enterGap
  split
  · exact ⟨.idle, nofun, rfl⟩
  · exact ⟨.gap, nofun, rfl⟩

/-- An emergency out that leaves the request alone: a segment that was RECORDING is over (R147, R148). -/
theorem State.emergencyOut_brief (c : Code) (s : State) (holds : s.brief.seg = .recording ↔ s.brief.segHeld = true) :
    ∃ g, g ≠ .recording ∧ (s.brief.seg ≠ .recording → g = s.brief.seg) ∧
      (s.emergencyOut c false).brief = { s.brief with seg := g, segHeld := false } := by
  unfold State.emergencyOut
  split
  · rename_i recording _
    unfold State.abortSegmentAt
    obtain ⟨g, over', eq⟩ := State.enterGap_brief (((s.writeSense ((s.atOwnFrame _).senseRecord s.dayFrames c)).latch
      .segmentAborted).segmentNotice (s.atOwnFrame _) c)
    refine ⟨g, over', fun no => absurd recording no, eq.trans ?_⟩
    rw [State.segmentNotice_brief]
    rfl
  · rename_i noSegment
    have idle : s.brief.seg ≠ .recording := fun recording => by
      obtain ⟨x, held⟩ := Option.isSome_iff_exists.mp (holds.mp recording)
      exact noSegment x recording held
    refine ⟨s.brief.seg, idle, fun _ => rfl, ?_⟩
    have none : s.brief.segHeld = false := by
      by_contra held
      exact idle (holds.mpr (by simpa using held))
    rw [← none]

end Sys2Proof.Machine
end

section
/-! SUPPORT. The transport's own operations keep transport, chase and segment in agreement (R80 to R101). -/

namespace Sys2Proof.Machine

/-- A transport at work on nothing that holds a STILL, PLAY or SHUTTLE back. -/
def Deck.Free (d : Deck) : Prop := d.state = .stopped ∨ d.state = .still ∨ d.state = .playing ∨ d.state = .shuttling

/-- What is taken of a free transport: another state, with the mode R83 gives it and a pending record that fits (R91, R93). -/
theorem Deck.Legal.taken {d : Deck} (h : d.Legal) (ready : d.configured = true) (free : d.Free) {t : TransportState} {m : ReqMode}
    {k : OpKind} (allows : t.allows m = true) (fits : Deck.pendingFits (some k) t = true) (tape : t ≠ .unthreaded)
    (alone : t ≠ .chasing) (plays : m ≠ .record) (asks : m ≠ .noMode) :
    ({ d with state := t, pending := some k, reqMode := m } : Deck).Core := by
  obtain ⟨⟨h1, h2, h3, h4, h5, h6, h7, h8, h9, h10, h11⟩, h12, h13⟩ := h
  unfold Deck.Free at free
  have idle : d.seg ≠ .recording := fun recording => by
    have record := h1.mpr recording
    grind [TransportState.allows]
  constructor <;> grind

/-- A request made of a deck that keeps to the agreement once the mode is the one asked for. -/
theorem State.drive_legal {s : State} {m : ReqMode} {v : Int} {k : BitVec 5} (core : ({ s.brief with reqMode := m } : Deck).Core)
    (waits : s.brief.waits = true → s.brief.matched = false) (tape : s.brief.state ≠ .unthreaded)
    (ready : s.brief.configured = true) : (s.drive m v k).brief.Legal := (s.drive_brief m v k).legal core waits tape ready

theorem State.takeMode_legal {s : State} {t : TransportState} {m : ReqMode} {v : Int} {i : Issuer} {q : Byte} {o : Origin}
    (h : s.brief.Legal) (ready : s.brief.configured = true) (free : s.brief.Free) (allows : t.allows m = true)
    (mode : t = .still ∨ t = .playing ∨ t = .shuttling) : (s.takeMode t m v i q o).brief.Legal := by
  have plain : m ≠ .record ∧ m ≠ .noMode := by
    obtain rfl | rfl | rfl := mode <;> cases m <;> simp_all [TransportState.allows]
  refine State.drive_legal (h.taken ready free allows ?_ ?_ ?_ plain.1 plain.2) h.unmatched ?_ ready
  all_goals obtain rfl | rfl | rfl := mode <;> simp [Deck.pendingFits, pendingOf]

/-- The approach law of a cue keeps the agreement: it asks for STILL or VAR, or lets a STILL not yet matched be (R94). -/
theorem State.approach_legal {s : State} {e : Int} (still : ({ s.brief with reqMode := .still } : Deck).Core)
    (var : ({ s.brief with reqMode := .var } : Deck).Core) (waits : s.brief.waits = true → s.brief.matched = false)
    (tape : s.brief.state ≠ .unthreaded) (ready : s.brief.configured = true) : (s.approach e).brief.Legal := by
  unfold State.approach
  split
  · rename_i stands
    have same : ({ s.brief with reqMode := .still } : Deck) = s.brief := by rw [← stands.1]; rfl
    exact ⟨same ▸ still, waits, fun _ => ⟨tape, ready⟩⟩
  · split
    · exact State.drive_legal still waits tape ready
    · exact State.drive_legal var waits tape ready

/-- A configured station with a position source has a position. -/
theorem State.own_isSome {s : State} (ready : s.dhd.config.isSome = true) (source : s.psu.source ≠ .noSource) :
    ∃ x, s.own = some x := by
  obtain ⟨c, hc⟩ := Option.isSome_iff_exists.mp ready
  unfold State.own
  split
  · contradiction
  · simp_all
  · exact ⟨_, rfl⟩

theorem State.cueError_isSome {s : State} (o : PendingOp) (ready : s.dhd.config.isSome = true) (source : s.psu.source ≠ .noSource) :
    ∃ e, s.cueError o = some e := by
  obtain ⟨x, hx⟩ := State.own_isSome ready source
  obtain ⟨c, hc⟩ := Option.isSome_iff_exists.mp ready
  exact ⟨_, by simp only [State.cueError, State.standard_of_config hc, hx]; rfl⟩

theorem State.takeSeek_legal {s : State} {k : OpKind} {n : Nat} {i : Issuer} {q : Byte} (h : s.brief.Legal)
    (ready : s.brief.configured = true) (free : s.brief.Free) (source : s.psu.source ≠ .noSource)
    (kind : k = .cueTo ∨ k = .jog) : (s.takeSeek k n i q).brief.Legal := by
  have fits : Deck.pendingFits (some k) .cueing = true := by obtain rfl | rfl := kind <;> rfl
  have taken {m : ReqMode} (allows : TransportState.allows .cueing m = true) (plays : m ≠ .record) (asks : m ≠ .noMode) :
      ({ s.brief with state := .cueing, pending := some k, reqMode := m } : Deck).Core :=
    h.taken ready free allows fits nofun nofun plays asks
  obtain ⟨e, he⟩ := State.cueError_isSome (s := (s.setTransport .cueing).setPending
    (some (pendingOf k i q (.directive k.typeByte) n))) (pendingOf k i q (.directive k.typeByte) n) ready source
  unfold State.takeSeek
  simp only [he]
  exact State.approach_legal (taken rfl nofun nofun) (taken rfl nofun nofun) h.unmatched nofun ready

/-- What R91 and R93 take is asked of a settled transport with a tape, free of chase, segment and fault. -/
theorem State.motionVerdict_take {s : State} {m : Motion} (h : s.motionVerdict m = .take) :
    s.tsq.state ≠ .unthreaded ∧ s.csv.state = .off ∧ s.tsq.state ≠ .recording ∧
      ¬ (s.tsq.state = .faulted ∧ s.tsq.recovery = .idle) ∧ (m.isSeek = true → s.psu.source ≠ .noSource) ∧ s.settled = true := by
  unfold State.motionVerdict at h
  repeat' split at h
  all_goals first
    | contradiction
    | skip
  rename_i h1 h2 h3 h4 h5 h6
  exact ⟨h1, not_not.mp h2, h3, h4, fun seek none => h5 ⟨seek, none⟩, h6⟩

theorem State.settled_iff (s : State) : s.settled = true ↔
    s.tsq.state ≠ .cueing ∧ s.tsq.state ≠ .ejecting ∧ s.tsq.wait = none ∧ s.tsq.recovery = .idle := by
  simp [State.settled, and_assoc]

/-- A settled transport that takes a motion is free. -/
theorem State.free_of_take {s : State} {m : Motion} (h : s.brief.Legal) (take : s.motionVerdict m = .take) : s.brief.Free := by
  obtain ⟨tape, off, alone, healthy, -, settled⟩ := State.motionVerdict_take take
  obtain ⟨cueing, ejecting, -, over'⟩ := s.settled_iff.mp settled
  have chase : s.tsq.state ≠ .chasing := fun chasing => h.chases.mpr chasing off
  show s.tsq.state = _ ∨ s.tsq.state = _ ∨ s.tsq.state = _ ∨ s.tsq.state = _
  cases hs : s.tsq.state <;> simp_all

theorem State.takeMotion_legal {s : State} {m : Motion} {i : Issuer} {q : Byte} (h : s.brief.Legal)
    (ready : s.brief.configured = true) (free : s.brief.Free) (source : m.isSeek = true → s.psu.source ≠ .noSource) :
    (s.takeMotion m i q).1.brief.Legal := by
  cases m with
  | still => exact State.takeMode_legal h ready free rfl (.inl rfl)
  | play => exact State.takeMode_legal h ready free rfl (.inr (.inl rfl))
  | shuttle v => exact State.takeMode_legal h ready free rfl (.inr (.inr rfl))
  | eject => exact State.drive_legal (h.taken ready free rfl rfl nofun nofun nofun nofun) h.unmatched nofun ready
  | cueTo f => exact State.takeSeek_legal h ready free (source rfl) (.inl rfl)
  | jog n => exact State.takeSeek_legal h ready free (source rfl) (.inr rfl)

/-- A directive held or released: the slot is nothing to the agreement at a configured station. -/
theorem Deck.Legal.slot {d : Deck} (h : d.Legal) (x : Bool) (ready : x = true → d.configured = true) :
    ({ d with held := x } : Deck).Legal := by
  obtain ⟨⟨h1, h2, h3, h4, h5, h6, h7, h8, h9, h10, h11⟩, h12, h13⟩ := h
  refine ⟨⟨h1, h2, h3, h4, h5, h6, h7, h8, h9, h10, fun none => ?_⟩, h12, h13⟩
  obtain ⟨r1, r2, r3, -, r5, r6, r7⟩ := h11 none
  refine ⟨r1, r2, r3, ?_, r5, r6, r7⟩
  by_contra held
  exact absurd ((ready (by simpa using held)).symm.trans none) (by simp)

theorem State.requestMotion_legal {s : State} {m : Motion} {i : Issuer} {q : Byte} (h : s.brief.Legal)
    (ready : s.brief.configured = true) : (s.requestMotion m i q).1.brief.Legal := by
  unfold State.requestMotion
  split
  · exact h
  · split
    · exact h
    · exact h.slot true fun _ => ready
  · rename_i take
    obtain ⟨-, -, -, -, source, -⟩ := State.motionVerdict_take take
    exact State.takeMotion_legal h ready (State.free_of_take h take) source

theorem State.settle_legal {s : State} (h : s.brief.Legal) : s.settle.brief.Legal := by
  unfold State.settle
  split
  · rename_i x held
    split
    · have ready : s.brief.configured = true := by
        by_contra none
        obtain ⟨-, -, -, free, -⟩ := h.dormant (by simpa using none)
        simp [State.brief, held] at free
      rw [State.reply_brief]
      exact State.requestMotion_legal (s := { s with tsq := { s.tsq with slot := none } }) (h.slot false nofun) ready
    · exact h
  · exact h

/-! ### STOP, faults and recovery (R85 to R88, R92, R96, R98, R99) -/

/-- A deck with no operation, chase or segment under way. -/
structure Deck.Quiet (d : Deck) : Prop where
  pending : d.pending = none
  chase : d.chase = .off
  seg : d.seg ≠ .recording
  segHeld : d.segHeld = false

/-- A quiet deck keeps to the agreement with any state that calls for nothing more, and a mode R83 gives it. -/
theorem Deck.Quiet.core {d : Deck} (h : d.Quiet) {t : TransportState} {m : ReqMode} {p : Option OpKind} {r : Recovery}
    (allows : t.allows m = true) (asks : m ≠ .noMode) (plays : m ≠ .record) (alone : t ≠ .chasing)
    (fits : Deck.pendingFits p t = true) (recovers : r ≠ .idle → t = .faulted)
    (threads : t = .unthreaded ↔ d.threaded = false) (ready : d.configured = true) :
    ({ d with state := t, reqMode := m, pending := p, recovery := r } : Deck).Core := by
  obtain ⟨h1, h2, h3, h4⟩ := h
  constructor <;> grind

/-- What an end of all work leaves of the deck: nothing pending or held, the chase OFF, no segment RECORDING. -/
theorem State.stopped_brief (a b c : Code) (s : State) (h : s.brief.Legal) :
    ∃ g, g ≠ .recording ∧ (((s.endPending a b).emptySlot .superseded).chaseOff.emergencyOut c false).brief =
      { s.brief with pending := none, held := false, chase := .off, seg := g, segHeld := false } := by
  obtain ⟨g, idle, -, eq⟩ := State.emergencyOut_brief c ((s.endPending a b).emptySlot .superseded).chaseOff
    (by simpa using h.holds)
  exact ⟨g, idle, by rw [eq]; simp⟩

/-- What a request leaves of the deck. -/
theorem Deck.Driven.keeps {m : ReqMode} {d d' : Deck} (h : d.Driven m d') :
    d'.chase = d.chase ∧ d'.seg = d.seg ∧ d'.segHeld = d.segHeld ∧ d'.threaded = d.threaded ∧
      d'.configured = d.configured := by
  have recovered (d : Deck) : d.recovered.chase = d.chase ∧ d.recovered.seg = d.seg ∧ d.recovered.segHeld = d.segHeld ∧
      d.recovered.threaded = d.threaded ∧ d.recovered.configured = d.configured := by
    unfold Deck.recovered
    split <;> exact ⟨rfl, rfl, rfl, rfl, rfl⟩
  cases h with
  | stands | waits => exact ⟨rfl, rfl, rfl, rfl, rfl⟩
  | satisfied h => cases h <;> exact recovered { d with reqMode := m }

/-- The cue list and the roll emptied. -/
theorem Deck.Legal.unlisted {d : Deck} (h : d.Legal) : ({ d with listed := false } : Deck).Legal := by
  obtain ⟨⟨h1, h2, h3, h4, h5, h6, h7, h8, h9, h10, h11⟩, h12, h13⟩ := h
  refine ⟨⟨h1, h2, h3, h4, h5, h6, h7, h8, h9, h10, fun none => ?_⟩, h12, h13⟩
  obtain ⟨r1, r2, r3, r4, r5, r6, -⟩ := h11 none
  exact ⟨r1, r2, r3, r4, r5, r6, rfl⟩

/-- In FAULTED a quiet deck may try STOP (R87). -/
theorem Deck.Quiet.retried {d : Deck} (h : d.Quiet) (faulted : d.state = .faulted) (stop : d.reqMode = .stop)
    (threaded : d.threaded = true) (ready : d.configured = true) : ({ d with recovery := .recoveryWait } : Deck).Core := by
  obtain ⟨h1, h2, h3, h4⟩ := h
  constructor <;> grind [TransportState.allows, Deck.pendingFits]

/-- In FAULTED the deck is not chasing or recording, STOP is requested, and there is a tape (R87). -/
theorem Deck.Core.faulted {d : Deck} (h : d.Core) (faulted : d.state = .faulted) :
    d.chase = .off ∧ d.seg ≠ .recording ∧ d.segHeld = false ∧ d.reqMode = .stop ∧ d.threaded = true ∧ d.configured = true := by
  obtain ⟨h1, h2, h3, h4, h5, h6, h7, h8, h9, h10, h11⟩ := h
  have stop : d.reqMode = .stop := by
    rw [faulted] at h7
    simpa [TransportState.allows] using h7
  grind

theorem State.tryStop_legal {s : State} (core : ({ s.brief with recovery := .recoveryWait } : Deck).Core)
    (waits : s.brief.waits = true → s.brief.matched = false) (faulted : s.brief.state = .faulted) : s.tryStop.brief.Legal :=
  (State.startWait_brief { s with tsq := { s.tsq with recovery := .recoveryWait } }).legal core waits
    (fun gone => nomatch faulted.symm.trans gone) (core.faulted faulted).2.2.2.2.2

/-- A faulted deck may try STOP again (R87). -/
theorem State.tryStop_legal_of_faulted {s : State} (h : s.brief.Legal) (faulted : s.brief.state = .faulted) :
    s.tryStop.brief.Legal := by
  refine State.tryStop_legal ?_ h.unmatched faulted
  obtain ⟨-, -, -, -, -, ready⟩ := h.toCore.faulted faulted
  obtain ⟨⟨h1, h2, h3, h4, h5, h6, h7, h8, h9, h10, h11⟩, h12, h13⟩ := h
  exact ⟨h1, h2, h3, h4, h5, h6, h7, fun _ => faulted, h9, h10, fun none => absurd (ready.symm.trans none) (by simp)⟩

/-- Unthreaded or not, a configured station with nothing faulted has no recovery under way. -/
theorem Deck.Core.noRecovery {d : Deck} (h : d.Core) (healthy : d.state ≠ .faulted) : d.recovery = .idle := by
  by_contra under
  exact healthy (h.recovers under)

theorem Deck.Core.tape {d : Deck} (h : d.Core) (tape : d.state ≠ .unthreaded) : d.threaded = true := by
  by_contra gone
  exact tape (h.threads.mpr (by simpa using gone))

/-- A quiet deck asked for STOP in STOPPED keeps the agreement (R92, R98). -/
theorem Deck.Quiet.stopped {d : Deck} (h : d.Quiet) (recovery : d.recovery = .idle) (threaded : d.threaded = true)
    (ready : d.configured = true) (p : Option OpKind) (mode : p = none ∨ p = some .mode) :
    ({ d with state := .stopped, pending := p, reqMode := .stop } : Deck).Core := by
  have core := h.core (t := .stopped) (m := .stop) (p := p) (r := .idle) rfl nofun nofun nofun
    (by obtain rfl | rfl := mode <;> rfl) (fun no => absurd rfl no) (by simp [threaded]) ready
  rw [← recovery] at core
  exact core

theorem State.transportStop_legal {s : State} {q : Byte} {o : Origin} (h : s.brief.Legal) (ready : s.brief.configured = true) :
    (s.transportStop q o).1.brief.Legal := by
  unfold State.transportStop
  split
  · exact h
  · rename_i tape
    obtain ⟨g, idle, ended⟩ := State.stopped_brief .cueAborted .aborted .aborted s h
    have threaded := h.toCore.tape tape
    have quiet : ({ s.brief with pending := none, held := false, chase := .off, seg := g, segHeld := false } : Deck).Quiet :=
      ⟨rfl, rfl, idle, rfl⟩
    dsimp only
    refine State.settle_legal ?_
    generalize (((s.endPending .cueAborted .aborted).emptySlot .superseded).chaseOff.emergencyOut .aborted false) = s1 at ended
    have state : s1.brief.state = s.brief.state := by rw [ended]
    split
    · rename_i faulted
      have stop := (h.toCore.faulted (state.symm.trans faulted)).2.2.2.1
      refine State.tryStop_legal ?_ ?_ faulted
      · rw [ended]
        exact quiet.retried (state.symm.trans faulted) stop threaded ready
      · rw [ended]
        exact h.unmatched
    · rename_i healthy
      have recovery := h.toCore.noRecovery fun faulted => healthy (state.trans faulted)
      refine State.drive_legal ?_ ?_ nofun ?_
      · rw [State.setPending_brief, State.setTransport_brief, ended]
        exact quiet.stopped recovery threaded ready _ (.inr rfl)
      · rw [State.setPending_brief, State.setTransport_brief, ended]
        exact h.unmatched
      · rw [State.setPending_brief, State.setTransport_brief, ended]
        exact ready

/-- A deck that is not chasing, recording or faulted turns to another state, with a mode R83 gives it. -/
theorem Deck.Legal.turned {d : Deck} (h : d.Legal) (ready : d.configured = true) (tape : d.state ≠ .unthreaded)
    (alone : d.state ≠ .chasing) (idle : d.state ≠ .recording) (healthy : d.state ≠ .faulted) {t : TransportState} {m : ReqMode}
    {p : Option OpKind} (allows : t.allows m = true) (fits : Deck.pendingFits p t = true) (stays : t ≠ .unthreaded)
    (off : t ≠ .chasing) (plays : m ≠ .record) (asks : m ≠ .noMode) :
    ({ d with state := t, pending := p, reqMode := m } : Deck).Core := by
  obtain ⟨⟨h1, h2, h3, h4, h5, h6, h7, h8, h9, h10, h11⟩, h12, h13⟩ := h
  have seg : d.seg ≠ .recording := fun recording => by
    have record := h1.mpr recording
    cases hs : d.state <;> simp_all [TransportState.allows]
  constructor <;> grind

theorem Deck.Core.ready {d : Deck} (h : d.Core) {k : OpKind} (pending : d.pending = some k) : d.configured = true := by
  by_contra none
  have none := (h.dormant (by simpa using none)).2.2.1
  simp [pending] at none

/-- A cue under way is at a transport in CUEING, an eject at one in EJECTING (R90, R95). -/
theorem Deck.Core.cueing {d : Deck} (h : d.Core) (seek : d.pending = some .cueTo ∨ d.pending = some .jog) : d.state = .cueing := by
  have fits := h.pends
  obtain seek | seek := seek <;> simpa [seek, Deck.pendingFits] using fits

theorem Deck.Core.ejecting {d : Deck} (h : d.Core) (eject : d.pending = some .eject) : d.state = .ejecting := by
  have fits := h.pends
  simpa [eject, Deck.pendingFits] using fits

theorem State.brief_pending {s : State} {o : PendingOp} {k : OpKind} (h : s.tsq.pendingOp = some o) (hk : o.kind = k) :
    s.brief.pending = some k := by simp [State.brief, h, hk]

/-- A cue or an eject gives way to a rest: the state that goes with a mode, and no pending record (R96). -/
theorem State.giveWay_legal {s : State} {t : TransportState} {m : ReqMode} (h : s.brief.Legal)
    (pending : s.brief.state = .cueing ∨ s.brief.state = .ejecting) (ready : s.brief.configured = true)
    (rest : (t = .still ∧ m = .still) ∨ (t = .stopped ∧ m = .stop)) (a b : Code) :
    ((((s.endPending a b).setTransport t)).drive m 0 0).brief.Legal := by
  have other {x : TransportState} (cueing : x ≠ .cueing) (ejecting : x ≠ .ejecting) : s.brief.state ≠ x := by
    rintro rfl
    obtain k | k := pending
    · exact cueing k
    · exact ejecting k
  refine State.drive_legal ?_ ?_ ?_ ?_
  all_goals rw [State.setTransport_brief, State.endPending_brief]
  · obtain ⟨rfl, rfl⟩ | ⟨rfl, rfl⟩ := rest
    · exact h.turned ready (other nofun nofun) (other nofun nofun) (other nofun nofun) (other nofun nofun) rfl rfl nofun nofun nofun nofun
    · exact h.turned ready (other nofun nofun) (other nofun nofun) (other nofun nofun) (other nofun nofun) rfl rfl nofun nofun nofun nofun
  · exact h.unmatched
  · obtain ⟨rfl, -⟩ | ⟨rfl, -⟩ := rest <;> nofun
  · exact ready

theorem State.abortOp_legal {s : State} (h : s.brief.Legal) : s.abortOp.brief.Legal := by
  unfold State.abortOp
  refine State.settle_legal ?_
  rw [State.emptySlot_brief]
  refine Deck.Legal.slot ?_ false nofun
  split
  · rename_i o pending
    split
    · rename_i k
      have seek := State.brief_pending pending k
      exact State.giveWay_legal h (.inl (h.toCore.cueing (.inl seek))) (h.toCore.ready seek) (.inl ⟨rfl, rfl⟩) ..
    · rename_i k
      have seek := State.brief_pending pending k
      exact State.giveWay_legal h (.inl (h.toCore.cueing (.inr seek))) (h.toCore.ready seek) (.inl ⟨rfl, rfl⟩) ..
    · rename_i k
      have eject := State.brief_pending pending k
      exact State.giveWay_legal h (.inr (h.toCore.ejecting eject)) (h.toCore.ready eject) (.inr ⟨rfl, rfl⟩) ..
    · exact h
  · exact h

/-- A deck that neither chases nor records, apart from what a chase and a segment were. -/
theorem Deck.Legal.apart {d : Deck} (h : d.Legal) (alone : d.state ≠ .chasing) (plays : d.reqMode ≠ .record) {g : SegState}
    (idle : g ≠ .recording) (dormant : d.configured = false → g = .idle) : (d.apart .off g false).Legal := by
  obtain ⟨⟨h1, h2, h3, h4, h5, h6, h7, h8, h9, h10, h11⟩, h12, h13⟩ := h
  unfold Deck.apart
  refine ⟨?_, h12, h13⟩
  constructor <;> grind

/-- The transport stops at a stop event before the other blocks do: its part, for a deck whose chase and segment end with it (R98). -/
theorem State.stopTransport_apart {s : State} (h : s.brief.Legal) (fitted : s.dhd.transportFitted = true) {g : SegState}
    (idle : g ≠ .recording) (dormant : s.brief.configured = false → g = .idle) :
    (s.stopTransport.brief.apart .off g false).Legal := by
  have s1 : ((s.emptySlot .superseded).endPending .allStopped .allStopped).brief = { s.brief with held := false, pending := none } := by
    rw [State.endPending_brief, State.emptySlot_brief]
  unfold State.stopTransport
  split
  · rename_i gone
    have gone : s.brief.state = .unthreaded := gone.resolve_left (by simp [fitted])
    have mode := h.allows
    rw [gone] at mode
    exact h.apart (by simp [gone]) (fun record => by simp [record, TransportState.allows] at mode) idle dormant
  · rename_i tape
    have threaded := h.toCore.tape fun gone => tape (.inr gone)
    dsimp only
    generalize ((s.emptySlot .superseded).endPending .allStopped .allStopped) = u at s1
    have ready : u.dhd.config.isNone = !s.brief.configured := by
      have : u.brief.configured = s.brief.configured := by rw [s1]
      rw [← this]
      simp [State.brief]
    split
    · rename_i none
      have none : s.brief.configured = false := by simpa [ready] using none
      obtain ⟨r1, r2, r3, r4, r5, r6, r7⟩ := h.dormant none
      have same : u.brief = s.brief := by
        rw [s1, ← r4, ← r3]
      rw [same]
      exact h.apart (fun chasing => h.chases.mpr chasing r5) (by simp [r1]) idle dormant
    · rename_i configured
      have configured : s.brief.configured = true := by simpa [ready] using configured
      have quiet : (u.brief.apart .off g false).Quiet := by
        rw [s1]
        exact ⟨rfl, rfl, idle, rfl⟩
      have waits : u.brief.waits = true → u.brief.matched = false := by
        rw [s1]
        exact h.unmatched
      have threads : u.brief.threaded = true ∧ u.brief.configured = true := by
        rw [s1]
        exact ⟨threaded, configured⟩
      have state : u.brief.state = s.brief.state := by rw [s1]
      split
      · rename_i faulted
        have faulted : u.brief.state = .faulted := faulted
        have stop : u.brief.reqMode = .stop := by
          rw [s1]
          exact (h.toCore.faulted (state.symm.trans faulted)).2.2.2.1
        exact ((State.startWait_brief { u with tsq := { u.tsq with recovery := .recoveryWait } }).apart .off g false).legal
          (quiet.retried faulted stop threads.1 threads.2) waits (fun gone => nomatch faulted.symm.trans gone) threads.2
      · rename_i healthy
        have recovery : u.brief.recovery = .idle := by
          rw [s1]
          exact h.toCore.noRecovery fun faulted => healthy (state.trans faulted)
        exact ((State.drive_brief .stop 0 0 (u.setTransport .stopped)).apart .off g false).legal
          (by
            have core := quiet.stopped recovery threads.1 threads.2 none (.inl rfl)
            rw [show (none : Option OpKind) = u.brief.pending by rw [s1]] at core
            exact core) waits nofun threads.2

theorem State.stopNotices_brief (l : List Cue) (s : State) : (State.stopNotices l s).brief = s.brief := by
  induction l generalizing s with
  | nil => rfl
  | cons c l ih => exact (ih _).trans (s.cueNotice_frame c _).brief

theorem State.stopCues_brief (s : State) : s.stopCues.brief = { s.brief with listed := false } :=
  State.stopNotices_brief _ _

theorem State.stopTransition_brief (s : State) : s.stopTransition.brief = s.brief := by
  unfold State.stopTransition
  split <;> rfl

/-- What the transport's part of a stop event leaves: the chase and the segment as they were. -/
theorem State.stopTransport_keeps (s : State) :
    s.stopTransport.brief.seg = s.brief.seg ∧ s.stopTransport.brief.segHeld = s.brief.segHeld := by
  have s1 : ((s.emptySlot .superseded).endPending .allStopped .allStopped).brief = { s.brief with held := false, pending := none } := by
    rw [State.endPending_brief, State.emptySlot_brief]
  unfold State.stopTransport
  dsimp only
  generalize ((s.emptySlot .superseded).endPending .allStopped .allStopped) = u at s1
  have seg : u.brief.seg = s.brief.seg ∧ u.brief.segHeld = s.brief.segHeld := by
    rw [s1]
    exact ⟨rfl, rfl⟩
  split
  · exact ⟨rfl, rfl⟩
  · split
    · exact seg
    · split
      · obtain ⟨-, h1, h2, -⟩ := (State.startWait_brief { u with tsq := { u.tsq with recovery := .recoveryWait } }).keeps
        exact ⟨h1.trans seg.1, h2.trans seg.2⟩
      · obtain ⟨-, h1, h2, -⟩ := (State.drive_brief .stop 0 0 (u.setTransport .stopped)).keeps
        exact ⟨h1.trans seg.1, h2.trans seg.2⟩

/-- A stop event keeps the agreement (R34, R98). -/
theorem State.stopBlocks_legal {s : State} (h : s.brief.Legal) (fitted : s.dhd.transportFitted = true) :
    s.stopBlocks.brief.Legal := by
  unfold State.stopBlocks
  refine State.settle_legal ?_
  obtain ⟨seg, held⟩ := s.stopTransport_keeps
  obtain ⟨g, idle, same, eq⟩ := State.emergencyOut_brief .allStopped s.stopTransport.chaseOff.stopCues (by
    rw [State.stopCues_brief, State.chaseOff_brief]
    show s.stopTransport.brief.seg = _ ↔ s.stopTransport.brief.segHeld = true
    rw [seg, held]
    exact h.holds)
  rw [State.stopTransition_brief, eq, State.stopCues_brief, State.chaseOff_brief]
  refine Deck.Legal.unlisted (State.stopTransport_apart h fitted idle fun none => ?_)
  have rests := (h.dormant none).2.2.2.2.2.1
  have still : s.stopTransport.chaseOff.stopCues.brief.seg = .idle := by
    rw [State.stopCues_brief, State.chaseOff_brief]
    exact seg.trans rests
  exact (same (by simp [still])).trans still

end Sys2Proof.Machine
end

section
/-! SUPPORT. RESTART, faults and recovery, the transport's work at a field start, the tally and the tape keep the agreement. -/

namespace Sys2Proof.Machine

/-! ### RESTART (R78, R99) -/

/-- The transport's part of RESTART, for a deck whose chase and segment end with it (R80, R99). -/
theorem State.restartTransport_apart {s : State} (h : s.brief.Legal) (fitted : s.dhd.transportFitted = true) :
    (s.restartTransport.brief.apart .off .idle false).Legal := by
  have s1 : ({ s with tsq := { s.tsq with slot := none, pendingOp := none } } : State).brief =
    { s.brief with held := false, pending := none } := rfl
  have quiet : (({ s.brief with held := false, pending := none } : Deck).apart .off .idle false).Quiet := ⟨rfl, rfl, nofun, rfl⟩
  unfold State.restartTransport
  dsimp only
  split
  · rename_i rests
    have rests : s.brief.state = .unthreaded ∨ s.brief.configured = false := by
      obtain no | gone | none := rests
      · exact absurd (fitted.symm.trans no) (by simp)
      · exact .inl gone
      · exact .inr (by simpa [State.brief] using none)
    show (({ s.brief with held := false, pending := none, recovery := .idle } : Deck).apart .off .idle false).Legal
    obtain ⟨⟨h1, h2, h3, h4, h5, h6, h7, h8, h9, h10, h11⟩, h12, h13⟩ := h
    have still : s.brief.reqMode ≠ .record ∧ s.brief.state ≠ .chasing ∧ s.brief.state ≠ .cueing := by
      obtain gone | none := rests
      · rw [gone] at h7 ⊢
        exact ⟨fun record => by simp [record, TransportState.allows] at h7, nofun, nofun⟩
      · obtain ⟨r1, r2, r3, r4, r5, r6, r7⟩ := h11 none
        refine ⟨by simp [r1], fun chasing => h3.mpr chasing r5, fun cueing => ?_⟩
        rw [cueing, r1] at h7
        contradiction
    refine ⟨?_, h12, h13⟩
    unfold Deck.apart
    constructor <;> grind [Deck.pendingFits]
  · rename_i works
    push Not at works
    obtain ⟨-, tape, configured⟩ := works
    have threaded : s.brief.threaded = true := h.toCore.tape tape
    have configured : s.brief.configured = true := by simpa [State.brief, Option.isSome_iff_ne_none] using configured
    split
    · rename_i faulted
      have stop := (h.toCore.faulted faulted).2.2.2.1
      exact ((State.startWait_brief { s with tsq := { s.tsq with
        slot := none, pendingOp := none, recovery := .recoveryWait } }).apart .off .idle false).legal
        (quiet.retried faulted stop threaded configured) h.unmatched (fun gone => nomatch faulted.symm.trans gone) configured
    · rename_i healthy
      have recovery := h.toCore.noRecovery healthy
      have core := quiet.stopped recovery threaded configured none (.inl rfl)
      exact ((State.startWait_brief ((({ s with tsq := { s.tsq with slot := none, pendingOp := none } } : State).setTransport
        .stopped).setRequest .stop)).apart .off .idle false).legal
        ⟨core.records, core.holds, core.chases, core.stores, core.locks, core.pends, core.allows, core.recovers, core.asks,
          core.threads, core.dormant⟩ nofun nofun configured

theorem State.restartTransition_brief (s : State) : s.restartTransition.brief = s.brief := by
  unfold State.restartTransition
  split <;> rfl

theorem State.reportEnded_brief (o : Option PendingOp) (s : State) : (s.reportEnded o).brief = s.brief := by
  unfold State.reportEnded
  split
  · split
    · rfl
    · exact State.answer_brief ..
  · rfl

theorem State.noticeEnded_brief (st : SegState) (x : Option Segment) (s : State) : (s.noticeEnded st x).brief = s.brief := by
  unfold State.noticeEnded
  split
  · exact State.segmentNotice_brief ..
  · rfl

theorem State.restart_legal {s : State} {i : Issuer} {q : Byte} (h : s.brief.Legal) (fitted : s.dhd.transportFitted = true) :
    (s.restart i q).brief.Legal := by
  unfold State.restart
  rw [State.noticeEnded_brief, State.reportEnded_brief, State.answer_brief]
  have quiet : s.quiet.brief = { s.restartQueues.restartTransport.brief.apart .off .idle false with listed := false } :=
    State.restartTransition_brief _
  rw [quiet]
  exact Deck.Legal.unlisted (State.restartTransport_apart (s := s.restartQueues) h fitted)

/-! ### Faults and recovery (R85 to R87) -/

theorem State.enterFaulted_legal {s : State} {c : Code} (h : s.brief.Legal) (tape : s.brief.state ≠ .unthreaded)
    (ready : s.brief.configured = true) : (s.enterFaulted c).brief.Legal := by
  unfold State.enterFaulted
  extract_lets sense auto s1 s2
  have b1 : (s1.endPending c c).chaseOff.brief = { s.brief with
      state := .faulted, reqMode := .stop, matched := false, waits := false, pending := none, chase := .off } := by
    rw [State.chaseOff_brief, State.endPending_brief]
    rfl
  obtain ⟨g, idle, -, eq⟩ := State.emergencyOut_brief c (s1.endPending c c).chaseOff (by
    rw [b1]
    exact h.holds)
  have b2 : ({ s2 with tsq := { s2.tsq with recovery := if auto then .offTime 0 else .idle } } : State).brief =
      { s2.brief with recovery := if auto then .offTime 0 else .idle } := rfl
  rw [b2, eq, b1]
  have quiet : ({ s.brief with
      state := .faulted, reqMode := .stop, matched := false, waits := false, pending := none, chase := .off, seg := g,
      segHeld := false } : Deck).Quiet := ⟨rfl, rfl, idle, rfl⟩
  exact ⟨quiet.core (t := .faulted) (m := .stop) (p := none) (r := if auto then .offTime 0 else .idle) rfl nofun nofun nofun
    rfl (fun _ => rfl) (by simp [h.toCore.tape tape]) ready, nofun, nofun⟩

theorem State.recoveryFails_legal {s : State} (h : s.brief.Legal) (faulted : s.brief.state = .faulted) :
    s.recoveryFails.brief.Legal := by
  show ({ s.brief with recovery := .idle, waits := false, matched := false } : Deck).Legal
  obtain ⟨-, -, -, -, -, ready⟩ := h.toCore.faulted faulted
  obtain ⟨⟨h1, h2, h3, h4, h5, h6, h7, h8, h9, h10, h11⟩, h12, h13⟩ := h
  exact ⟨⟨h1, h2, h3, h4, h5, h6, h7, fun no => absurd rfl no, h9, h10,
    fun none => absurd (ready.symm.trans none) (by simp)⟩, nofun, nofun⟩

theorem State.waitRunsOut_legal {s : State} (h : s.brief.Legal) (waits : s.brief.waits = true) : s.waitRunsOut.brief.Legal := by
  unfold State.waitRunsOut
  split
  · rename_i recovery
    exact State.settle_legal (State.recoveryFails_legal h (h.recovers (by simp [State.brief, recovery])))
  · exact State.settle_legal (State.enterFaulted_legal h (h.awaited waits).1 (h.awaited waits).2)

theorem State.faultQualified_legal {s : State} (h : s.brief.Legal) (tape : s.brief.state ≠ .unthreaded)
    (ready : s.brief.configured = true) : s.faultQualified.brief.Legal :=
  State.settle_legal (State.enterFaulted_legal (s := { s with tsq := { s.tsq with faultCount := 0 } }) h tape ready)

/-- Recovery goes from one of its steps to another. -/
theorem Deck.Legal.recovering {d : Deck} (h : d.Legal) (under : d.recovery ≠ .idle) (r : Recovery) :
    ({ d with recovery := r } : Deck).Legal := by
  have faulted := h.recovers under
  obtain ⟨-, -, -, -, -, ready⟩ := h.toCore.faulted faulted
  obtain ⟨⟨h1, h2, h3, h4, h5, h6, h7, h8, h9, h10, h11⟩, h12, h13⟩ := h
  exact ⟨⟨h1, h2, h3, h4, h5, h6, h7, fun _ => faulted, h9, h10, fun none => absurd (ready.symm.trans none) (by simp)⟩, h12, h13⟩

theorem State.offTimeEnds_legal {s : State} (h : s.brief.Legal) (under : s.brief.recovery ≠ .idle) : s.offTimeEnds.brief.Legal := by
  unfold State.offTimeEnds
  split
  · exact h.recovering under _
  · exact State.settle_legal (State.tryStop_legal_of_faulted h (h.recovers under))

/-! ### The transport's work at a field start (R84, R86, R87, R94, R97) -/

theorem State.faultStep_legal {s : State} (h : s.brief.Legal) (ready : s.brief.configured = true) : s.faultStep.brief.Legal := by
  unfold State.faultStep
  split
  · exact h
  · rename_i works
    push Not at works
    split
    · split
      · exact State.faultQualified_legal h works.1 ready
      · exact h
    · exact h

theorem State.waitStep_legal {s : State} (c : Settings) (h : s.brief.Legal) : (s.waitStep c).brief.Legal := by
  unfold State.waitStep
  split
  · exact h
  · rename_i w wait
    have waits : s.brief.waits = true := by simp [State.brief, wait]
    have counted (w : TallyWait) : ({ s with tsq := { s.tsq with wait := some w } } : State).brief.Legal := by
      have same : ({ s with tsq := { s.tsq with wait := some w } } : State).brief = s.brief := by simp [State.brief, wait]
      exact same ▸ h
    split
    · exact counted _
    · split
      · exact State.waitRunsOut_legal h waits
      · exact counted _

theorem State.recoveryStep_legal {s : State} (c : Settings) (h : s.brief.Legal) : (s.recoveryStep c).brief.Legal := by
  unfold State.recoveryStep
  split
  · rename_i n under
    have under : s.brief.recovery ≠ .idle := by simp [State.brief, under]
    split
    · exact State.offTimeEnds_legal h under
    · exact h.recovering under _
  · exact State.waitStep_legal c h

theorem State.failSeek_legal {s : State} {o : PendingOp} (h : s.brief.Legal) (cueing : s.brief.state = .cueing)
    (ready : s.brief.configured = true) : (s.failSeek o).brief.Legal := by
  unfold State.failSeek
  dsimp only
  refine State.settle_legal (State.drive_legal ?_ ?_ ?_ ?_)
  all_goals rw [State.answer_brief, State.writeSense_brief, State.setTransport_brief, State.setPending_brief]
  · exact h.turned ready (by simp [cueing]) (by simp [cueing]) (by simp [cueing]) (by simp [cueing]) rfl rfl nofun nofun nofun nofun
  · exact h.unmatched
  · exact nofun
  · exact ready

theorem State.cueStep_legal {s : State} (h : s.brief.Legal) (cueing : s.brief.state = .cueing) (ready : s.brief.configured = true) :
    s.cueStep.brief.Legal := by
  unfold State.cueStep
  split
  · rename_i o pending
    split
    · rename_i e _
      have kind : (o.countReversal e).kind = o.kind := by
        unfold PendingOp.countReversal
        split <;> rfl
      have same : (s.setPending (some (o.countReversal e))).brief = s.brief := by
        simp [State.brief, State.setPending, pending, kind]
      have turned {m : ReqMode} (allows : TransportState.allows .cueing m = true) (plays : m ≠ .record) (asks : m ≠ .noMode) :
          ({ s.brief with reqMode := m } : Deck).Core := by
        have core := h.turned ready (t := .cueing) (m := m) (p := s.brief.pending) (by simp [cueing]) (by simp [cueing])
          (by simp [cueing]) (by simp [cueing]) allows (cueing ▸ h.pends) nofun nofun plays asks
        rw [← cueing] at core
        exact core
      dsimp only
      split
      · exact State.failSeek_legal (s := s.setPending _) (same ▸ h) cueing ready
      · refine State.settle_legal (State.approach_legal ?_ ?_ h.unmatched ?_ ready)
        · rw [same]
          exact turned rfl nofun nofun
        · rw [same]
          exact turned rfl nofun nofun
        · rw [same, cueing]
          exact nofun
    · exact h
  · exact h

theorem State.expireSlot_legal {s : State} {x : Held} (h : s.brief.Legal) : (s.expireSlot x).brief.Legal := by
  unfold State.expireSlot
  rw [State.emptySlot_brief]
  exact h.slot false nofun

theorem State.slotStep_legal {s : State} (c : Settings) (h : s.brief.Legal) : (s.slotStep c).brief.Legal := by
  unfold State.slotStep
  split
  · rename_i x held
    split
    · exact State.expireSlot_legal h
    · have same (y : Held) : ({ s with tsq := { s.tsq with slot := some y } } : State).brief = s.brief := by
        simp [State.brief, held]
      exact same _ ▸ h
  · exact h

theorem State.transportFieldStart_legal {s : State} (h : s.brief.Legal) : s.transportFieldStart.brief.Legal := by
  unfold State.transportFieldStart
  split
  · rename_i c hc
    split
    · have ready : s.brief.configured = true := by simp [State.brief, hc]
      have faults := State.faultStep_legal h ready
      extract_lets s1 s2 s3
      have recovers : s2.brief.Legal := by
        by_cases entered : s1.tsq.state = .faulted ∧ s.tsq.state ≠ .faulted
        · rwa [show s2 = s1 from if_pos entered]
        · rw [show s2 = s1.recoveryStep c from if_neg entered]
          exact State.recoveryStep_legal c faults
      have work : s.Work s2 := .ite s.faultStep_work (s.faultStep_work.trans (State.recoveryStep_work ..))
      refine State.slotStep_legal c ?_
      by_cases cueing : s.tsq.state = .cueing ∧ s2.tsq.state = .cueing
      · rw [show s3 = s2.cueStep from if_pos cueing]
        exact State.cueStep_legal recovers cueing.2 (by simp [State.brief, work.config, hc])
      · rwa [show s3 = s2 from if_neg cueing]
    · exact h
  · exact h

/-! ### The tally and the tape (R83, R88 to R90) -/

/-- A request with no operation pending leaves none. -/
theorem Deck.Driven.pending_none {m : ReqMode} {d d' : Deck} (h : d.Driven m d') (none : d.pending = .none) : d'.pending = .none := by
  cases h with
  | stands | waits => exact none
  | satisfied h =>
    cases h with
    | plain =>
      show ({ d with reqMode := m } : Deck).recovered.pending = _
      unfold Deck.recovered
      split <;> exact none
    | ended | rested => rfl

/-- What an unsolicited tally is adopted as, before the operation, the chase and the segment under way end with it (R88). -/
theorem State.adopt_apart {s : State} {t : Tally} (h : s.brief.Legal) (ready : s.brief.configured = true)
    (tape : s.brief.state ≠ .unthreaded) (healthy : s.brief.state ≠ .faulted) (known : t ≠ .unknown) {g : SegState}
    (idle : g ≠ .recording) :
    ((({ s with tsq := { s.tsq with pendingOp := none } } : State).adopt t).brief.apart .off g false).Legal ∧
      (({ s with tsq := { s.tsq with pendingOp := none } } : State).adopt t).brief.pending = none := by
  have quiet : (({ s.brief with pending := none } : Deck).apart .off g false).Quiet := ⟨rfl, rfl, idle, rfl⟩
  have threaded := h.toCore.tape tape
  have recovery := h.toCore.noRecovery healthy
  have core {t : TransportState} {m : ReqMode} (allows : t.allows m = true) (asks : m ≠ .noMode) (plays : m ≠ .record)
      (alone : t ≠ .chasing) (cueing : t ≠ .cueing) (stays : t ≠ .unthreaded) :
      ({ ({ s.brief with pending := none } : Deck).apart .off g false with state := t, reqMode := m } : Deck).Core := by
    have c := quiet.core (t := t) (m := m) (p := none) (r := .idle) allows asks plays alone (by simp [Deck.pendingFits, cueing])
      (fun no => absurd rfl no) ⟨fun gone => absurd gone stays, fun gone => absurd (threaded.symm.trans gone) (by simp)⟩ ready
    rw [← recovery] at c
    exact c
  have adopted {t : TransportState} {m : ReqMode} (allows : t.allows m = true) (asks : m ≠ .noMode) (plays : m ≠ .record)
      (alone : t ≠ .chasing) (cueing : t ≠ .cueing) (stays : t ≠ .unthreaded) :
      ({ ({ s.brief with pending := none } : Deck).apart .off g false with
        state := t, reqMode := m, matched := true, waits := false } : Deck).Legal := by
    obtain ⟨h1, h2, h3, h4, h5, h6, h7, h8, h9, h10, h11⟩ := core allows asks plays alone cueing stays
    exact ⟨⟨h1, h2, h3, h4, h5, h6, h7, h8, h9, h10, h11⟩, nofun, nofun⟩
  cases t with
  | stop => exact ⟨adopted (t := .stopped) (m := .stop) rfl nofun nofun nofun nofun nofun, rfl⟩
  | still => exact ⟨adopted (t := .still) (m := .still) rfl nofun nofun nofun nofun nofun, rfl⟩
  | play => exact ⟨adopted (t := .playing) (m := .play) rfl nofun nofun nofun nofun nofun, rfl⟩
  | var => exact ⟨adopted (t := .shuttling) (m := .var) rfl nofun nofun nofun nofun nofun, rfl⟩
  | eject => exact ⟨adopted (t := .ejecting) (m := .eject) rfl nofun nofun nofun nofun nofun, rfl⟩
  | unknown => exact absurd rfl known
  | record =>
    have driven := State.startWait_brief ((({ s with tsq := { s.tsq with pendingOp := none } } : State).setTransport
      .playing).setRequest .play)
    obtain ⟨h1, h2, h3, h4, h5, h6, h7, h8, h9, h10, h11⟩ :=
      core (t := .playing) (m := .play) rfl nofun nofun nofun nofun nofun
    refine ⟨(driven.apart .off g false).legal ⟨h1, h2, h3, h4, h5, h6, h7, h8, h9, h10, h11⟩ nofun nofun ready, ?_⟩
    exact driven.pending_none rfl

/-- What an adoption leaves of the segment. -/
theorem State.adopt_keeps (t : Tally) (s : State) :
    (s.adopt t).brief.seg = s.brief.seg ∧ (s.adopt t).brief.segHeld = s.brief.segHeld := by
  cases t with
  | record =>
    obtain ⟨-, h1, h2, -⟩ := (State.startWait_brief ((s.setTransport .playing).setRequest .play)).keeps
    exact ⟨h1, h2⟩
  | _ => exact ⟨rfl, rfl⟩

theorem State.overridden_legal {s : State} {t : Tally} (h : s.brief.Legal) (ready : s.brief.configured = true)
    (tape : s.brief.state ≠ .unthreaded) (healthy : s.brief.state ≠ .faulted) (known : t ≠ .unknown) :
    (s.overridden t).brief.Legal := by
  unfold State.overridden
  extract_lets sense pending src s1 s2 s3
  refine State.settle_legal ?_
  rw [State.latch_brief]
  have b3 : s3.brief = { s1.brief with pending := none } := by
    have b2 : s2.brief = { s1.brief with pending := none } := State.endPending_brief ..
    rw [← b2]
    unfold s3
    split <;> rfl
  have kept := State.adopt_keeps t { s with tsq := { s.tsq with pendingOp := none } }
  obtain ⟨g, idle, -, eq⟩ := State.emergencyOut_brief .deckOverride s3.chaseOff (by
    rw [State.chaseOff_brief, b3]
    show s1.brief.seg = _ ↔ s1.brief.segHeld = true
    rw [kept.1, kept.2]
    exact h.holds)
  obtain ⟨legal, none⟩ := State.adopt_apart h ready tape healthy known idle
  rw [eq, State.chaseOff_brief, b3, ← none]
  exact legal

theorem State.changeTally_legal {s : State} {t : Tally} (h : s.brief.Legal) : (s.changeTally t).brief.Legal := by
  unfold State.changeTally
  dsimp only
  split
  · exact h
  · rename_i judged
    push Not at judged
    have ready : s.brief.configured = true := by
      simpa [State.brief, Option.isSome_iff_ne_none] using judged.2.2
    split
    · split
      · exact State.settle_legal ((State.onMatched_brief _).legal h.toCore)
      · exact h
    · split
      · rename_i unsolicited
        simp only [State.unsolicited, Bool.and_eq_true, bne_iff_ne, ne_eq] at unsolicited
        obtain ⟨⟨⟨⟨⟨-, known⟩, -⟩, tape⟩, healthy⟩, -⟩ := unsolicited
        exact State.overridden_legal (s := { s with pins := { s.pins with tally := t } }) h ready tape healthy known
      · exact h

theorem State.loseTape_brief (s : State) : s.loseTape.brief = { s.brief with pending := none } := by
  unfold State.loseTape
  split
  · split
    · rw [State.endPending_brief, State.writeSense_brief]
    · rw [State.endPending_brief, State.writeSense_brief]
    · rw [State.endPending_brief]
    · rw [State.endPending_brief]
  · rename_i none
    simp [State.brief, none]

/-- The deck as the tape goes, before the operation, the chase and the segment end with it (R89). -/
def State.untaped (s : State) : State :=
  let s1 := ({ s with pins := { s.pins with threaded := false } } : State).losePosition
  let s2 := (s1.setTransport .unthreaded).setRequest (if s.dhd.config.isSome then .stop else .noMode)
  { s2 with tsq := { s2.tsq with faultCount := 0, recovery := .idle } }

theorem State.unthread_eq {s : State} (threaded : s.pins.threaded = true) (fitted : s.dhd.transportFitted = true) :
    s.unthread = (s.untaped.loseTape.chaseOff.emergencyOut .noTape false).settle := by
  unfold State.unthread
  rw [if_pos threaded]
  exact if_pos fitted

theorem State.unthread_legal {s : State} (h : s.brief.Legal) (fitted : s.dhd.transportFitted = true) : s.unthread.brief.Legal := by
  by_cases threaded : s.pins.threaded = true
  · rw [State.unthread_eq threaded fitted]
    refine State.settle_legal ?_
    have gone : s.untaped.loseTape.chaseOff.brief = { s.brief with
        threaded := false, state := .unthreaded, reqMode := if s.brief.configured then .stop else .noMode, matched := false,
        waits := false, recovery := .idle, pending := none, chase := .off } := by
      rw [State.chaseOff_brief, State.loseTape_brief]
      rfl
    obtain ⟨g, idle, same, eq⟩ := State.emergencyOut_brief .noTape s.untaped.loseTape.chaseOff (by
      rw [gone]
      exact h.holds)
    rw [gone] at same
    rw [eq, gone]
    have dormant := h.dormant
    refine ⟨?_, nofun, nofun⟩
    constructor <;> grind [TransportState.allows, Deck.pendingFits]
  · have same : s.unthread = s := if_neg threaded
    exact same.symm ▸ h

/-- What fits one state of neither a cue nor an eject fits another. -/
theorem Deck.pendingFits_other {p : Option OpKind} {t u : TransportState} (h : Deck.pendingFits p t = true) (ht : t ≠ .cueing)
    (hx : t ≠ .ejecting) (hu : u ≠ .cueing) (hy : u ≠ .ejecting) : Deck.pendingFits p u = true := by
  cases p with
  | none => simpa [Deck.pendingFits] using hu
  | some k => cases k <;> simp_all [Deck.pendingFits]

theorem State.thread_legal {s : State} (h : s.brief.Legal) (fitted : s.dhd.transportFitted = true) : s.thread.brief.Legal := by
  unfold State.thread
  split
  · exact h
  · rename_i absent
    have gone : s.brief.state = .unthreaded := h.threads.mpr (Bool.eq_false_iff.mpr absent)
    have fits : Deck.pendingFits s.brief.pending .stopped = true := Deck.pendingFits_other h.pends (by simp [gone]) (by simp [gone]) nofun nofun
    have core : ({ s.brief with threaded := true, state := .stopped } : Deck).Core := by
      obtain ⟨⟨h1, h2, h3, h4, h5, h6, h7, h8, h9, h10, h11⟩, h12, h13⟩ := h
      constructor <;> grind [TransportState.allows, Deck.pendingFits]
    dsimp only
    rw [if_pos fitted]
    split
    · rename_i ready
      exact State.settle_legal ((State.startWait_brief (({ s with pins := { s.pins with threaded := true } } : State).setTransport
        .stopped)).legal core h.unmatched nofun ready)
    · exact ⟨core, h.unmatched, fun waits => absurd gone (h.awaited waits).1⟩

/-- The deck as CONFIGURE is accepted, before the transport's own part of it. -/
theorem State.configureTransport_legal {s : State} (h : s.brief.Legal) (fresh : s.brief.configured = false) (c : Settings)
    (fitted : s.dhd.transportFitted = true) : (s.setConfig c).configureTransport.brief.Legal := by
  obtain ⟨r1, r2, r3, r4, r5, r6, r7⟩ := h.dormant fresh
  have unwaiting : s.brief.waits = false := by
    by_contra waits
    exact absurd (fresh.symm.trans (h.awaited (by simpa using waits)).2) (by simp)
  have configured : (s.setConfig c).brief = { s.brief with configured := true } := rfl
  unfold State.configureTransport
  rw [if_pos (show (s.setConfig c).dhd.transportFitted = true from fitted)]
  obtain ⟨⟨h1, h2, h3, h4, h5, h6, h7, h8, h9, h10, h11⟩, h12, h13⟩ := h
  split
  · rename_i threaded
    have threaded : s.brief.threaded = true := threaded
    refine State.drive_legal ?_ ?_ nofun rfl
    · rw [State.setTransport_brief, configured]
      constructor <;> grind [TransportState.allows, Deck.pendingFits]
    · rw [State.setTransport_brief, configured]
      exact h12
  · rename_i absent
    have absent : s.brief.threaded = false := Bool.eq_false_iff.mpr absent
    rw [State.setRequest_brief, configured]
    refine ⟨?_, nofun, nofun⟩
    constructor <;> grind [TransportState.allows, Deck.pendingFits]

end Sys2Proof.Machine
end

section
/-! SUPPORT. The chase, the segment and the cue list keep transport, chase and segment in agreement (R100 to R150). -/

namespace Sys2Proof.Machine

/-! ### The chase's requests (R82, R100) -/

/-- A chase with no segment to record: STILL and VAR may be asked of the transport (R82, R83). -/
structure Deck.Pursuit (d : Deck) : Prop where
  still : ({ d with reqMode := .still } : Deck).Core
  var : ({ d with reqMode := .var } : Deck).Core
  waits : d.waits = true → d.matched = false
  chasing : d.state = .chasing

theorem Deck.Legal.chasing {d : Deck} (h : d.Legal) (active : d.chase ≠ .off) : d.state = .chasing := h.chases.mp active

theorem Deck.Pursuit.ready {d : Deck} (h : d.Pursuit) : d.configured = true := by
  by_contra none
  obtain ⟨-, -, -, -, off, -⟩ := h.still.dormant (by simpa using none)
  exact h.still.chases.mpr h.chasing off

theorem Deck.Pursuit.idle {d : Deck} (h : d.Pursuit) : d.seg ≠ .recording := fun recording =>
  nomatch h.still.records.mpr recording

/-- A chase that is not recording may ask for STILL or VAR from any of its states. -/
theorem Deck.Legal.pursuit {d : Deck} (h : d.Legal) (active : d.chase ≠ .off) {c : ChaseState} (on : c ≠ .off) {g : SegState}
    (idle : g ≠ .recording) : ({ d with chase := c, seg := g, segHeld := false } : Deck).Pursuit := by
  have chasing := h.chasing active
  obtain ⟨⟨h1, h2, h3, h4, h5, h6, h7, h8, h9, h10, h11⟩, h12, h13⟩ := h
  refine ⟨?_, ?_, h12, chasing⟩
  all_goals constructor <;> grind [TransportState.allows]

theorem State.chaseRequest_legal {s : State} (r : ChaseReq) (h : s.brief.Pursuit) : (s.chaseRequest r).brief.Legal := by
  have tape : s.brief.state ≠ .unthreaded := by simp [h.chasing]
  have driven := State.driveStanding_brief ({ s with tsq := { s.tsq with standing := r } })
  unfold State.chaseRequest
  dsimp only
  split
  · exact absurd ‹_› h.idle
  · exact absurd ‹_› h.idle
  · obtain still | var := driven
    · exact still.legal h.still h.waits tape h.ready
    · exact var.legal h.var h.waits tape h.ready

/-- While a segment is RECORDING the chase's request changes the speed alone, or the standing request (R82). -/
theorem State.chaseRequest_recording {s : State} (r : ChaseReq) (recording : s.brief.seg = .recording) :
    (s.chaseRequest r).brief = s.brief := by
  have recording : s.rcc.state = .recording := recording
  cases r <;> simp only [State.chaseRequest, recording] <;> rfl

theorem State.followApproach_legal {s : State} {e : Int} (h : s.brief.Pursuit) : (s.followApproach e).brief.Legal := by
  unfold State.followApproach
  split
  · rename_i stands
    have same : ({ s.brief with reqMode := .still } : Deck) = s.brief := by rw [← stands.1]; rfl
    exact ⟨same ▸ h.still, h.waits, fun _ => ⟨by simp [h.chasing], h.ready⟩⟩
  · split
    · exact State.chaseRequest_legal _ h
    · exact State.chaseRequest_legal _ h

/-- A chase that keeps the agreement is not recording, or is LOCKED (R101, R147). -/
theorem Deck.Core.idle_of_unlocked {d : Deck} (h : d.Core) (active : d.chase ≠ .off) (unlocked : d.chase ≠ .locked) :
    d.seg ≠ .recording ∧ d.segHeld = false := by
  have idle : d.seg ≠ .recording := fun recording => unlocked (h.locks (h.chases.mp active) (h.records.mpr recording))
  exact ⟨idle, Bool.eq_false_iff.mpr fun held => idle (h.holds.mpr held)⟩

theorem Deck.Legal.pursuit_of_unlocked {d : Deck} (h : d.Legal) (active : d.chase ≠ .off) (unlocked : d.chase ≠ .locked)
    {c : ChaseState} (on : c ≠ .off) : ({ d with chase := c } : Deck).Pursuit := by
  obtain ⟨idle, held⟩ := h.toCore.idle_of_unlocked active unlocked
  have pursuit := h.pursuit active on idle
  rw [← held] at pursuit
  exact pursuit

theorem Deck.Legal.pursuit_of_idle {d : Deck} (h : d.Legal) (active : d.chase ≠ .off) (idle : d.seg ≠ .recording) : d.Pursuit := by
  have held : d.segHeld = false := Bool.eq_false_iff.mpr fun held => idle (h.holds.mpr held)
  have pursuit := h.pursuit active active idle
  rw [← held] at pursuit
  exact pursuit

/-- The law of the state the chase is in keeps the agreement (R113, R114, R117). -/
theorem State.chaseLaw_legal {s : State} {r : ChaseRecord} {m e : Int} (h : s.brief.Legal) : (s.chaseLaw r m e).brief.Legal := by
  have request (q : ChaseReq) (active : s.brief.chase ≠ .off) : (s.chaseRequest q).brief.Legal := by
    by_cases recording : s.brief.seg = .recording
    · rw [State.chaseRequest_recording q recording]
      exact h
    · exact State.chaseRequest_legal q (h.pursuit_of_idle active recording)
  unfold State.chaseLaw
  split
  · rename_i state
    exact request _ (by simp [State.brief, state])
  · rename_i state
    exact request _ (by simp [State.brief, state])
  · rename_i state
    exact request _ (by simp [State.brief, state])
  · rename_i state
    have state : s.brief.chase = .followStill := state
    have pursuit := h.pursuit_of_unlocked (by simp [state]) (by simp [state]) (c := s.brief.chase) (by simp [state])
    unfold State.followLaw
    split
    · exact State.followApproach_legal pursuit
    · split
      · exact State.followApproach_legal (s := s.setFollow .approaching) pursuit
      · exact h
  all_goals exact h

/-- A chase entering a state other than the one it stands still in makes its request at once (R112). -/
theorem State.enterLaw_legal {s : State} {r : ChaseRecord} {m e : Int} {n : ChaseState}
    (entered : ({ s.brief with chase := n } : Deck).Pursuit) (follows : n.follows = true)
    (approaches : n = .followStill → s.csv.state ≠ .followStill) :
    (({ s with csv := s.csv.enter n } : State).chaseLaw r m e).brief.Legal := by
  have state : (s.csv.enter n).state = n := by
    cases n <;> simp only [Csv.enter]
    split <;> simp_all
  have pursuit : ({ s with csv := s.csv.enter n } : State).brief.Pursuit := by
    have same : ({ s with csv := s.csv.enter n } : State).brief = { s.brief with chase := n } := by
      simp [State.brief, state, Csv.enter_record]
    exact same ▸ entered
  unfold State.chaseLaw
  dsimp only
  rw [state]
  cases n with
  | seeking | pulling | locked => exact State.chaseRequest_legal _ pursuit
  | followStill =>
    have step : (s.csv.enter .followStill).followStep = .approaching := if_neg (approaches rfl)
    show (State.followLaw e { s with csv := s.csv.enter .followStill }).brief.Legal
    unfold State.followLaw
    dsimp only
    rw [step]
    exact State.followApproach_legal pursuit
  | off | waiting | reroll | failed => cases follows

/-! ### Leaving LOCKED and the ends of a segment (R146 to R150) -/

/-- Leaving LOCKED ends the segment that a chase records, and leaves the request. -/
theorem State.leaveLock_brief {s : State} (h : s.brief.Legal) (active : s.brief.chase ≠ .off) :
    ∃ g, g ≠ .recording ∧ s.leaveLock.brief = { s.brief with seg := g, segHeld := false } := by
  unfold State.leaveLock
  split
  · obtain ⟨g, idle, -, eq⟩ := State.emergencyOut_brief .lockLost (s.latch .lockLost) h.holds
    exact ⟨g, idle, eq⟩
  · rename_i unlocked
    obtain ⟨idle, held⟩ := h.toCore.idle_of_unlocked active unlocked
    exact ⟨s.brief.seg, idle, by rw [← held]⟩

/-- The ending mode of a segment and its gap: the request is the transport's own again (R146, R150). -/
theorem State.ending_legal {s : State} {c : ChaseState} (h : ({ s.brief with chase := c } : Deck).Legal)
    (same : c = .off ↔ s.brief.chase = .off) (recording : s.brief.seg = .recording) {g : SegState} (idle : g ≠ .recording) :
    ({ s.driveEndingMode.brief with seg := g, segHeld := false } : Deck).Legal := by
  have record : s.brief.reqMode = .record := h.records.mpr recording
  have ready : s.brief.configured = true := by
    by_contra none
    have rests : s.brief.reqMode = .noMode := (h.dormant (Bool.eq_false_iff.mpr none)).1
    exact nomatch record.symm.trans rests
  have allowed := h.allows
  dsimp only at allowed
  rw [record] at allowed
  obtain ⟨⟨h1, h2, h3, h4, h5, h6, h7, h8, h9, h10, h11⟩, h12, h13⟩ := h
  dsimp only at h1 h2 h3 h4 h5 h6 h7 h8 h9 h10 h11 h12 h13
  have apart {d : Deck} (k : d.chase = s.brief.chase) (legal : (d.apart s.brief.chase g false).Legal) :
      ({ d with seg := g, segHeld := false } : Deck).Legal := by
    rw [← k] at legal
    exact legal
  unfold State.driveEndingMode
  split
  · rename_i state
    have state : s.brief.state = .recording := state
    have driven := State.drive_brief .play 0 0 (s.setTransport .playing)
    refine apart driven.keeps.1 ((driven.apart _ g false).legal ?_ h12 nofun ready)
    rw [State.setTransport_brief]
    have fits : Deck.pendingFits s.brief.pending .playing = true :=
      Deck.pendingFits_other h6 (by simp [state]) (by simp [state]) nofun nofun
    unfold Deck.apart
    constructor <;> grind [TransportState.allows]
  · rename_i state
    have state : s.brief.state = .chasing := state
    have core {m : ReqMode} (mode : m = .still ∨ m = .var) : ({ s.brief.apart s.brief.chase g false with reqMode := m } : Deck).Core := by
      unfold Deck.apart
      constructor <;> grind [TransportState.allows]
    obtain driven | driven := s.driveStanding_brief
    · exact apart driven.keeps.1 ((driven.apart _ g false).legal (core (.inl rfl)) h12 (by simp [Deck.apart, state]) ready)
    · exact apart driven.keeps.1 ((driven.apart _ g false).legal (core (.inr rfl)) h12 (by simp [Deck.apart, state]) ready)
  · rename_i notRecording notChasing
    cases state : s.brief.state <;> simp_all [TransportState.allows, State.brief]

theorem State.endNormally_legal {s : State} (x : Segment) (h : s.brief.Legal) (recording : s.brief.seg = .recording) :
    (s.endNormally x).brief.Legal := by
  unfold State.endNormally
  obtain ⟨g, idle, eq⟩ := State.enterGap_brief (s.driveEndingMode.segmentNotice x .done)
  rw [eq, State.segmentNotice_brief]
  exact State.ending_legal (c := s.brief.chase) h Iff.rfl recording idle

theorem State.abortSegmentAt_legal {s : State} {c : ChaseState} (x : Segment) (reason : Code)
    (h : ({ s.brief with chase := c } : Deck).Legal) (same : c = .off ↔ s.brief.chase = .off)
    (recording : s.brief.seg = .recording) : (s.abortSegmentAt x reason true).brief.Legal := by
  unfold State.abortSegmentAt
  obtain ⟨g, idle, eq⟩ := State.enterGap_brief (((s.driveEndingMode.writeSense (x.senseRecord s.dayFrames reason)).latch
    .segmentAborted).segmentNotice x reason)
  refine (congrArg Deck.Legal (eq.trans ?_)).mpr (State.ending_legal h same recording idle)
  rw [State.segmentNotice_brief]
  rfl

theorem State.emergencyOut_legal {s : State} (reason : Code) (h : s.brief.Legal) : (s.emergencyOut reason true).brief.Legal := by
  unfold State.emergencyOut
  split
  · exact State.abortSegmentAt_legal (c := s.brief.chase) _ reason h Iff.rfl ‹_›
  · exact h

theorem State.abortSegment_legal {s : State} (h : s.brief.Legal) : s.abortSegment.brief.Legal :=
  State.settle_legal (State.emergencyOut_legal _ h)

end Sys2Proof.Machine
end

section
/-! SUPPORT. The servo's step, engagements, the segment's step and the cue list keep transport, chase and segment in agreement. -/

namespace Sys2Proof.Machine

/-! ### The servo's step (R110 to R118) -/

theorem chooseState_follows (before : ChaseState) (moving : Bool) (e t : Nat) : (chooseState before moving e t).follows = true := by
  cases moving <;> cases before <;> simp only [chooseState] <;> repeat' split
  all_goals rfl

theorem chooseState_locked {before : ChaseState} {moving : Bool} {e t : Nat} (h : chooseState before moving e t = .locked) :
    before = .locked := by
  cases moving <;> cases before <;> simp only [chooseState] at h <;> repeat' split at h
  all_goals first
    | rfl
    | cases h

theorem State.chaseServo_legal {s : State} {std : Standard} {r : ChaseRecord} {m e : Int} (h : s.brief.Legal)
    (active : s.brief.chase ≠ .off) : (s.chaseServo std r m e).brief.Legal := by
  unfold State.chaseServo
  dsimp only
  generalize hn : chooseState s.csv.state (masterMoving m) e.natAbs std.seekThreshold = n
  have follows : n.follows = true := hn ▸ chooseState_follows ..
  split
  · rename_i locked
    have was : s.csv.state = .locked := chooseState_locked (hn.trans locked)
    subst locked
    have same : ({ s with csv := s.csv.enter .locked } : State).brief = s.brief := by simp [State.brief, Csv.enter, was]
    exact State.chaseLaw_legal (same ▸ h)
  · obtain ⟨g, idle, eq⟩ := State.leaveLock_brief h active
    by_cases still : n = .followStill ∧ s.csv.state = .followStill
    · obtain ⟨rfl, was⟩ := still
      have left : s.leaveLock = s := if_neg (by simp [was])
      rw [left]
      have same : ({ s with csv := s.csv.enter .followStill } : State).brief = s.brief := by simp [State.brief, Csv.enter, was]
      exact State.chaseLaw_legal (same ▸ h)
    · refine State.enterLaw_legal ?_ follows fun k was => still ⟨k, s.leaveLock_undriven.2 ▸ was⟩
      rw [eq]
      exact h.pursuit active (ChaseState.active_of_follows follows) idle

/-- An engagement chooses its state from WAITING (R104). -/
theorem State.chaseServo_begun {s : State} {std : Standard} {r : ChaseRecord} {m e : Int} (h : s.brief.Pursuit)
    (waiting : s.csv.state = .waiting) : (s.chaseServo std r m e).brief.Legal := by
  have left : s.leaveLock = s := if_neg (by simp [waiting])
  unfold State.chaseServo
  dsimp only
  rw [left, ite_self]
  generalize hn : chooseState s.csv.state (masterMoving m) e.natAbs std.seekThreshold = n
  have follows : n.follows = true := hn ▸ chooseState_follows ..
  refine State.enterLaw_legal ?_ follows fun _ => by simp [waiting]
  have idle := h.idle
  have active := ChaseState.active_of_follows follows
  have unlocked : n ≠ .locked := fun locked => by
    have was := chooseState_locked (hn.trans locked)
    simp [waiting] at was
  obtain ⟨⟨h1, h2, h3, h4, h5, h6, h7, h8, h9, h10, h11⟩, ⟨k1, k2, k3, k4, k5, k6, k7, k8, k9, k10, k11⟩, h12, h13⟩ := h
  have waiting : s.brief.chase = .waiting := waiting
  refine ⟨?_, ?_, h12, h13⟩
  all_goals constructor <;> grind

theorem State.declareLock_legal {s : State} (h : s.brief.Legal) (pulling : s.brief.chase = .pulling) :
    s.declareLock.brief.Legal := by
  show ({ s.brief with chase := .locked } : Deck).Legal
  obtain ⟨⟨h1, h2, h3, h4, h5, h6, h7, h8, h9, h10, h11⟩, h12, h13⟩ := h
  refine ⟨?_, h12, h13⟩
  constructor <;> grind

theorem State.stopPulling_legal {s : State} {r : ChaseRecord} (h : s.brief.Legal) (pulling : s.brief.chase = .pulling) :
    (s.stopPulling r).brief.Legal := by
  have pursuit {c : ChaseState} (on : c ≠ .off) : ({ s.brief with chase := c } : Deck).Pursuit :=
    h.pursuit_of_unlocked (by simp [pulling]) (by simp [pulling]) on
  unfold State.stopPulling
  split
  · exact State.chaseRequest_legal (s := { s with csv := _ }) _ (pursuit (c := .reroll) nofun)
  · exact State.chaseRequest_legal (s := { s with csv := { s.csv with state := .failed, pullTimer := 0, lockRun := 0 } }) _
      (pursuit nofun)

theorem State.loseLock_legal {s : State} (h : s.brief.Legal) (locked : s.brief.chase = .locked) : s.loseLock.brief.Legal := by
  unfold State.loseLock State.emergencyOut
  have was : ({ s.brief with chase := .locked } : Deck).Legal := by
    rw [← locked]
    exact h
  split
  · rename_i recording _
    exact State.abortSegmentAt_legal (c := .locked) _ _ was (by simp [State.brief]) recording
  · rename_i none
    have idle : s.brief.seg ≠ .recording := fun recording => by
      obtain ⟨x, held⟩ := Option.isSome_iff_exists.mp (h.holds.mp recording)
      exact none x recording held
    show ({ s.brief with chase := .pulling } : Deck).Legal
    obtain ⟨⟨h1, h2, h3, h4, h5, h6, h7, h8, h9, h10, h11⟩, h12, h13⟩ := h
    refine ⟨?_, h12, h13⟩
    constructor <;> grind

/-- The counts after the law keep the agreement (R115, R116, R118). -/
theorem State.chaseCounts_legal {s : State} {r : ChaseRecord} {e : Int} (h : s.brief.Legal) : (s.chaseCounts r e).brief.Legal := by
  unfold State.chaseCounts
  split
  · rename_i pulling
    have pull (c : Csv) (hc : c.state = s.csv.state) (hr : c.record = s.csv.record) :
        (({ s with csv := c } : State).pullStep r).brief.Legal := by
      have same : ({ s with csv := c } : State).brief = s.brief := by simp [State.brief, hc, hr]
      unfold State.pullStep
      split
      · exact State.stopPulling_legal (same ▸ h) (hc.trans pulling)
      · exact same ▸ h
    unfold State.lockStep
    split
    · exact pull _ rfl rfl
    · split
      · exact State.declareLock_legal h pulling
      · exact pull _ rfl rfl
  · rename_i locked
    unfold State.blankStep
    split
    · split
      · exact State.loseLock_legal h locked
      · exact h
    · exact h
  all_goals exact h

theorem State.chaseWaits_legal {s : State} (h : s.brief.Legal) (active : s.brief.chase ≠ .off) : s.chaseWaits.brief.Legal := by
  obtain ⟨g, idle, eq⟩ := State.leaveLock_brief h active
  unfold State.chaseWaits
  refine State.chaseRequest_legal (s := { s.leaveLock with csv := _ }) _ ?_
  show ({ s.leaveLock.brief with chase := .waiting } : Deck).Pursuit
  rw [eq]
  exact h.pursuit active (c := .waiting) nofun idle

theorem State.endReroll_legal {s : State} {r : ChaseRecord} {m e : Int} (h : s.brief.Legal) (reroll : s.brief.chase = .reroll) :
    (s.endReroll r m e).brief.Legal := by
  unfold State.endReroll State.chaseLaw
  dsimp only
  exact State.chaseRequest_legal (s := { s with csv := { s.csv with offTime := 0, state := .seeking } }) _
    (h.pursuit_of_unlocked (by simp [reroll]) (by simp [reroll]) nofun)

theorem State.chaseStep_legal {s : State} {std : Standard} {r : ChaseRecord} {m e : Int} (h : s.brief.Legal)
    (active : s.brief.chase ≠ .off) : (s.chaseStep std r m e).brief.Legal := by
  unfold State.chaseStep
  split
  · rename_i reroll
    split
    · exact State.endReroll_legal h reroll
    · exact h
  · exact State.chaseCounts_legal (State.chaseServo_legal h active)

theorem State.chaseFieldStart_legal {s : State} (h : s.brief.Legal) : s.chaseFieldStart.brief.Legal := by
  unfold State.chaseFieldStart
  split
  · exact h
  · exact h
  · exact h
  · rename_i r hr off _
    split
    · exact State.settle_legal (State.chaseWaits_legal h off)
    · exact State.settle_legal (State.chaseStep_legal (s := s.setTarget _) h off)

/-! ### Engaging and releasing (R104 to R107) -/

/-- The chase as an engagement begins it may ask for its first mode. -/
theorem State.chaseBegun_pursuit {s : State} {r : ChaseRecord} {o : Origin} (h : s.brief.Legal) (ready : s.brief.configured = true)
    (free : s.brief.chase = .off → s.brief.state ≠ .unthreaded ∧ s.brief.state ≠ .recording ∧ s.brief.state ≠ .ejecting ∧
      s.brief.state ≠ .faulted) : (s.chaseBegun r o).brief.Pursuit := by
  unfold State.chaseBegun
  dsimp only
  split
  · rename_i off
    have off : s.brief.chase = .off := off
    obtain ⟨tape, alone, eject, healthy⟩ := free off
    show ({ s.engageTransport.brief with chase := .waiting, stored := true } : Deck).Pursuit
    have engaged : s.engageTransport.brief = { s.brief with pending := none, state := .chasing } := by
      unfold State.engageTransport
      rw [State.setTransport_brief, State.endPending_brief]
    rw [engaged]
    have plays : s.brief.reqMode ≠ .record := fun record => by
      have allows := h.allows
      rw [record] at allows
      cases state : s.brief.state <;> simp_all [TransportState.allows]
      exact h.chases.mpr state off
    obtain ⟨⟨h1, h2, h3, h4, h5, h6, h7, h8, h9, h10, h11⟩, h12, h13⟩ := h
    refine ⟨?_, ?_, h12, rfl⟩
    all_goals constructor <;> grind [TransportState.allows, Deck.pendingFits]
  · rename_i active
    obtain ⟨g, idle, eq⟩ := State.leaveLock_brief h active
    show ({ s.leaveLock.brief with chase := .waiting, stored := true } : Deck).Pursuit
    rw [eq, ← h.stores active]
    exact h.pursuit active (c := .waiting) nofun idle

theorem State.startChase_legal {s : State} {r : ChaseRecord} {o : Origin} (h : s.brief.Legal) (ready : s.brief.configured = true)
    (free : s.brief.chase = .off → s.brief.state ≠ .unthreaded ∧ s.brief.state ≠ .recording ∧ s.brief.state ≠ .ejecting ∧
      s.brief.state ≠ .faulted) : (s.startChase r o).brief.Legal := by
  rw [State.startChase_eq]
  have begun := State.chaseBegun_pursuit (r := r) (o := o) h ready free
  split
  · exact State.settle_legal (State.chaseRequest_legal _ begun)
  · exact State.settle_legal (State.chaseServo_begun (s := (s.chaseBegun r o).setTarget _) begun rfl)

theorem State.enableChase_legal {s : State} {r : ChaseRecord} (h : s.brief.Legal) (ready : s.brief.configured = true) :
    (s.enableChase r).1.brief.Legal := by
  unfold State.enableChase
  split
  · exact h
  split
  · exact h
  split
  · exact h
  split
  · exact h
  split
  · exact h
  · rename_i tape _ alone healthy
    exact State.startChase_legal h ready fun off => ⟨tape, fun recording => alone ⟨off, recording⟩,
      fun eject => healthy ⟨off, .inl eject⟩, fun faulted => healthy ⟨off, .inr faulted⟩⟩

theorem State.engageStored_legal {s : State} {o : Origin} (h : s.brief.Legal) (ready : s.brief.configured = true) :
    (s.engageStored o).1.brief.Legal := by
  unfold State.engageStored
  split
  · exact h
  split
  · exact h
  split
  · exact h
  split
  · exact h
  split
  · exact h
  split
  · exact h
  · rename_i tape _ alone healthy
    exact State.startChase_legal h ready fun _ => ⟨tape, alone, fun eject => healthy (.inl eject), fun faulted => healthy (.inr faulted)⟩

theorem State.storeChase_legal {s : State} {r : ChaseRecord} (h : s.brief.Legal) : (s.storeChase r).1.brief.Legal := by
  unfold State.storeChase
  split
  · exact h
  · split
    · exact h
    · show ({ s.brief with stored := true } : Deck).Legal
      obtain ⟨⟨h1, h2, h3, h4, h5, h6, h7, h8, h9, h10, h11⟩, h12, h13⟩ := h
      exact ⟨⟨h1, h2, h3, fun _ => rfl, h5, h6, h7, h8, h9, h10, h11⟩, h12, h13⟩

theorem State.disableChase_legal {s : State} (h : s.brief.Legal) : s.disableChase.brief.Legal := by
  unfold State.disableChase
  split
  · exact h
  · rename_i active
    have active : s.brief.chase ≠ .off := active
    refine State.settle_legal ?_
    have ready : s.brief.configured = true := (h.pursuit active active (g := .idle) nofun).ready
    obtain ⟨g, idle, -, eq⟩ := State.emergencyOut_brief .lockLost s h.holds
    have chasing := h.chasing active
    have brief : (((s.emergencyOut .lockLost false).chaseOff).setTransport .still).brief =
        { s.brief with seg := g, segHeld := false, chase := .off, state := .still } := by
      rw [State.setTransport_brief, State.chaseOff_brief, eq]
    refine State.drive_legal ?_ ?_ nofun ?_
    · rw [brief]
      have fits : Deck.pendingFits s.brief.pending .still = true :=
        Deck.pendingFits_other h.pends (by simp [chasing]) (by simp [chasing]) nofun nofun
      obtain ⟨⟨h1, h2, h3, h4, h5, h6, h7, h8, h9, h10, h11⟩, h12, h13⟩ := h
      constructor <;> grind [TransportState.allows]
    · rw [brief]
      exact h.unmatched
    · rw [brief]
      exact ready

end Sys2Proof.Machine
end

section
/-! SUPPORT. The segment, the cue list and a field start keep transport, chase and segment in agreement. -/

namespace Sys2Proof.Machine

/-! ### The segment (R141 to R150) -/

theorem State.requestRecord_legal {s : State} {k : BitVec 5} (h : s.brief.Legal) (ready : s.brief.configured = true)
    (from_ : s.brief.state = .playing ∨ (s.brief.state = .chasing ∧ s.brief.chase = .locked)) (x : Segment) (fresh : Bool) :
    (({ s with rcc := { s.rcc with state := .recording, record := some x, fresh := fresh } } : State).requestRecord k).brief.Legal := by
  obtain ⟨⟨h1, h2, h3, h4, h5, h6, h7, h8, h9, h10, h11⟩, h12, h13⟩ := h
  unfold State.requestRecord
  dsimp only
  split
  · rename_i chasing
    have chasing : s.brief.state = .chasing := chasing
    refine State.drive_legal ?_ h12 (fun gone => nomatch chasing.symm.trans gone) ready
    show ({ s.brief with seg := .recording, segHeld := true, pending := none, reqMode := .record } : Deck).Core
    constructor <;> grind [TransportState.allows, Deck.pendingFits]
  · rename_i other
    have playing : s.brief.state = .playing := from_.resolve_right fun chasing => other chasing.1
    refine State.drive_legal ?_ h12 nofun ready
    show ({ s.brief with seg := .recording, segHeld := true, pending := none, state := .recording, reqMode := .record } : Deck).Core
    constructor <;> grind [TransportState.allows, Deck.pendingFits]

theorem State.recordIn_legal {s : State} {i : Nat} {k : BitVec 5} {d : Option Nat} {g : Guard} {l : List Nat} {n : Option Nat}
    (h : s.brief.Legal) (ready : s.brief.configured = true) : (s.recordIn i k d g l n).1.brief.Legal := by
  unfold State.recordIn
  split
  · exact h
  · rename_i accepted
    obtain ⟨-, -, from_, -⟩ := State.recordRefusal_none accepted
    exact State.settle_legal (State.requestRecord_legal h ready from_ _ _)

theorem State.recordOut_legal {s : State} (h : s.brief.Legal) : s.recordOut.1.brief.Legal := by
  unfold State.recordOut
  split
  · exact State.settle_legal (State.endNormally_legal _ h ‹_›)
  · exact h

theorem State.segmentStep_legal {s : State} {x : Segment} (h : s.brief.Legal) (recording : s.rcc.state = .recording)
    (held : s.rcc.record = some x) : (s.segmentStep x).brief.Legal := by
  unfold State.segmentStep
  dsimp only
  split
  · exact State.settle_legal (State.abortSegmentAt_legal (c := s.brief.chase) _ _ h Iff.rfl recording)
  · split
    · exact State.settle_legal (State.endNormally_legal _ h recording)
    · split
      · exact State.settle_legal (State.abortSegmentAt_legal (c := s.brief.chase) _ _ h Iff.rfl recording)
      · have same : ({ s with rcc := { s.rcc with record := some (s.atOwnFrame x) } } : State).brief = s.brief := by
          simp [State.brief, held]
        exact same ▸ h

/-- A gap goes on or is over. -/
theorem Deck.Legal.afterGap {d : Deck} (h : d.Legal) (gap : d.seg = .gap) : ({ d with seg := .idle } : Deck).Legal := by
  obtain ⟨⟨h1, h2, h3, h4, h5, h6, h7, h8, h9, h10, h11⟩, h12, h13⟩ := h
  refine ⟨?_, h12, h13⟩
  constructor <;> grind

theorem State.recordFieldStart_legal {s : State} (h : s.brief.Legal) : s.recordFieldStart.brief.Legal := by
  unfold State.recordFieldStart
  split
  · exact h
  · split
    · exact State.segmentStep_legal h ‹_› ‹_›
    · split
      · exact h.afterGap ‹_›
      · exact h
    · exact h

/-! ### The cue list (R123 to R136) -/

/-- At a configured station the cue list and the roll are nothing to the agreement. -/
theorem Deck.Legal.lists {d : Deck} (h : d.Legal) (ready : d.configured = true) (x : Bool) : ({ d with listed := x } : Deck).Legal := by
  obtain ⟨⟨h1, h2, h3, h4, h5, h6, h7, h8, h9, h10, h11⟩, h12, h13⟩ := h
  exact ⟨⟨h1, h2, h3, h4, h5, h6, h7, h8, h9, h10, fun none => absurd (ready.symm.trans none) (by simp)⟩, h12, h13⟩

theorem State.setCues_legal {s : State} (l : List Cue) (h : s.brief.Legal) (ready : s.brief.configured = true) :
    (s.setCues l).brief.Legal := h.lists ready _

theorem State.setRoll_legal {s : State} (r : Option RollSlot) (h : s.brief.Legal) (ready : s.brief.configured = true) :
    (s.setRoll r).brief.Legal := h.lists ready _

theorem State.loadCue_legal {s : State} {c : Cue} (h : s.brief.Legal) (ready : s.brief.configured = true) :
    (s.loadCue c).1.brief.Legal := by
  unfold State.loadCue
  split
  · exact h
  split
  · exact h
  split
  · exact State.setCues_legal _ h ready
  split
  · exact h
  · exact State.setCues_legal _ h ready

theorem State.dropCue_legal {s : State} {i : Nat} (h : s.brief.Legal) (ready : s.brief.configured = true) :
    (s.dropCue i).1.brief.Legal := by
  unfold State.dropCue
  split
  · exact State.setCues_legal _ h ready
  split
  · exact State.setCues_legal _ h ready
  · exact h

theorem State.cueMotion_legal {s : State} {m : Motion} {t : TransportState} {r : ReqMode} {i : Nat} (h : s.brief.Legal)
    (ready : s.brief.configured = true) (allows : t.allows r = true) (mode : t = .still ∨ t = .playing ∨ t = .shuttling) :
    (s.cueMotion m t r i).1.brief.Legal := by
  unfold State.cueMotion
  split
  · exact h
  · exact h
  · rename_i take
    exact State.takeMode_legal h ready (State.free_of_take h take) allows mode

theorem State.takeTransition_brief (s : State) : s.takeTransition.1.brief = s.brief := by
  unfold State.takeTransition State.beginTransition
  repeat' split
  all_goals rfl

/-- Every action handed to its owner keeps the agreement (R130). -/
theorem State.handOver_legal {s : State} {c : Cue} (h : s.brief.Legal) (ready : s.brief.configured = true) :
    (s.handOver c).1.brief.Legal := by
  unfold State.handOver
  split
  · exact State.recordIn_legal h ready
  · exact State.recordOut_legal h
  · exact s.takeTransition_brief.symm ▸ h
  · exact State.transportStop_legal h ready
  · exact State.settle_legal (State.cueMotion_legal h ready rfl (.inl rfl))
  · exact State.settle_legal (State.cueMotion_legal h ready rfl (.inr (.inl rfl)))
  · exact State.engageStored_legal h ready
  · exact State.disableChase_legal h
  · exact h

theorem State.missCue_brief (c : Cue) (r : Code) (s : State) : (s.missCue c r).brief = s.brief :=
  (State.cueNotice_frame ..).brief

theorem State.fireCue_legal {s : State} {c : Cue} (h : s.brief.Legal) (ready : s.brief.configured = true) :
    (s.fireCue c).brief.Legal := by
  unfold State.fireCue
  split
  · exact s.missCue_brief .. ▸ h
  split
  · exact s.missCue_brief .. ▸ h
  · dsimp only
    split
    · rw [State.missCue_brief]
      exact State.handOver_legal h ready
    · rw [(State.cueNotice_frame ..).brief]
      exact State.handOver_legal h ready

theorem State.Course.ready {s t : State} (w : s.Course t) : t.brief.configured = s.brief.configured :=
  congrArg Option.isSome ((config_kept .plain nofun s.dhd.config).course w rfl)

theorem State.judgeCues_legal (l : List Cue) {s : State} (h : s.brief.Legal) (ready : s.brief.configured = true) :
    (State.judgeCues l s).1.brief.Legal := by
  induction l generalizing s with
  | nil => exact h
  | cons c l ih =>
    unfold State.judgeCues
    split
    · exact ih h ready
    · exact ih (State.fireCue_legal h ready) ((s.fireCue_course c).ready.trans ready)
    · exact ih (s.missCue_brief .. ▸ h) (by rw [State.missCue_brief]; exact ready)

theorem State.rollPlay_legal {s : State} {q : Byte} (h : s.brief.Legal) (ready : s.brief.configured = true) :
    (s.rollPlay q).1.brief.Legal := by
  unfold State.rollPlay
  split
  · exact h
  · rename_i still
    exact State.takeMode_legal h ready (.inr (.inl still)) rfl (.inr (.inl rfl))
  · rename_i stopped
    exact State.takeMode_legal h ready (.inl stopped) rfl (.inr (.inl rfl))
  · exact h

theorem State.carryRoll_legal {s : State} {r : RollSlot} (h : s.brief.Legal) (ready : s.brief.configured = true) :
    (s.carryRoll r).brief.Legal := by
  have carried : (if r.engage then s.engageStored (.directive 0x0B) else s.rollPlay r.seq).1.brief.Legal := by
    split
    · exact State.engageStored_legal h ready
    · exact State.rollPlay_legal h ready
  unfold State.carryRoll
  dsimp only
  split
  · exact carried
  · exact State.settle_legal carried

/-- A station with a cue or a roll is configured (R65). -/
theorem Deck.Core.ready_of_listed {d : Deck} (h : d.Core) (listed : d.listed = true) : d.configured = true := by
  by_contra none
  obtain ⟨-, -, -, -, -, -, unlisted⟩ := h.dormant (Bool.eq_false_iff.mpr none)
  exact nomatch listed.symm.trans unlisted

theorem State.rollDue_legal {s : State} (n : Count32) (h : s.brief.Legal) : (s.rollDue n).brief.Legal := by
  unfold State.rollDue
  split
  · rename_i r roll
    have ready := h.toCore.ready_of_listed (by simp [State.brief, roll])
    split
    · exact State.carryRoll_legal (State.setRoll_legal none h ready) ready
    · exact h
  · exact h

theorem State.setRollStart_legal {s : State} {n : Count32} {d : Nat} {e : Bool} {q : Byte} (h : s.brief.Legal)
    (ready : s.brief.configured = true) : (s.setRollStart n d e q).1.brief.Legal := by
  unfold State.setRollStart
  exact State.rollDue_legal _ (State.setRoll_legal _ h ready)

theorem State.cueFieldStart_legal {s : State} (h : s.brief.Legal) : s.cueFieldStart.brief.Legal := by
  unfold State.cueFieldStart
  dsimp only
  have quiet : ({ s with cul := { s.cul with pulses := 0 } } : State).brief.Legal := h
  have rolled := State.rollDue_legal s.ftu.counter quiet
  by_cases ready : s.brief.configured = true
  · have still : (({ s with cul := { s.cul with pulses := 0 } } : State).rollDue s.ftu.counter).brief.configured = true :=
      (State.rollDue_course _ _).ready.trans ready
    exact State.setCues_legal _ (State.judgeCues_legal _ rolled still) ((State.judgeCues_course _ _).ready.trans still)
  · obtain ⟨-, -, -, -, -, -, unlisted⟩ := h.dormant (Bool.eq_false_iff.mpr ready)
    obtain ⟨cues, roll⟩ : s.cul.cues = [] ∧ s.cul.roll = none := by simpa [State.brief] using unlisted
    have same : ({ s with cul := { s.cul with pulses := 0 } } : State).rollDue s.ftu.counter =
        { s with cul := { s.cul with pulses := 0 } } := by
      unfold State.rollDue
      dsimp only
      rw [roll]
    rw [same]
    dsimp only
    rw [cues]
    have brief : (({ s with cul := { s.cul with pulses := 0 } } : State).setCues []).brief = s.brief := by
      simp [State.brief, cues]
    exact brief ▸ h

/-! ### A field start (R42) -/

theorem State.transitionFieldStart_brief (s : State) : s.transitionFieldStart.brief = s.brief := by
  unfold State.transitionFieldStart
  repeat' split
  all_goals rfl

theorem State.recordCueTransition_legal {s : State} (h : s.brief.Legal) : s.recordCueTransition.brief.Legal := by
  unfold State.recordCueTransition
  extract_lets s1 s2 s3 s4
  have h1 : s1.brief.Legal := by
    unfold s1
    split
    · exact State.recordFieldStart_legal h
    · exact h
  have h2 : s2.brief.Legal := by
    unfold s2
    split
    · rw [State.transitionFieldStart_brief]
      exact h1
    · exact h1
  have h3 : s3.brief.Legal := State.cueFieldStart_legal h2
  have h4 : s4.brief.Legal := by
    unfold s4
    split
    · exact h3
    · exact State.recordFieldStart_legal h3
  split
  · exact h4
  · rw [State.transitionFieldStart_brief]
    exact h4

theorem State.LineShape.brief {s t : State} (w : s.LineShape t) : t.brief = s.brief := by
  obtain h | h := w
  · rw [h]
    rfl
  · rw [h]
    rfl

theorem State.announceField_brief (s : State) : s.announceField.brief = s.brief :=
  State.LineShape.brief (.inl (State.txAnnounce_shape _ _).1)

theorem State.fieldStart_legal {s : State} {p : Parity} {m : Nat} {x : FieldSource} {pins : FieldPins} (h : s.brief.Legal) :
    (s.fieldStart p m x pins).brief.Legal := by
  have aged : (s.markField p m x pins).measureSpeed.agePeers.ageTxq.brief.Legal := by
    rw [(State.ageTxq_shape _).1.brief]
    exact h
  exact (State.announceField_brief _).symm ▸ State.recordCueTransition_legal (State.chaseFieldStart_legal
    (State.transportFieldStart_legal aged))

end Sys2Proof.Machine
end

section
/-! SUPPORT. Every command keeps transport, chase and segment in agreement. -/

namespace Sys2Proof.Machine

/-! ### The line -/

theorem State.cutShort_brief (s : State) : s.cutShort.brief = s.brief := s.cutShort_frame.brief

theorem State.beginHead_brief (q : List TxMsg) (s : State) : (State.beginHead q s).brief = s.brief := by
  induction q generalizing s with
  | nil => rfl
  | cons m q ih =>
    unfold State.beginHead
    split
    · exact ih _
    · rfl

theorem State.becomeDuplicate_brief (lets : Bool) (s : State) : (s.becomeDuplicate lets).brief = s.brief := by
  unfold State.becomeDuplicate
  dsimp only
  by_cases met : s.lif.duplicate = true
  · rw [if_pos met]
    rfl
  · rw [if_neg met]
    rfl

theorem State.storeAnnouncement_brief (n : Nat) (p : Parity) (payload : List Byte) (s : State) :
    (s.storeAnnouncement n p payload).brief = s.brief := by
  obtain h | ⟨e, h⟩ := s.storeAnnouncement_eq n p payload
  · rw [h]
  · rw [h]
    unfold State.setPeer
    split <;> rfl

theorem State.localStop_legal {s : State} (h : s.brief.Legal) (fitted : s.dhd.transportFitted = true) : s.localStop.brief.Legal :=
  State.stopBlocks_legal (s := s.latch .allStop) h fitted

theorem State.emitStop_brief (s : State) : s.emitStop.brief = s.brief := s.cutShort_brief

theorem State.requestStop_legal {s : State} (h : s.brief.Legal) (fitted : s.dhd.transportFitted = true) :
    s.requestStop.brief.Legal := by
  unfold State.requestStop
  split
  · exact State.localStop_legal h fitted
  · exact s.emitStop_brief.symm ▸ h

theorem State.stopRun_legal {s : State} (h : s.brief.Legal) (fitted : s.dhd.transportFitted = true) : s.stopRun.brief.Legal := by
  have stops : s.lineStop.brief.Legal :=
    State.localStop_legal (s := { s.cutShort with lif := { s.cutShort.lif with watch := .stopSignal, idle := false } })
      (s.cutShort_brief.symm ▸ h) (s.cutShort_frame.transportFitted.trans fitted)
  unfold State.stopRun
  split
  · exact h
  · exact h
  · exact stops
  · exact stops

theorem State.violation_brief (s : State) : s.violation.brief = s.brief := s.lineBusy.cutShort_brief

theorem State.dominantRun_legal {s : State} (run : Nat) (h : s.brief.Legal) (fitted : s.dhd.transportFitted = true) :
    (s.dominantRun run).brief.Legal := by
  unfold State.dominantRun
  split
  · exact h
  split
  · exact h
  split
  · exact State.stopRun_legal h fitted
  split
  · exact s.violation_brief.symm ▸ h
  · exact h

theorem State.discardMalformed_brief (tooLong : Bool) (s : State) : (s.discardMalformed tooLong).brief = s.brief := by
  unfold State.discardMalformed
  split <;> rfl

/-! ### Directives -/

/-- What an UNCONFIGURED station takes of the directives (R65, check 3). -/
def Directive.Early : Directive → Prop
  | .configure _ | .status _ _ | .restart | .peerQuery _ => True
  | _ => False

theorem parseStatus_early {p : List Byte} {d : Directive} (h : parseStatus p = .ok d) : d.Early := by
  unfold parseStatus at h
  dsimp only at h
  split at h <;> cases h
  trivial

theorem State.checkDirective_early {s : State} {via : Via} {p : List Byte} {d : Directive} (h : s.checkDirective via p = .ok d) :
    d.Early ∨ s.brief.configured = true := by
  by_cases ready : s.dhd.config.isSome = true
  · exact .inr ready
  · have none : s.dhd.config = none := by simpa using ready
    unfold State.checkDirective at h
    rw [show s.standard = Option.none by simp [State.standard, none]] at h
    repeat' split at h
    · cases h
    · cases h
    · cases h
    · cases h
    · unfold parseParams at h
      split at h
      · cases h
      split at h
      · cases h
        exact .inl trivial
      · exact .inl (parseStatus_early h)
      · cases h
        exact .inl trivial
      · split at h <;> cases h
        exact .inl trivial
      · contradiction
      · cases h

theorem State.acceptConfig_legal {s : State} (c : Settings) (h : s.brief.Legal) (fitted : s.dhd.transportFitted = true)
    (fresh : s.brief.configured = false) : (s.acceptConfig c).brief.Legal := by
  have configured : ((s.markAcceptance.setConfig c).judgeForeign).configureTransport.brief.Legal :=
    State.configureTransport_legal (s := ({ s.markAcceptance with ptb := (s.markAcceptance.setConfig c).judgeForeign.ptb })) h fresh c fitted
  unfold State.acceptConfig State.restEdgeTable
  split
  · exact configured
  · exact configured

/-- Every owner keeps the agreement (R69). -/
theorem State.runOwner_legal {d : Directive} (via : Via) {s : State} (h : s.brief.Legal) (fitted : s.dhd.transportFitted = true)
    (early : d.Early ∨ s.brief.configured = true) : (s.runOwner d via).1.brief.Legal := by
  cases d with
  | configure r =>
    show (s.configure r).1.brief.Legal
    unfold State.configure
    split
    · exact h
    · rename_i fresh
      cases r with
      | none => exact h
      | some c => exact State.acceptConfig_legal c h fitted (Bool.eq_false_iff.mpr fresh)
  | status page clear =>
    cases page with
    | false => exact h
    | true => cases clear <;> exact h
  | restart => exact State.restart_legal h fitted
  | peerQuery n => exact h
  | transportStop => exact State.transportStop_legal h (early.resolve_left id)
  | motion m => exact State.requestMotion_legal h (early.resolve_left id)
  | chaseEnable r => exact State.enableChase_legal h (early.resolve_left id)
  | chaseStore r => exact State.storeChase_legal h
  | chaseDisable => exact State.disableChase_legal h
  | loadCue c => exact State.loadCue_legal h (early.resolve_left id)
  | dropCue i => exact State.dropCue_legal h (early.resolve_left id)
  | roll d e => exact State.setRollStart_legal h (early.resolve_left id)
  | loadZone a b =>
    show (s.loadZone a b).1.brief.Legal
    unfold State.loadZone
    dsimp only
    repeat' split
    all_goals exact h
  | clearZones => exact h
  | setTransition p =>
    show (s.setTransition p).1.brief.Legal
    unfold State.setTransition
    repeat' split
    all_goals exact h
  | selectA n =>
    show (s.selectSource n).1.brief.Legal
    unfold State.selectSource
    repeat' split
    all_goals exact h
  | take => exact s.takeTransition_brief.symm ▸ h
  | pause =>
    show s.pauseTransition.1.brief.Legal
    unfold State.pauseTransition
    repeat' split
    all_goals exact h
  | resume =>
    show s.resumeTransition.1.brief.Legal
    unfold State.resumeTransition
    repeat' split
    all_goals exact h
  | abortTransportOp => exact State.abortOp_legal h
  | abortSegment => exact State.abortSegment_legal h
  | abortTransition c =>
    show (s.abortTransition c).brief.Legal
    unfold State.abortTransition
    repeat' split
    all_goals exact h
  | allStop =>
    exact State.requestStop_legal (s := s.answer _ _ _ _ _) ((State.answer_brief ..).symm ▸ h)
      ((State.answer_frame ..).transportFitted.trans fitted)

theorem State.handDirective_legal {via : Via} {p : List Byte} {s : State} (h : s.brief.Legal)
    (fitted : s.dhd.transportFitted = true) : (s.handDirective via p).brief.Legal := by
  unfold State.handDirective
  split
  · exact h
  split
  · exact (State.answer_brief ..).symm ▸ h
  · rename_i d check
    dsimp only
    rw [State.reply_brief]
    exact State.runOwner_legal via h fitted (State.checkDirective_early check)

theorem State.takeDirective_legal {via : Via} {p : List Byte} {s : State} (h : s.brief.Legal)
    (fitted : s.dhd.transportFitted = true) : (s.takeDirective via p).brief.Legal := by
  unfold State.takeDirective
  split
  · exact State.handDirective_legal h fitted
  · split
    · exact h
    · split
      · exact (State.discardMalformed_brief ..).symm ▸ h
      · exact State.handDirective_legal (s := s.lineBusy) h fitted

/-! ### Frames and the port -/

theorem State.receiveFrame_legal {f : Frame} {s : State} (h : s.brief.Legal) (fitted : s.dhd.transportFitted = true) :
    (s.receiveFrame f).brief.Legal := by
  unfold State.receiveFrame
  split
  · exact h
  split
  · unfold State.handFrame
    split
    · exact State.handDirective_legal (s := s.lineBusy) h fitted
    split
    · split
      · exact (State.becomeDuplicate_brief ..).symm ▸ h
      · exact (State.storeAnnouncement_brief ..).symm ▸ h
    split
    · exact (State.rxJoin_frame ..).brief.symm ▸ h
    · exact h
  · exact (State.discardMalformed_brief ..).symm ▸ h

theorem State.collide_legal {x : CollisionEnd} {s : State} (h : s.brief.Legal) (fitted : s.dhd.transportFitted = true) :
    (s.collide x).brief.Legal := by
  cases x with
  | frame f =>
    show (if f.taken && s.isTwin f then s.lineBusy.becomeDuplicate false else s.cutShort.receiveFrame f).brief.Legal
    split
    · exact (State.becomeDuplicate_brief ..).symm ▸ h
    · exact State.receiveFrame_legal (s.cutShort_brief.symm ▸ h) (s.cutShort_frame.transportFitted.trans fitted)
  | codingViolation => exact s.violation_brief.symm ▸ h
  | stopSignal => exact s.lineBusy.cutShort_brief.symm ▸ h

theorem State.sendCommand_legal {s : State} (h : s.brief.Legal) (fitted : s.dhd.transportFitted = true) :
    s.sendCommand.brief.Legal := by
  unfold State.sendCommand
  split
  · exact h
  split
  · exact State.handDirective_legal (s := s.setLpt _) h fitted
  · unfold State.sendToLine
    split
    · exact h
    · exact h

theorem State.portWrite_legal {a : BitVec 2} {b : Byte} {s : State} (h : s.brief.Legal) (fitted : s.dhd.transportFitted = true) :
    (s.portWrite a b).brief.Legal := by
  unfold State.portWrite
  split
  · exact h
  · split
    · exact State.sendCommand_legal h fitted
    all_goals exact h
  · exact h
  · exact h

/-! ### The field timing -/

theorem State.timerFires_legal {s : State} (h : s.brief.Legal) : s.timerFires.brief.Legal := by
  unfold State.timerFires
  split
  · exact h
  · exact State.fieldStart_legal (s := (s.setFtu s.ftu.fallen).latch .refLost) h
  · exact State.fieldStart_legal h
  · exact State.fieldStart_legal (s := s.setFtu { s.ftu with timerRunning := true, returnStep := .idle, goodPulses := 0 }) h

theorem State.runTimers_legal (n m : Nat) {s : State} (h : s.brief.Legal) : (s.runTimers n m).brief.Legal := by
  induction n generalizing s with
  | zero => exact h
  | succ n ih =>
    unfold State.runTimers
    split
    · split
      · exact ih (State.timerFires_legal h)
      · exact h
    · exact h

theorem State.refPulseTaken_legal {p : Parity} {pins : FieldPins} {s : State} (h : s.brief.Legal) :
    (s.refPulseTaken p pins).brief.Legal := by
  have field (f : Ftu) (m : Nat) : ((s.setFtu f).pulseField p m pins).brief.Legal := State.fieldStart_legal (s := s.setFtu f) h
  unfold State.refPulseTaken
  split
  · unfold State.fallbackPulse
    split
    · exact field ..
    · split
      · split
        · unfold State.returnPulse
          split
          · exact field ..
          · exact h
        · exact h
      · exact h
  · exact field ..

end Sys2Proof.Machine
end

section
/-! SUPPORT. The agreement of transport, chase and segment through every command of the table. -/

namespace Sys2Proof.Machine

theorem Outcome.legal_of_ite {p : Prop} [Decidable p] {s a t : State} (h : s.brief.Legal) (w : p → a.brief.Legal)
    (e : (if p then Host.Outcome.next a else Host.Outcome.next s : Host.Outcome State Fault Refusal) = .next t) :
    t.brief.Legal := by
  split at e <;> cases e
  · exact w ‹_›
  · exact h

theorem State.tach_brief (forward : Bool) (s : State) : (s.tach forward).brief = s.brief := by
  unfold State.tach State.countPulse State.frameOfMotion State.loseCode
  dsimp only
  repeat' split
  all_goals rfl

theorem State.readWord_brief (label : Label) (s : State) : (s.readWord label).brief = s.brief := by
  unfold State.readWord State.judgeWord
  repeat' split
  all_goals rfl

theorem State.setPeer_brief (n : Nat) (e : Option PeerEntry) (s : State) : (s.setPeer n e).brief = s.brief := by
  unfold State.setPeer
  split <;> rfl

/-- Every command but the reset keeps the agreement at a fitted station. -/
theorem exec_legal {i : Instr} {s t : State} (noReset : ∀ pins, i ≠ .powerUpReset pins) (h : s.brief.Legal)
    (fitted : s.dhd.transportFitted = true) (e : exec i s = .next t) : t.brief.Legal := by
  cases i with
  | powerUpReset pins => exact absurd rfl (noReset pins)
  | refPulse p moment pins =>
    cases e
    exact State.refPulseTaken_legal (s := s.passTo moment) (State.runTimers_legal _ _ h)
  | refWatchExpires moment pins =>
    change execRefWatchExpires moment pins s = _ at e
    unfold execRefWatchExpires at e
    split at e
    · exact Outcome.legal_of_ite h (fun _ => State.fieldStart_legal (s := (s.setFtu s.ftu.fallen).latch .refLost) h) e
    · cases e
      exact h
  | internalFieldStart pins =>
    change execInternalFieldStart pins s = _ at e
    unfold execInternalFieldStart at e
    split at e
    · exact Outcome.legal_of_ite h (fun _ => State.fieldStart_legal h) e
    · cases e
      exact h
  | returnWaitExpires pins =>
    change execReturnWaitExpires pins s = _ at e
    unfold execReturnWaitExpires at e
    split at e
    · exact Outcome.legal_of_ite h (fun _ => State.fieldStart_legal
        (s := s.setFtu { s.ftu with timerRunning := true, returnStep := .idle, goodPulses := 0 }) h) e
    · cases e
      exact h
  | stopInput =>
    change execStopInput s = _ at e
    unfold execStopInput at e
    split at e
    · cases e
      exact h
    · cases e
      exact State.requestStop_legal (s := { s with lif := { s.lif with stopLevel := true } }) h fitted
  | stopEvent =>
    cases e
    exact State.stopRun_legal h fitted
  | codingViolation run =>
    cases e
    exact State.dominantRun_legal run h fitted
  | malformedFrame f | announcementReceived f | reportOrNoticeReceived f =>
    cases e
    exact State.receiveFrame_legal h fitted
  | frameTransmitStart =>
    exact Outcome.legal_of_ite h (fun _ => (State.beginHead_brief ..).symm ▸ h) e
  | arbitrationLost =>
    cases e
    exact s.cutShort_brief.symm ▸ h
  | ownFrameCollision x => exact Outcome.legal_of_ite h (fun _ => State.collide_legal h fitted) e
  | frameSent =>
    cases e
    exact s.sent_frame.brief.symm ▸ h
  | txqMessageExpires =>
    cases e
    exact s.expireTxq_shape.1.brief.symm ▸ h
  | peerEntryRemoved n =>
    change execPeerEntryRemoved n s = _ at e
    unfold execPeerEntryRemoved at e
    split at e
    · exact Outcome.legal_of_ite h (fun _ => (State.setPeer_brief ..).symm ▸ h) e
    · cases e
      exact h
  | tachPulse forward =>
    cases e
    exact (s.tach_brief forward).symm ▸ h
  | codeWord label =>
    cases e
    exact (s.readWord_brief label).symm ▸ h
  | jumpCandidateExpires =>
    change execJumpCandidateExpires s = _ at e
    unfold execJumpCandidateExpires at e
    split at e
    · exact Outcome.legal_of_ite (a := { s with psu := { s.psu with candidate := none } }) h (fun _ => h) e
    · cases e
      exact h
  | codeLost =>
    change execCodeLost s = _ at e
    unfold execCodeLost at e
    split at e
    · exact Outcome.legal_of_ite (a := s.loseCode _) h (fun _ => h) e
    · cases e
      exact h
  | tallyChange tally =>
    cases e
    exact State.changeTally_legal h
  | threadedFalls =>
    cases e
    exact State.unthread_legal h fitted
  | threadedRises =>
    cases e
    exact State.thread_legal h fitted
  | tallyWaitRunsOut =>
    change execTallyWaitRunsOut s = _ at e
    unfold execTallyWaitRunsOut at e
    split at e
    · rename_i wait
      exact Outcome.legal_of_ite h (fun _ => State.waitRunsOut_legal h (by simp [State.brief, wait])) e
    · cases e
      exact h
  | deckFaultQualified =>
    exact Outcome.legal_of_ite h (fun due => State.faultQualified_legal h due.2.1 due.1) e
  | recoveryOffTimeEnds =>
    change execRecoveryOffTimeEnds s = _ at e
    unfold execRecoveryOffTimeEnds at e
    split at e
    · rename_i under
      exact Outcome.legal_of_ite h (fun _ => State.offTimeEnds_legal h (by simp [State.brief, under])) e
    · cases e
      exact h
  | recoveryWaitRunsOut =>
    change execRecoveryWaitRunsOut s = _ at e
    unfold execRecoveryWaitRunsOut at e
    split at e
    · rename_i wait
      exact Outcome.legal_of_ite h (fun _ => State.waitRunsOut_legal h (by simp [State.brief, wait])) e
    · cases e
      exact h
  | deferralExpired =>
    change execDeferralExpired s = _ at e
    unfold execDeferralExpired at e
    split at e
    · exact Outcome.legal_of_ite h (fun _ => State.expireSlot_legal h) e
    · cases e
      exact h
  | seekFailed =>
    change execSeekFailed s = _ at e
    unfold execSeekFailed at e
    split at e
    · rename_i pending
      exact Outcome.legal_of_ite h (fun due => State.failSeek_legal h due.1 (h.toCore.ready (State.brief_pending pending rfl))) e
    · cases e
      exact h
  | lockDeclared => exact Outcome.legal_of_ite h (fun due => State.declareLock_legal h due.1) e
  | lockLost =>
    change execLockLost s = _ at e
    unfold execLockLost at e
    split at e
    · exact Outcome.legal_of_ite h (fun due => State.settle_legal (State.loseLock_legal h due.1)) e
    · cases e
      exact h
  | pullTimeExceeded =>
    change execPullTimeExceeded s = _ at e
    unfold execPullTimeExceeded at e
    split at e
    · exact Outcome.legal_of_ite h (fun due => State.settle_legal (State.stopPulling_legal h due.1)) e
    · cases e
      exact h
  | rerollOffTimeEnds =>
    change execRerollOffTimeEnds s = _ at e
    unfold execRerollOffTimeEnds at e
    split at e
    · split at e
      · rename_i target _ _
        exact Outcome.legal_of_ite h (fun due => State.settle_legal (State.endReroll_legal (s := s.setTarget target) h due.1)) e
      · cases e
        exact h
    · cases e
      exact h
  | gapEnds => exact Outcome.legal_of_ite h (fun due => h.afterGap due.1) e
  | rollStart =>
    cases e
    exact State.rollDue_legal _ h
  | transitionCompletes =>
    change execTransitionCompletes s = _ at e
    unfold execTransitionCompletes at e
    split at e
    · split at e <;> cases e <;> exact h
    · cases e
      exact h
  | send =>
    cases e
    exact State.sendCommand_legal h fitted
  | portWriteNoEffect a b =>
    cases e
    exact State.portWrite_legal h fitted
  | lineIdle =>
    change execLineIdle s = _ at e
    unfold execLineIdle at e
    split at e <;> cases e <;> exact h
  | stopInputReleased | stopEmissionEnds | assemblyByteWrite | clear | next | receiveByteRead | statusByteRead
  | interruptMaskWrite =>
    cases e
    exact h
  | _ =>
    cases (exec_of_directive rfl s).symm.trans e
    exact State.takeDirective_legal h fitted

theorem exec_transportLegal {i : Instr} {s t : State} (h : s.transportLegal) (e : exec i s = .next t) : t.transportLegal := by
  by_cases reset : ∃ pins, i = .powerUpReset pins
  · obtain ⟨pins, rfl⟩ := reset
    cases e
    exact State.ofPins_transport pins s.order s.pending
  · have noReset : ∀ pins, i ≠ .powerUpReset pins := fun pins k => reset ⟨pins, k⟩
    obtain ⟨g, deeds⟩ := (exec_handled noReset e).deeds
    have fits := ((sameStation_kept g s).deeds deeds ⟨⟨rfl, rfl, rfl⟩, fun _ => rfl, id, id⟩).1.2.1
    rw [State.transportLegal_iff] at h ⊢
    intro fitted
    have fitted := fits.symm.trans fitted
    exact exec_legal noReset (h fitted) fitted e

end Sys2Proof.Machine

open Sys2Proof Sys2Proof.Machine

/-- Settles O4: every operation on the deck, the chase or the segment is told by what it does to the deck in brief, and keeps its
agreement. -/
theorem transportStaysLegal : Obligations.TransportStaysLegal := by
  intro s t h e
  obtain rfl | ⟨i, e⟩ | ⟨i, rest, e⟩ := step_cases e
  · exact h
  · exact exec_transportLegal h e
  · exact exec_transportLegal (s := s.withPending rest) h e

end

section
/-! SUPPORT. No command but the four of the field timing counts a field; and what a field start leaves of a recording near a zone. -/

namespace Sys2Proof.Machine

/-! ### The field counter -/

theorem State.Change.ftu {s t : State} (h : s.Change t) : t.ftu = s.ftu := by
  cases h with
  | touch h => exact h.by.ftu
  | cul => rfl
  | ten => rfl

/-- A deed that is no field start leaves the field counter. -/
theorem State.Deed.counter {g : Grant} (other : g ≠ .fields) {s t : State} (d : State.Deed g s t) : t.ftu.counter = s.ftu.counter := by
  cases d with
  | change h => rw [h.ftu]
  | ftu f _ counts => exact counts
  | field p m x pins granted => exact absurd granted other
  | _ => rfl

theorem State.Deeds.counter {g : Grant} (other : g ≠ .fields) {s t : State} (w : State.Deeds g s t) :
    t.ftu.counter = s.ftu.counter :=
  w.keeps (P := fun u => u.ftu.counter = s.ftu.counter) (fun _ _ d h => (d.counter other).trans h) rfl

/-- No command but the reset and the four of the field timing changes the field counter (R42). -/
theorem exec_counter {i : Instr} {s t : State} (noReset : ∀ pins, i ≠ .powerUpReset pins) (noField : ¬ GivesField i)
    (e : exec i s = .next t) : t.ftu.counter = s.ftu.counter := by
  cases exec_handled noReset e with
  | plain deeds => exact deeds.counter (by nofun)
  | configured deeds => exact deeds.counter (by nofun)
  | cleared deeds => exact deeds.counter (by nofun)
  | timed _ given => exact absurd given noField

/-! ### A recording near a zone (R141, R144) -/

theorem State.nearZone_eq {s t : State} (own : t.own = s.own) (zones : t.rcc.zones = s.rcc.zones)
    (config : t.dhd.config = s.dhd.config) : t.nearZone = s.nearZone := by
  unfold State.nearZone State.inZone State.ahead State.dayLength State.standard
  rw [own, zones, config]

theorem State.Work.nearZone {s t : State} (w : s.Work t) : t.nearZone = s.nearZone := State.nearZone_eq w.own w.zones w.config

/-- A segment that this field start found RECORDING is yet to be judged; one begun in it was begun clear of the zones. -/
abbrev State.UnjudgedOrClear (s : State) : Prop := s.rcc.state = .recording → s.rcc.fresh = false ∨ s.nearZone = false

theorem State.Touch.rcc_cases {s t : State} (h : s.Touch t) :
    t.rcc = s.rcc ∨ (t.rcc.state = .recording → s.nearZone = false ∨ (s.rcc.state = .recording ∧ t.rcc.fresh = s.rcc.fresh)) := by
  cases h with
  | rcc r _ entered => exact .inr entered
  | tsq | csv | latch | sense => exact .inl rfl
  | send m => exact .inl (s.txJoin_frame m).rcc
  | receive b => exact .inl (s.rxJoin_frame b).rcc

theorem State.Touch.unjudgedOrClear {s t : State} (h : s.Touch t) (k : s.UnjudgedOrClear) : t.UnjudgedOrClear := by
  intro recording
  rw [State.Work.nearZone (.single h)]
  obtain same | entered := h.rcc_cases
  · rw [same] at recording ⊢
    exact k recording
  · obtain clear | ⟨was, fresh⟩ := entered recording
    · exact .inr clear
    · exact fresh ▸ k was

theorem State.Touch.clearOfZones {s t : State} (h : s.Touch t) (k : s.clearOfZones) : t.clearOfZones := by
  intro recording
  rw [State.Work.nearZone (.single h)]
  obtain same | entered := h.rcc_cases
  · exact k (same ▸ recording)
  · exact (entered recording).elim id fun was => k was.1

theorem State.Change.unjudgedOrClear {s t : State} (h : s.Change t) (k : s.UnjudgedOrClear) : t.UnjudgedOrClear := by
  cases h with
  | touch h => exact h.unjudgedOrClear k
  | cul => exact k
  | ten => exact k

theorem State.Change.clearOfZones {s t : State} (h : s.Change t) (k : s.clearOfZones) : t.clearOfZones := by
  cases h with
  | touch h => exact h.clearOfZones k
  | cul => exact k
  | ten => exact k

theorem State.Work.clearOfZones {s t : State} (w : s.Work t) (k : s.clearOfZones) : t.clearOfZones :=
  w.keeps (P := State.clearOfZones) (fun _ _ => State.Touch.clearOfZones) k

/-- No zone ahead: neither the own position nor the place 128 fine units ahead lies in a zone (R144). -/
theorem State.nearZone_of_zoneAhead {s : State} (h : s.zoneAhead = none) : s.nearZone = false := by
  unfold State.zoneAhead at h
  unfold State.nearZone
  split
  · rename_i x own
    rw [own] at h
    have apart := List.find?_eq_none.mp h
    simp only [State.inZone, Bool.or_eq_false_iff, List.any_eq_false]
    exact ⟨fun z mem here => apart z mem (by simp [here]), fun z mem here => apart z mem (by simp [here])⟩
  · rfl

/-- The judgement of a segment ends it or finds it clear of the zones (R144). -/
theorem State.segmentStep_clear (g : Segment) (s : State) : (s.segmentStep g).clearOfZones := by
  have ended {u : State} (h : u.rcc.state ≠ .recording) : u.settle.clearOfZones :=
    (State.settle_work u).clearOfZones fun recording => absurd recording h
  unfold State.segmentStep
  dsimp only
  split
  · exact ended (State.enterGap_ends _)
  · rename_i none
    split
    · exact ended (State.enterGap_ends _)
    · split
      · exact ended (State.enterGap_ends _)
      · exact fun _ => State.nearZone_of_zoneAhead (s := s) none

/-- The Record Controller's work leaves no segment RECORDING near a zone (R142 to R144). -/
theorem State.recordFieldStart_clear {s : State} (legal : s.brief.Legal) (h : s.UnjudgedOrClear) : s.recordFieldStart.clearOfZones := by
  unfold State.recordFieldStart
  by_cases fresh : s.rcc.fresh = true
  · rw [if_pos fresh]
    exact fun recording => (h recording).elim (fun not => absurd (fresh.symm.trans not) (by simp)) id
  · rw [if_neg fresh]
    split
    · exact s.segmentStep_clear _
    · split
      · exact nofun
      · rename_i gap _
        exact fun recording => absurd (gap.symm.trans recording) (by simp)
    · rename_i noSegment
      intro recording
      obtain ⟨g, held⟩ := Option.isSome_iff_exists.mp (legal.holds.mp recording)
      exact absurd held (noSegment g recording)

/-- The blocks' work in either order leaves no segment RECORDING near a zone (R142 to R144). -/
theorem State.recordCueTransition_clear {s : State} (legal : s.brief.Legal) (h : s.UnjudgedOrClear) :
    s.recordCueTransition.clearOfZones := by
  have clear {a b : State} (w : a.Course b) (k : a.clearOfZones) : b.clearOfZones :=
    w.keeps (P := State.clearOfZones) (fun _ _ => State.Change.clearOfZones) k
  have unjudged {a b : State} (w : a.Course b) (k : a.UnjudgedOrClear) : b.UnjudgedOrClear :=
    w.keeps (P := State.UnjudgedOrClear) (fun _ _ => State.Change.unjudgedOrClear) k
  have transition (p : Prop) [Decidable p] (u : State) : u.Course (if p then u.transitionFieldStart else u) :=
    .ite (State.transitionFieldStart_course _) .refl
  have transition' (p : Prop) [Decidable p] (u : State) : u.Course (if p then u else u.transitionFieldStart) :=
    .ite .refl (State.transitionFieldStart_course _)
  unfold State.recordCueTransition
  extract_lets s1 s2 s3 s4
  by_cases first : s.order.rccFirst = true
  · have judged : s1.clearOfZones := by
      simp only [s1, if_pos first]
      exact State.recordFieldStart_clear legal h
    have same : s4 = s3 := if_pos first
    rw [same]
    exact clear (transition' _ _) (clear ((transition _ s1).trans (State.cueFieldStart_course _)) judged)
  · have same : s1 = s := if_neg first
    have legal3 : s3.brief.Legal := by
      have legal2 : s2.brief.Legal := by
        simp only [s2, same]
        split
        · exact s.transitionFieldStart_brief.symm ▸ legal
        · exact legal
      exact State.cueFieldStart_legal legal2
    have judged : s4.clearOfZones := by
      simp only [s4, if_neg first]
      exact State.recordFieldStart_clear legal3 (unjudged ((transition _ s1).trans (State.cueFieldStart_course _)) (same ▸ h))
    exact clear (transition' _ _) judged

/-- After a field start no segment is RECORDING near a zone (R141, R144). -/
theorem State.fieldStart_clear {s : State} (legal : s.brief.Legal) (p : Parity) (m : Nat) (x : FieldSource) (pins : FieldPins) :
    (s.fieldStart p m x pins).clearOfZones := by
  let begun := (s.markField p m x pins).measureSpeed.agePeers.ageTxq
  have shape := ((s.markField p m x pins).measureSpeed.agePeers.ageTxq_shape).1
  have began : begun.rcc.fresh = false := by
    obtain h | h := shape <;> simp only [begun] <;> rw [h] <;> rfl
  have begunLegal : begun.brief.Legal := by
    simp only [begun, shape.brief]
    exact legal
  have chased : begun.transportFieldStart.chaseFieldStart.UnjudgedOrClear :=
    ((State.transportFieldStart_work _).trans (State.chaseFieldStart_work _)).keeps (P := State.UnjudgedOrClear)
      (fun _ _ => State.Touch.unjudgedOrClear) fun _ => .inl began
  have worked := State.recordCueTransition_clear (State.chaseFieldStart_legal (State.transportFieldStart_legal begunLegal)) chased
  have announced := (State.txAnnounce_shape (State.announcement begun.transportFieldStart.chaseFieldStart.recordCueTransition)
    begun.transportFieldStart.chaseFieldStart.recordCueTransition).1
  change State.clearOfZones (State.announceField _)
  unfold State.announceField
  rw [announced]
  exact worked

/-! ### The commands of the field timing -/

theorem State.timerFires_clear {s : State} {ends : Nat} (legal : s.brief.Legal) (due : s.timerDue = some ends) :
    s.timerFires.clearOfZones := by
  obtain ⟨std, -, ⟨-, -, fires⟩ | ⟨-, -, -, -, fires⟩ | ⟨-, -, -, fires⟩⟩ := State.timer_cases due <;> rw [fires]
  · exact State.fieldStart_clear (s := (s.setFtu s.ftu.fallen).latch .refLost) legal _ _ _ _
  · exact State.fieldStart_clear legal _ _ _ _
  · exact State.fieldStart_clear (s := s.setFtu { s.ftu with timerRunning := true, returnStep := .idle, goodPulses := 0 }) legal _ _ _ _

theorem State.runTimers_clear (most moment : Nat) {s : State} (legal : s.brief.Legal) :
    s.runTimers most moment = s ∨ (s.runTimers most moment).clearOfZones := by
  induction most generalizing s with
  | zero => exact .inl rfl
  | succ n ih =>
    unfold State.runTimers
    split
    · rename_i due
      split
      · refine .inr ?_
        obtain done | clear := ih (State.timerFires_legal legal)
        · rw [done]
          exact State.timerFires_clear legal due
        · exact clear
      · exact .inl rfl
    · exact .inl rfl

/-- A REF pulse gives a field start, or leaves the counter and the segment (R41, R45, R46). -/
theorem State.refPulseTaken_clear (p : Parity) (pins : FieldPins) {s : State} (legal : s.brief.Legal) :
    (s.refPulseTaken p pins).clearOfZones ∨ ∃ f : Ftu, s.refPulseTaken p pins = s.setFtu f ∧ f.counter = s.ftu.counter := by
  have given (f : Ftu) (m : Nat) : ((s.setFtu f).pulseField p m pins).clearOfZones :=
    State.fieldStart_clear (s := s.setFtu f) legal _ _ _ _
  unfold State.refPulseTaken
  split
  · unfold State.fallbackPulse
    split
    · exact .inl (given _ _)
    · split
      · split
        · unfold State.returnPulse
          split
          · exact .inl (given _ _)
          · exact .inr ⟨_, rfl, rfl⟩
        · exact .inr ⟨_, rfl, rfl⟩
      · exact .inr ⟨_, rfl, rfl⟩
  · exact .inl (given _ _)

/-- A REF pulse counts no field, or leaves no segment RECORDING near a zone. -/
theorem execRefPulse_clear (p : Parity) (moment : Nat) (pins : FieldPins) {s : State} (legal : s.brief.Legal) :
    ((s.passTo moment).refPulseTaken p pins).clearOfZones ∨
      ((s.passTo moment).refPulseTaken p pins).ftu.counter = s.ftu.counter := by
  have legal' : (s.passTo moment).brief.Legal := State.runTimers_legal _ _ legal
  obtain clear | ⟨f, taken, counter⟩ := State.refPulseTaken_clear p pins legal'
  · exact .inl clear
  · rw [taken]
    obtain same | clear := State.runTimers_clear (max s.ftu.now moment) (max s.ftu.now moment) legal
    · refine .inr (counter.trans ?_)
      unfold State.passTo
      rw [same]
      rfl
    · exact .inl clear

end Sys2Proof.Machine

open Sys2Proof Sys2Proof.Machine

/-- Settles O10: a field start judges every segment it finds RECORDING, and one begun in it is begun clear of the zones. -/
theorem noRecordingInZoneAtFieldStart : Obligations.NoRecordingInZoneAtFieldStart := by
  intro i s t legal fitted e counted
  have legal : s.brief.Legal := s.transportLegal_iff.mp legal fitted
  have notSame : t.ftu.counter ≠ s.ftu.counter := by
    rw [counted]
    bv_omega
  have gives {c : Prop} [Decidable c] {u : State} (clear : u.clearOfZones)
      (e : (if c then Host.Outcome.next u else .next s : Host.Outcome State Fault Refusal) = .next t) : t.clearOfZones := by
    split at e <;> cases e
    · exact clear
    · exact absurd rfl notSame
  by_cases reset : ∃ pins, i = .powerUpReset pins
  · obtain ⟨pins, rfl⟩ := reset
    cases e
    exact nofun
  by_cases given : GivesField i
  · obtain ⟨p, moment, pins, rfl⟩ | ⟨moment, pins, rfl⟩ | ⟨pins, rfl⟩ | ⟨pins, rfl⟩ := given
    · cases e
      exact (execRefPulse_clear p moment pins legal).elim id fun same => absurd same notSame
    · change execRefWatchExpires moment pins s = _ at e
      unfold execRefWatchExpires at e
      split at e
      · exact gives (State.fieldStart_clear (s := (s.setFtu s.ftu.fallen).latch .refLost) legal _ _ _ _) e
      · cases e
        exact absurd rfl notSame
    · change execInternalFieldStart pins s = _ at e
      unfold execInternalFieldStart at e
      split at e
      · exact gives (State.fieldStart_clear legal _ _ _ _) e
      · cases e
        exact absurd rfl notSame
    · change execReturnWaitExpires pins s = _ at e
      unfold execReturnWaitExpires at e
      split at e
      · exact gives (State.fieldStart_clear (s := s.setFtu { s.ftu with timerRunning := true, returnStep := .idle, goodPulses := 0 }) legal _ _ _ _) e
      · cases e
        exact absurd rfl notSame
  · exact absurd (exec_counter (fun pins k => reset ⟨pins, k⟩) given e) notSame

end

section
/-! SUPPORT. TACH_PULSE and CODE_WORD: the pulse in an active Position Unit case by case, and the judgement of a word (R10 to R18). -/

namespace Sys2Proof.Machine

theorem State.own_of_source {s : State} {c : Settings} (hc : s.dhd.config = some c) (source : s.psu.source ≠ .noSource) :
    s.own = some (wrapDay c.standard.day ((s.psu.anchor : Int) * 256 + tachFine c.tpf s.psu.p)) := by
  unfold State.own
  split
  · contradiction
  · rename_i none _
    exact nomatch (none.symm.trans hc)
  · rename_i held _
    cases held.symm.trans hc
    rfl

theorem State.psuActive_iff {s : State} {c : Settings} (hc : s.dhd.config = some c) :
    s.psuActive = true ↔ s.dhd.transportFitted = true ∧ s.pins.threaded = true := by
  simp [State.psuActive, hc]

/-! ### One pulse (R11, R12, R17, R18) -/

/-- A whole number of frames more in the anchor, or less, is the same position (R7). -/
theorem wrapDay_frameAdd (std : Standard) (anchor : Nat) (n : Int) :
    wrapDay std.day ((frameAdd std.framesPerDay anchor n : Int) * 256) = wrapDay std.day ((anchor : Int) * 256 + n * 256) := by
  have pos : (0 : Int) < std.framesPerDay := by exact_mod_cast framesPerDay_pos std
  have reduced : ((((anchor : Int) + n) % (std.framesPerDay : Int)).toNat : Int) = ((anchor : Int) + n) % (std.framesPerDay : Int) :=
    Int.toNat_of_nonneg (Int.emod_nonneg _ (by omega))
  unfold wrapDay frameAdd Standard.day
  have scaled (x : Int) : x * 256 % ((std.framesPerDay : Int) * 256) = x % (std.framesPerDay : Int) * 256 := by
    rw [Int.mul_comm x, Int.mul_comm (std.framesPerDay : Int), Int.mul_emod_mul_of_pos _ _ (by norm_num), Int.mul_comm]
  rw [reduced]
  push_cast
  rw [← add_mul, scaled, scaled, Int.emod_emod_of_dvd _ dvd_rfl]

/-- Rebasing at a whole frame leaves the position where the pulse takes it (R11, R12). -/
theorem rebase_position (std : Standard) {tpf : Nat} (ht : 1 ≤ tpf) (d : Int) (u : Psu) :
    wrapDay std.day (((rebase std tpf d u).anchor : Int) * 256 + tachFine tpf (rebase std tpf d u).p) =
      wrapDay std.day ((u.anchor : Int) * 256 + tachFine tpf (u.p + d)) := by
  have tpos : (tpf : Int) ≠ 0 := by omega
  unfold rebase
  dsimp only
  split
  · rename_i whole
    have frame : tachFine tpf (u.p + d) = 256 := by
      rw [whole, tachFine, Int.mul_comm, Int.mul_tdiv_cancel _ tpos]
    rw [frame]
    simpa [tachFine] using wrapDay_frameAdd std u.anchor 1
  · split
    · rename_i whole
      have frame : tachFine tpf (u.p + d) = -256 := by
        rw [whole, tachFine, Int.mul_comm, Int.mul_neg, Int.neg_tdiv, Int.mul_tdiv_cancel _ tpos]
      rw [frame]
      simpa [tachFine] using wrapDay_frameAdd std u.anchor (-1)
    · rfl

/-- The unit after a pulse, but for the motion count and what a whole frame of motion does. -/
def Psu.pulsed (c : Settings) (d : Int) (u : Psu) : Psu :=
  { rebase c.standard c.tpf d { u with fieldTotal := u.fieldTotal + d } with candidate := ageCandidate c.tpf u.candidate }

theorem Psu.pulsed_leaves (c : Settings) (d : Int) (u : Psu) :
    u.pulsed c d = { u with
      p := (u.pulsed c d).p, anchor := (u.pulsed c d).anchor, fieldTotal := u.fieldTotal + d,
      candidate := ageCandidate c.tpf u.candidate } := by
  have left := rebase_leaves c.standard c.tpf d { u with fieldTotal := u.fieldTotal + d }
  unfold Psu.pulsed
  rw [left]

@[simp] theorem Psu.pulsed_source (c : Settings) (d : Int) (u : Psu) : (u.pulsed c d).source = u.source := by
  rw [u.pulsed_leaves]

@[simp] theorem Psu.pulsed_missing (c : Settings) (d : Int) (u : Psu) : (u.pulsed c d).missing = u.missing := by
  rw [u.pulsed_leaves]

@[simp] theorem Psu.pulsed_speed (c : Settings) (d : Int) (u : Psu) : (u.pulsed c d).speed = u.speed := by
  rw [u.pulsed_leaves]

@[simp] theorem Psu.pulsed_fieldTotal (c : Settings) (d : Int) (u : Psu) : (u.pulsed c d).fieldTotal = u.fieldTotal + d := by
  rw [u.pulsed_leaves]

/-- The position after a pulse, rebased or not (R11, R12). -/
theorem Psu.pulsed_position {c : Settings} (ht : 1 ≤ c.tpf) (d : Int) (u : Psu) :
    wrapDay c.standard.day (((u.pulsed c d).anchor : Int) * 256 + tachFine c.tpf (u.pulsed c d).p) =
      wrapDay c.standard.day ((u.anchor : Int) * 256 + Int.tdiv ((u.p + d) * 256) c.tpf) :=
  rebase_position c.standard ht d { u with fieldTotal := u.fieldTotal + d }

/-- A whole frame of motion, by the source and the missing count (R18). -/
theorem State.frameOfMotion_cases (window : Nat) (s : State) :
    (s.psu.source ≠ .code → s.frameOfMotion window = s) ∧
      (s.psu.source = .code → s.psu.missing < window →
        s.frameOfMotion window = { s with psu := { s.psu with missing := s.psu.missing + 1 } }) ∧
      (s.psu.source = .code → window ≤ s.psu.missing → s.frameOfMotion window = s.loseCode window) := by
  unfold State.frameOfMotion
  refine ⟨fun tach => if_neg tach, fun code few => ?_, fun code many => ?_⟩ <;> rw [if_pos code]
  · exact if_neg (by omega)
  · exact if_pos many

/-- A pulse in an active unit with a position (R11). -/
theorem State.tach_active {s : State} {c : Settings} (forward : Bool) (hc : s.dhd.config = some c)
    (fitted : s.dhd.transportFitted = true) (threaded : s.pins.threaded = true) (source : s.psu.source ≠ .noSource) :
    let u := s.psu.pulsed c (if forward then 1 else -1)
    s.tach forward =
      if s.psu.motion + 1 < c.tpf then { s with psu := { u with motion := s.psu.motion + 1 } }
      else ({ s with psu := { u with motion := 0 } } : State).frameOfMotion c.dropoutWindow := by
  intro u
  let d : Int := if forward then 1 else -1
  let counted : State := { s with psu := { s.psu with fieldTotal := s.psu.fieldTotal + d } }
  have active : (counted.psuActive && counted.psu.source != .noSource) = true := by
    simpa [counted, (State.psuActive_iff (s := counted) hc).mpr ⟨fitted, threaded⟩] using source
  have left := rebase_leaves c.standard c.tpf d counted.psu
  have total : s.tach forward = counted.countPulse c d := by
    change (match s.dhd.config with
      | some c => if counted.psuActive && counted.psu.source != PosSource.noSource then counted.countPulse c d else counted
      | none => counted) = _
    rw [hc]
    exact if_pos active
  have candidate : (rebase c.standard c.tpf d counted.psu).candidate = s.psu.candidate := by rw [left]
  have motion : (rebase c.standard c.tpf d counted.psu).motion = s.psu.motion := by rw [left]
  rw [total]
  unfold State.countPulse
  dsimp only
  rw [candidate, motion]
  rfl

/-- A pulse in any other unit counts in the field pulse total alone (R10, R11). -/
theorem State.tach_inactive {s : State} (forward : Bool)
    (h : s.dhd.config = none ∨ s.dhd.transportFitted = false ∨ s.pins.threaded = false ∨ s.psu.source = .noSource) :
    s.tach forward = { s with psu := { s.psu with fieldTotal := s.psu.fieldTotal + if forward then 1 else -1 } } := by
  unfold State.tach
  dsimp only
  split
  · rename_i c hc
    refine if_neg ?_
    obtain none | bare | gone | lost := h
    · exact nomatch none.symm.trans hc
    · simp [State.psuActive, bare]
    · simp [State.psuActive, gone]
    · simp [lost]
  · rfl

/-! ### Code words (R13 to R16) -/

/-- A word read in an active unit, by the own position and the jump candidate (R13 to R16). -/
theorem State.readWord_active {s : State} {label : Label} {c : Settings} {n : Nat} (hc : s.dhd.config = some c)
    (fitted : s.dhd.transportFitted = true) (threaded : s.pins.threaded = true) (valid : labelCount c.standard label = some n) :
    s.readWord label =
      match s.own with
      | none => s.adoptWord n
      | some x => s.judgeWord n (diff c.standard.day (n * 256) x) := by
  unfold State.readWord
  rw [hc]
  simp only [(State.psuActive_iff hc).mpr ⟨fitted, threaded⟩, if_true, valid] <;> rfl

theorem State.judgeWord_near {s : State} {n : Nat} {j : Int} (near : j.natAbs ≤ 384) : s.judgeWord n j = s.adoptWord n := if_pos near

theorem State.judgeWord_far {s : State} {n : Nat} {j : Int} (far : 384 < j.natAbs) :
    s.judgeWord n j =
      match s.psu.candidate with
      | none => s.takeCandidate j
      | some k => if (j - k.jump).natAbs ≤ 256 then (s.adoptWord n).latch .codeJump else s.takeCandidate j :=
  if_neg (by omega)

theorem State.own_of_noSource {s : State} (lost : s.psu.source = .noSource) : s.own = none := by
  unfold State.own
  rw [lost]

end Sys2Proof.Machine

open Sys2Proof Sys2Proof.Machine

/-- Settles O14: the pulse taken in an active unit, by the motion count and the source; and in any other. -/
theorem tachPulseMovesThePosition : Obligations.TachPulseMovesThePosition := by
  intro forward s legal
  refine ⟨fun c hc fitted threaded source => ⟨s.tach forward, rfl, ?_⟩, fun inactive => ?_⟩
  · rw [State.tach_active forward hc fitted threaded source]
    generalize (if forward = true then (1 : Int) else -1) = d
    have range : 1 ≤ c.tpf := by
      have all := legal.2.2.2
      rw [hc] at all
      simp only [Option.all_some, Bool.and_eq_true, decide_eq_true_eq] at all
      exact all.1.1.1.1.1
    have own {t : State} (config : t.dhd.config = some c) (held : t.psu.source ≠ .noSource)
        (anchor : t.psu.anchor = (s.psu.pulsed c d).anchor) (p : t.psu.p = (s.psu.pulsed c d).p) :
        t.own = some (wrapDay c.standard.day ((s.psu.anchor : Int) * 256 + Int.tdiv ((s.psu.p + d) * 256) c.tpf)) := by
      rw [State.own_of_source config held, anchor, p, Psu.pulsed_position range]
    have gone (none : s.psu.candidate = none) : ageCandidate c.tpf s.psu.candidate = .none := by rw [none]; rfl
    have aged (k : Candidate) (held : s.psu.candidate = some k) : ageCandidate c.tpf s.psu.candidate =
        if 3 * c.tpf / 2 < k.motion + 1 then none else some { jump := k.jump, motion := k.motion + 1 } := by rw [held]; rfl
    by_cases part : s.psu.motion + 1 < c.tpf
    · rw [if_pos part, if_pos part]
      exact ⟨own hc (by simpa using source) rfl rfl, by simp, by simp, rfl, gone, aged, fun _ => ⟨by simp, by simp, rfl⟩,
        fun whole => absurd part (by omega)⟩
    · rw [if_neg part, if_neg part]
      obtain ⟨tach, few, many⟩ := ({ s with psu := { s.psu.pulsed c d with motion := 0 } } : State).frameOfMotion_cases c.dropoutWindow
      by_cases code : s.psu.source = .code
      · have stays : ¬ (s.psu.motion + 1 < c.tpf ∨ s.psu.source = .tach) := by simp [part, code]
        by_cases lost : c.dropoutWindow ≤ s.psu.missing
        · rw [many (by simpa using code) (by simpa using lost)]
          exact ⟨own hc (by nofun) rfl rfl, by simp [State.loseCode], by simp [State.loseCode], rfl, gone, aged, fun h => absurd h stays,
            fun _ _ => ⟨fun short => absurd lost (by omega), fun _ => ⟨rfl, rfl, rfl⟩⟩⟩
        · rw [few (by simpa using code) (by simpa using lost)]
          exact ⟨own hc (by simpa using source) rfl rfl, by simp, by simp, rfl, gone, aged, fun h => absurd h stays,
            fun _ _ => ⟨fun _ => ⟨by simpa using code, by simp, rfl⟩, fun long => absurd long lost⟩⟩
      · rw [tach (by simpa using code)]
        exact ⟨own hc (by simpa using source) rfl rfl, by simp, by simp, rfl, gone, aged, fun _ => ⟨by simp, by simp, rfl⟩,
          fun _ is => absurd is code⟩
  · exact congrArg Host.Outcome.next (State.tach_inactive forward inactive)

/-- Settles O15: the word judged by the own position, its jump and the candidate. -/
theorem codeWordIsJudged : Obligations.CodeWordIsJudged := by
  intro label s
  refine ⟨fun c n hc fitted threaded valid => ⟨fun lost => ?_, fun x own => ⟨fun near => ?_, fun far none => ?_,
    fun k far held confirms => ?_, fun k far held differs => ?_⟩⟩, fun c hc invalid => ?_, fun inactive => ?_⟩ <;>
    refine congrArg Host.Outcome.next ?_
  · rw [State.readWord_active hc fitted threaded valid, State.own_of_noSource lost]
    rfl
  · rw [State.readWord_active hc fitted threaded valid, own]
    exact State.judgeWord_near near
  · rw [State.readWord_active hc fitted threaded valid, own]
    dsimp only
    rw [State.judgeWord_far far, none]
    rfl
  · rw [State.readWord_active hc fitted threaded valid, own]
    dsimp only
    rw [State.judgeWord_far far, held]
    exact if_pos confirms
  · rw [State.readWord_active hc fitted threaded valid, own]
    dsimp only
    rw [State.judgeWord_far far, held]
    exact if_neg (by omega)
  · unfold State.readWord
    rw [hc]
    simp only [invalid]
    exact ite_self s
  · unfold State.readWord
    split
    · rename_i c hc
      refine if_neg ?_
      obtain none | bare | gone := inactive
      · exact nomatch none.symm.trans hc
      · simp [State.psuActive, bare]
      · simp [State.psuActive, gone]
    · rfl

end

section
/-! SUPPORT. Who gives a field start: the timer that runs in each state of the Field Timing Unit, a REF pulse in time and one past a
timer's end, and the pulses counted in FALLBACK (R41 to R46). -/

namespace Sys2Proof.Machine

/-! ### The stages of a field start (R42) -/

/-- A field start begun: the field marked, the speed measured, peers and messages aged (R19, R30, R42, R54 to R56). -/
def State.fieldBegun (p : Parity) (m : Nat) (x : FieldSource) (pins : FieldPins) (s : State) : State :=
  (s.markField p m x pins).measureSpeed.agePeers.ageTxq

/-- The blocks' work at a field start done, the announcement yet to come (R42, R48). -/
def State.fieldWorked (p : Parity) (m : Nat) (x : FieldSource) (pins : FieldPins) (s : State) : State :=
  (s.fieldBegun p m x pins).transportFieldStart.chaseFieldStart.recordCueTransition

theorem State.fieldStart_eq (p : Parity) (m : Nat) (x : FieldSource) (pins : FieldPins) (s : State) :
    s.fieldStart p m x pins = (s.fieldWorked p m x pins).announceField := rfl

theorem State.fieldBegun_shape (p : Parity) (m : Nat) (x : FieldSource) (pins : FieldPins) (s : State) :
    (s.markField p m x pins).measureSpeed.agePeers.LineShape (s.fieldBegun p m x pins) := (State.ageTxq_shape _).1

theorem State.fieldWorked_course (p : Parity) (m : Nat) (x : FieldSource) (pins : FieldPins) (s : State) :
    (s.fieldBegun p m x pins).Course (s.fieldWorked p m x pins) := State.fieldCourse _

theorem State.announceField_eq (s : State) : s.announceField = { s with lif := s.announceField.lif } :=
  (State.txAnnounce_shape s.announcement s).1

theorem State.Course.pins {s t : State} (w : s.Course t) : t.pins = s.pins :=
  w.keeps (P := fun u => u.pins = s.pins) (fun u v change same => by
    cases change with
    | touch h => exact (State.Work.pins (.single h)).trans same
    | cul => exact same
    | ten => exact same) rfl

theorem State.LineShape.pins {s t : State} (h : s.LineShape t) : t.pins = s.pins := by
  obtain h | h := h <;> exact (congrArg State.pins h).trans rfl

/-- A field start leaves the lines as they stand but for those read at it (R42). -/
theorem State.fieldStart_pins (p : Parity) (m : Nat) (x : FieldSource) (pins : FieldPins) (s : State) :
    (s.fieldStart p m x pins).pins = { s.pins with field := pins } := by
  rw [State.fieldStart_eq, State.announceField_eq]
  exact (s.fieldWorked_course p m x pins).pins.trans (s.fieldBegun_shape p m x pins).pins

/-- The Field Timing Unit and the lines after a field start (R42). -/
theorem State.fieldStart_given (p : Parity) (m : Nat) (x : FieldSource) (pins : FieldPins) (s : State) :
    (s.fieldStart p m x pins).ftu =
        { s.ftu with
          now := max s.ftu.now m, counter := s.ftu.counter + 1, parity := p, firstGiven := true,
          lastFieldStart := some (m, x), accepted := none } ∧
      (s.fieldStart p m x pins).pins = { s.pins with field := pins } :=
  ⟨(s.fieldStart_clock p m x pins).1, s.fieldStart_pins p m x pins⟩

/-! ### The timer that runs (R43, R44, R46) -/

theorem State.timerDue_of_locked {s : State} {c : Settings} (hc : s.dhd.config = some c) (locked : s.ftu.refState = .lockedRef) :
    s.timerDue = some (s.ftu.watchEnd c.standard) := by
  simp [State.timerDue, State.standard_of_config hc, locked]

theorem State.timerDue_of_running {s : State} {c : Settings} (hc : s.dhd.config = some c) (fallen : s.ftu.refState = .fallback)
    (idle : s.ftu.returnStep = .idle) (running : s.ftu.timerRunning = true) : s.timerDue = some (s.ftu.timerEnd c.standard) := by
  simp [State.timerDue, State.standard_of_config hc, fallen, idle, running]

theorem State.timerDue_of_skipped {s : State} {c : Settings} (hc : s.dhd.config = some c) (fallen : s.ftu.refState = .fallback)
    (skipped : s.ftu.returnStep = .skipped) : s.timerDue = some (s.ftu.returnEnd c.standard) := by
  simp [State.timerDue, State.standard_of_config hc, fallen, skipped]

theorem Ftu.returnEnd_of_pulse {f : Ftu} {pulse : Nat} (std : Standard) (last : f.lastPulse = some pulse) :
    f.returnEnd std = pulse + std.watchPeriod := by
  simp [Ftu.returnEnd, last]

/-! ### A REF pulse -/

/-- A REF pulse past the end of the timer that runs comes after that timer's field start. -/
theorem execRefPulse_late {s : State} {ends : Nat} (p : Parity) {moment : Nat} (pins : FieldPins) (due : s.timerDue = some ends)
    (late : ends < max s.ftu.now moment) : exec (.refPulse p moment pins) s = exec (.refPulse p moment pins) s.timerFires := by
  show Host.Outcome.next _ = Host.Outcome.next _
  rw [State.passTo_late due late]

theorem State.timerFires_counter {s : State} {ends : Nat} (due : s.timerDue = some ends) :
    s.timerFires.ftu.counter = s.ftu.counter + 1 := by
  obtain ⟨std, -, ⟨-, -, fires⟩ | ⟨-, -, -, -, fires⟩ | ⟨-, -, -, fires⟩⟩ := State.timer_cases due <;> rw [fires]
  · exact congrArg Ftu.counter (State.fieldStart_clock _ _ _ _ ((s.setFtu s.ftu.fallen).latch .refLost)).1
  · exact congrArg Ftu.counter (State.fieldStart_clock _ _ _ _ s).1
  · exact congrArg Ftu.counter
      (State.fieldStart_clock _ _ _ _ (s.setFtu { s.ftu with timerRunning := true, returnStep := .idle, goodPulses := 0 })).1

/-- A REF pulse that no timer ends before is taken at its moment. -/
theorem execRefPulse_inTime {s : State} (p : Parity) {moment : Nat} (pins : FieldPins) (h : s.onTime moment) :
    exec (.refPulse p moment pins) s = .next ((s.reachMoment moment).refPulseTaken p pins) := by
  show Host.Outcome.next _ = Host.Outcome.next _
  rw [State.passTo_inTime s h]

theorem State.onTime_of_due {s : State} {ends moment : Nat} (due : s.timerDue = some ends) (h : max s.ftu.now moment ≤ ends) :
    s.onTime moment := by
  unfold State.onTime
  rw [due]
  simpa using h

/-- A REF pulse before CONFIGURE or in LOCKED_REF is a field start (R41, R43). -/
theorem State.refPulseTaken_given (p : Parity) (pins : FieldPins) {s : State}
    (h : s.dhd.config = none ∨ s.ftu.refState = .lockedRef) :
    s.refPulseTaken p pins = (s.setFtu { s.ftu with lastPulse := some s.ftu.now }).pulseField p s.ftu.now pins := by
  unfold State.refPulseTaken
  split
  · rename_i ready fallen
    obtain none | locked := h
    · simp [State.standard, none] at ready
    · exact nomatch (fallen.symm.trans locked)
  · rfl

theorem State.refPulseTaken_fallback {s : State} {c : Settings} (p : Parity) (pins : FieldPins) (hc : s.dhd.config = some c)
    (fallen : s.ftu.refState = .fallback) : s.refPulseTaken p pins = s.fallbackPulse c.standard p s.ftu.now pins := by
  unfold State.refPulseTaken
  rw [State.standard_of_config hc, fallen]

/-- A good pulse: 1.25 nominal periods or less after the pulse before it (R45). -/
theorem Ftu.soonAfter_iff (f : Ftu) (std : Standard) (moment : Nat) :
    f.soonAfter std moment = true ↔ ∃ before, f.lastPulse = some before ∧ moment - before ≤ std.watchPeriod := by
  unfold Ftu.soonAfter
  cases f.lastPulse <;> simp

/-- A pulse in FALLBACK with no return under way, by whether it is good, the count, and the half period (R45, R46). -/
theorem State.fallbackPulse_idle {s : State} (std : Standard) (p : Parity) (moment : Nat) (pins : FieldPins)
    (idle : s.ftu.returnStep = .idle) :
    s.fallbackPulse std p moment pins =
      if s.ftu.pulseSeen && s.ftu.soonAfter std moment then
        if 8 ≤ s.ftu.goodPulses then s.returnPulse std p moment pins
        else s.setFtu { s.ftu with goodPulses := s.ftu.goodPulses + 1, lastPulse := some moment }
      else s.setFtu (s.ftu.newRun moment) := by
  unfold State.fallbackPulse
  rw [idle]

theorem State.fallbackPulse_skipped {s : State} (std : Standard) (p : Parity) (moment : Nat) (pins : FieldPins)
    (skipped : s.ftu.returnStep = .skipped) :
    s.fallbackPulse std p moment pins = (s.setFtu (s.ftu.returned moment)).pulseField p moment pins := by
  unfold State.fallbackPulse
  rw [skipped]

/-- In FALLBACK with no return under way a pulse up to the timer's end is in time. -/
theorem State.onTime_of_fallback {s : State} {c : Settings} {moment : Nat} (hc : s.dhd.config = some c)
    (fallen : s.ftu.refState = .fallback) (idle : s.ftu.returnStep = .idle)
    (h : s.ftu.timerRunning = true → max s.ftu.now moment ≤ s.ftu.lastStart + c.standard.period) : s.onTime moment := by
  by_cases running : s.ftu.timerRunning = true
  · exact State.onTime_of_due (State.timerDue_of_running hc fallen idle running) (h running)
  · unfold State.onTime
    have none : s.timerDue = none := by simp [State.timerDue, State.standard_of_config hc, fallen, idle, running]
    rw [none]
    rfl

end Sys2Proof.Machine

open Sys2Proof Sys2Proof.Machine

/-- Settles O17: each way a field start is given, and the timers that end before a late pulse. -/
theorem fieldStartsAreGiven : Obligations.FieldStartsAreGiven := by
  refine ⟨?_, ?_, ?_, ?_, fun moment pins s => ⟨?_, ?_, ?_⟩, ?_⟩
  · intro p moment pins s comes way
    have inTime : s.onTime moment := by
      cases hc : s.dhd.config with
      | none =>
        unfold State.onTime
        rw [State.timerDue_of_unconfigured hc]
        rfl
      | some c =>
        obtain none | ⟨locked, before⟩ := way
        · exact nomatch (none.symm.trans hc)
        · exact State.onTime_of_due (State.timerDue_of_locked hc locked) (before c hc)
    have taken := State.refPulseTaken_given p pins (s := s.reachMoment moment) (way.imp id (·.1))
    obtain ⟨ftu, lines⟩ := State.fieldStart_given p comes .pulse pins
      ((s.reachMoment moment).setFtu { (s.reachMoment moment).ftu with lastPulse := some comes })
    refine ⟨_, (execRefPulse_inTime p pins inTime).trans (congrArg _ taken), ftu.trans ?_, lines⟩
    simp [State.reachMoment, comes]
  · intro moment pins s c hc locked ends
    refine ⟨fun due => ?_, fun early => ?_⟩
    · obtain ⟨ftu, lines⟩ := State.fieldStart_given s.ftu.parity.opposite ends .internal pins ((s.setFtu s.ftu.fallen).latch .refLost)
      refine ⟨_, execRefWatchExpires_of_due pins hc locked due, ftu, lines, ?_⟩
      exact (holdsEvent_kept .fields nofun .refLost).fieldStart _ _ _ _ _ (State.holdsEvent_latch ..)
    · show execRefWatchExpires moment pins s = _
      have early : ¬ s.ftu.watchEnd c.standard ≤ max s.ftu.now moment := Nat.not_le.mpr early
      unfold execRefWatchExpires
      rw [State.standard_of_config hc]
      exact if_neg fun due => early due.2
  · intro pins s c hc running ends
    obtain ⟨ftu, lines⟩ := State.fieldStart_given s.ftu.parity.opposite ends .internal pins s
    exact ⟨_, execInternalFieldStart_of_running pins hc running, ftu, lines⟩
  · intro pins s c pulse hc fallen skipped last ends
    have same : s.ftu.returnEnd c.standard = ends := Ftu.returnEnd_of_pulse _ last
    obtain ⟨ftu, lines⟩ := State.fieldStart_given s.ftu.parity.opposite ends .internal pins
      (s.setFtu { s.ftu with timerRunning := true, returnStep := .idle, goodPulses := 0 })
    refine ⟨_, (execReturnWaitExpires_of_skipped pins hc fallen skipped).trans ?_, ftu, lines⟩
    unfold State.returnWaitRunsOut
    rw [same]
    rfl
  · intro h
    show execRefWatchExpires moment pins s = _
    unfold execRefWatchExpires
    obtain none | unlocked := h
    · simp [State.standard, none]
    · simp [unlocked]
      split <;> rfl
  · intro h
    show execInternalFieldStart pins s = _
    unfold execInternalFieldStart
    obtain none | stopped := h
    · simp [State.standard, none]
    · simp [stopped]
      split <;> rfl
  · intro h
    show execReturnWaitExpires pins s = _
    unfold execReturnWaitExpires
    obtain none | idle := h
    · simp [State.standard, none]
    · simp [idle]
      split <;> rfl
  · intro p moment pins s c hc comes pulse follows
    refine ⟨fun locked late => ?_, fun fallen idle running late => ?_, fun before fallen skipped last late => ?_⟩
    · have due := State.timerDue_of_locked hc locked
      have fires := execRefWatchExpires_of_due s.pins.field hc locked (m := comes) (le_trans late.le (le_max_right ..))
      exact ⟨_, fires.trans (congrArg _ (State.timerFires_of_locked hc locked).symm), State.timerFires_counter due,
        execRefPulse_late p pins due late⟩
    · have due := State.timerDue_of_running hc fallen idle running
      have fires := execInternalFieldStart_of_running s.pins.field hc running
      exact ⟨_, fires.trans (congrArg _ (State.timerFires_of_running hc fallen idle).symm), State.timerFires_counter due,
        execRefPulse_late p pins due late⟩
    · have due := State.timerDue_of_skipped hc fallen skipped
      have fires := execReturnWaitExpires_of_skipped s.pins.field hc fallen skipped
      rw [Ftu.returnEnd_of_pulse _ last] at due
      exact ⟨_, fires.trans (congrArg _ (State.timerFires_of_skipped hc fallen skipped).symm), State.timerFires_counter due,
        execRefPulse_late p pins due late⟩

/-- Settles O18: a pulse in FALLBACK by the run it belongs to, the count, the half period and the return step. -/
theorem fallbackPulsesAreCounted : Obligations.FallbackPulsesAreCounted := by
  intro p given pins s c hc fallen moment inTime good returned
  have taken (idle : s.ftu.returnStep = .idle) (early : inTime) : exec (.refPulse p given pins) s = .next
      (if s.ftu.pulseSeen && s.ftu.soonAfter c.standard moment then
        if 8 ≤ s.ftu.goodPulses then (s.reachMoment given).returnPulse c.standard p moment pins
        else s.setFtu { s.ftu with now := moment, goodPulses := s.ftu.goodPulses + 1, lastPulse := some moment }
      else s.setFtu { s.ftu with now := moment, goodPulses := 0, lastPulse := some moment, pulseSeen := true }) := by
    rw [execRefPulse_inTime p pins (State.onTime_of_fallback hc fallen idle early),
      State.refPulseTaken_fallback p pins (s := s.reachMoment given) hc fallen,
      State.fallbackPulse_idle (s := s.reachMoment given) _ _ _ _ idle]
    rfl
  have goes (idle : s.ftu.returnStep = .idle) (early : inTime) (seen : s.ftu.pulseSeen = true) (isGood : good)
      (many : 8 ≤ s.ftu.goodPulses) :
      exec (.refPulse p given pins) s = .next ((s.reachMoment given).returnPulse c.standard p moment pins) := by
    rw [taken idle early, seen, (Ftu.soonAfter_iff ..).mpr isGood]
    simp [many]
  have returns : (∃ f : Ftu, exec (.refPulse p given pins) s = .next (((s.reachMoment given).setFtu f).pulseField p moment pins) ∧
      f = (s.reachMoment given).ftu.returned moment) →
      ∃ t : State, exec (.refPulse p given pins) s = .next t ∧ t.ftu = returned ∧ t.pins = { s.pins with field := pins } := by
    rintro ⟨f, e, rfl⟩
    obtain ⟨ftu, lines⟩ := State.fieldStart_given p moment .pulse pins
      ((s.reachMoment given).setFtu ((s.reachMoment given).ftu.returned moment))
    refine ⟨_, e, ftu.trans ?_, lines⟩
    simp [returned, Ftu.returned, State.reachMoment, moment]
  refine ⟨fun run idle early => ?_, fun seen isGood idle early few => ?_, fun seen isGood idle early many late => returns ⟨_, ?_, rfl⟩,
    fun seen isGood idle early many soon => ?_, fun isGood skipped => returns ⟨_, ?_, rfl⟩⟩
  · have notGood : (s.ftu.pulseSeen && s.ftu.soonAfter c.standard moment) = false := by
      obtain first | apart := run
      · simp [first]
      · simp [Bool.eq_false_iff.mpr fun soon => apart ((Ftu.soonAfter_iff ..).mp soon)]
    rw [taken idle early, notGood]
    rfl
  · rw [taken idle early, seen, (Ftu.soonAfter_iff ..).mpr isGood]
    simp [Nat.not_le.mpr few]
    rfl
  · rw [goes idle early seen isGood many]
    exact congrArg _ (if_pos late)
  · rw [goes idle early seen isGood many]
    exact congrArg _ (if_neg (Nat.not_le.mpr soon))
  · obtain ⟨before, last, near⟩ := isGood
    have due := State.timerDue_of_skipped hc fallen skipped
    rw [Ftu.returnEnd_of_pulse _ last] at due
    rw [execRefPulse_inTime p pins (State.onTime_of_due due (by omega)),
      State.refPulseTaken_fallback p pins (s := s.reachMoment given) hc fallen,
      State.fallbackPulse_skipped (s := s.reachMoment given) _ _ _ _ skipped]
    rfl

end

section
/-! SUPPORT. The field start a command gives, and what it measures, ages and makes the views of (R19, R42, R54 to R56). -/

namespace Sys2Proof.Machine

/-! ### The field start of a command (R41 to R46) -/

/-- What stands where a command gives its field start: all as it stood but for the field timing, and REF_LOST latched where the watch
ran out. The counter counts from where it stood. -/
structure State.Timed (s r : State) : Prop where
  counter : r.ftu.counter = s.ftu.counter
  frame : (s.setFtu r.ftu).MessageFrame r
  lif : r.lif = s.lif
  lpt : r.lpt = s.lpt
  sense : r.dhd.sense = s.dhd.sense

theorem State.timed_of_setFtu {s : State} {f : Ftu} (h : f.counter = s.ftu.counter) : s.Timed (s.setFtu f) :=
  ⟨h, .refl _, rfl, rfl, rfl⟩

theorem State.timed_of_fallen (s : State) : s.Timed ((s.setFtu s.ftu.fallen).latch .refLost) :=
  ⟨rfl, State.latch_frame .., rfl, rfl, rfl⟩

/-- A REF pulse gives a field start, or leaves the field counter (R41, R45, R46). -/
theorem State.refPulseTaken_cases (p : Parity) (pins : FieldPins) (s : State) :
    (∃ f m, f.counter = s.ftu.counter ∧ s.refPulseTaken p pins = (s.setFtu f).fieldStart p m .pulse pins) ∨
      (s.refPulseTaken p pins).ftu.counter = s.ftu.counter := by
  unfold State.refPulseTaken
  split
  · unfold State.fallbackPulse
    split
    · exact .inl ⟨s.ftu.returned s.ftu.now, s.ftu.now, rfl, rfl⟩
    · split
      · split
        · unfold State.returnPulse
          split
          · exact .inl ⟨s.ftu.returned s.ftu.now, s.ftu.now, rfl, rfl⟩
          · exact .inr rfl
        · exact .inr rfl
      · exact .inr rfl
  · exact .inl ⟨{ s.ftu with lastPulse := some s.ftu.now }, s.ftu.now, rfl, rfl⟩

/-- A command that counts one field has given one field start (R42). -/
theorem exec_givesField {i : Instr} {pins : FieldPins} {s t : State} (gives : givesFieldStart i pins s) (e : exec i s = .next t)
    (counted : t.ftu.counter = s.ftu.counter + 1) : ∃ r p m x, s.Timed r ∧ t = r.fieldStart p m x pins := by
  have notSame : t.ftu.counter ≠ s.ftu.counter := by
    rw [counted]
    bv_omega
  have given {c : Prop} [Decidable c] {r : State} {p : Parity} {m : Nat} {x : FieldSource} (timed : s.Timed r)
      (e : (if c then Host.Outcome.next (r.fieldStart p m x pins) else .next s : Host.Outcome State Fault Refusal) = .next t) :
      ∃ r p m x, s.Timed r ∧ t = r.fieldStart p m x pins := by
    split at e <;> cases e
    · exact ⟨r, p, m, x, timed, rfl⟩
    · exact absurd rfl notSame
  obtain ⟨p, moment, rfl, inTime⟩ | ⟨moment, rfl⟩ | rfl | rfl := gives
  · rw [execRefPulse_inTime p pins inTime] at e
    cases e
    obtain ⟨f, m, counter, taken⟩ | same := State.refPulseTaken_cases p pins (s.reachMoment moment)
    · exact ⟨s.setFtu f, p, m, .pulse, State.timed_of_setFtu counter, taken⟩
    · exact absurd same notSame
  · change execRefWatchExpires moment pins s = _ at e
    unfold execRefWatchExpires at e
    split at e
    · exact given (r := (s.setFtu s.ftu.fallen).latch .refLost) s.timed_of_fallen e
    · cases e
      exact absurd rfl notSame
  · change execInternalFieldStart pins s = _ at e
    unfold execInternalFieldStart at e
    split at e
    · exact given (r := s) (State.timed_of_setFtu (f := s.ftu) rfl) e
    · cases e
      exact absurd rfl notSame
  · change execReturnWaitExpires pins s = _ at e
    unfold execReturnWaitExpires at e
    split at e
    · exact given (r := s.setFtu { s.ftu with timerRunning := true, returnStep := .idle, goodPulses := 0 }) (State.timed_of_setFtu rfl) e
    · cases e
      exact absurd rfl notSame

/-! ### The stages, by what they leave -/

theorem State.Change.by_leaves {α : Type} (f : State → α) {s t : State} (h : s.Change t)
    (touch : ∀ a b : State, a.Touch b → f b = f a) (cul : ∀ (a : State) (c : Cul), f { a with cul := c } = f a := by intros; rfl)
    (ten : ∀ (a : State) (x : Ten), f (a.setTen x) = f a := by intros; rfl) : f t = f s := by
  cases h with
  | touch h => exact touch _ _ h
  | cul c => exact cul s c
  | ten x => exact ten s x

/-- What every single change of the field's work leaves, the whole of it leaves. -/
theorem State.Course.leaves {α : Type} (f : State → α) {s t : State} (w : s.Course t)
    (touch : ∀ a b : State, a.Touch b → f b = f a) (cul : ∀ (a : State) (c : Cul), f { a with cul := c } = f a := by intros; rfl)
    (ten : ∀ (a : State) (x : Ten), f (a.setTen x) = f a := by intros; rfl) : f t = f s :=
  w.keeps (P := fun u => f u = f s) (fun _ _ change same => (change.by_leaves f touch cul ten).trans same) rfl

/-- The work of a field start leaves the position, the peers, the identity and configuration, the zones, the stored chase record and
the port's buffer and mask. -/
theorem State.Course.stands {s t : State} (w : s.Course t) :
    t.psu = s.psu ∧ t.ptb = s.ptb ∧ t.dhd.config = s.dhd.config ∧ t.rcc.zones = s.rcc.zones ∧ t.csv.record = s.csv.record ∧
      t.lpt = { s.lpt with rxQueue := t.lpt.rxQueue } ∧ t.ftu = s.ftu ∧ t.dhd.stn = s.dhd.stn :=
  ⟨w.leaves State.psu fun _ _ h => h.psu, w.leaves State.ptb fun _ _ h => h.by.ptb,
    w.leaves (fun u => u.dhd.config) fun _ _ h => h.by.config, w.leaves (fun u => u.rcc.zones) fun _ _ h => h.zones,
    w.leaves (fun u => u.csv.record) fun _ _ h => h.chaseRecord,
    w.keeps (P := fun u => u.lpt = { s.lpt with rxQueue := u.lpt.rxQueue }) (fun a b change same => by
      have kept : b.lpt = { a.lpt with rxQueue := b.lpt.rxQueue } := by
        cases change with
        | touch h => exact h.by.lpt
        | cul => rfl
        | ten => rfl
      rw [kept, same]) rfl,
    w.leaves State.ftu fun _ _ h => h.by.ftu, w.leaves (fun u => u.dhd.stn) fun _ _ h => h.by.stn⟩

/-- What a field start measures and ages stands to its end: nothing after it touches the position, the peers or the lists. -/
theorem State.fieldStart_stands (p : Parity) (m : Nat) (x : FieldSource) (pins : FieldPins) (s : State) :
    let begun := (s.markField p m x pins).measureSpeed.agePeers
    let t := s.fieldStart p m x pins
    t.psu = begun.psu ∧ t.ptb = begun.ptb ∧ t.dhd.config = s.dhd.config ∧ t.rcc.zones = s.rcc.zones ∧
      t.csv.record = s.csv.record ∧ t.lpt = { s.lpt with rxQueue := t.lpt.rxQueue } ∧ t.dhd.stn = s.dhd.stn := by
  intro begun t
  obtain ⟨psu, ptb, config, zones, record, lpt, -, stn⟩ := (s.fieldWorked_course p m x pins).stands
  have announced : t = { s.fieldWorked p m x pins with lif := t.lif } := State.announceField_eq _
  have aged : (s.fieldBegun p m x pins).psu = begun.psu ∧ (s.fieldBegun p m x pins).ptb = begun.ptb ∧
      (s.fieldBegun p m x pins).dhd.config = s.dhd.config ∧ (s.fieldBegun p m x pins).rcc.zones = s.rcc.zones ∧
      (s.fieldBegun p m x pins).csv.record = s.csv.record ∧ (s.fieldBegun p m x pins).lpt = s.lpt ∧
      (s.fieldBegun p m x pins).dhd.stn = s.dhd.stn := by
    obtain h | h := s.fieldBegun_shape p m x pins <;> rw [h] <;> exact ⟨rfl, rfl, rfl, rfl, rfl, rfl, rfl⟩
  obtain ⟨psu', ptb', config', zones', record', lpt', stn'⟩ := aged
  rw [announced]
  exact ⟨psu.trans psu', ptb.trans ptb', config.trans config', zones.trans zones', record.trans record', by rw [← lpt']; exact lpt,
    stn.trans stn'⟩

/-! ### Entries and views (R54 to R56) -/

theorem State.viewsFrom_getElem? (s : State) (es : List (Option PeerEntry)) (n i : Nat) :
    (s.viewsFrom n es)[i]? = es[i]?.map (s.viewOf (n + i)) := by
  induction es generalizing n i with
  | nil => simp [State.viewsFrom]
  | cons e es ih =>
    cases i with
    | zero => rfl
    | succ i =>
      rw [State.viewsFrom, List.getElem?_cons_succ, List.getElem?_cons_succ, ih]
      congr 2
      omega

/-- The entry of a station after the removal of the old ones (R54). -/
theorem State.agePeers_peer (s : State) (n : Nat) : s.agePeers.peer n = removeOld s.ftu.counter (s.peer n) := by
  unfold State.peer State.agePeers
  split
  · rfl
  · simp only [List.getElem?_map]
    cases s.ptb.entries[n - 1]? <;> rfl

/-- The view of a station whose entry has a place (R56). -/
theorem State.agePeers_view (s : State) (n : Nat) (h : n ≠ 0) :
    s.agePeers.view n = s.viewOf n (s.agePeers.peer n) := by
  have place : 1 + (n - 1) = n := by omega
  unfold State.view State.peer State.agePeers
  rw [if_neg h, if_neg h]
  dsimp only
  rw [List.getD_eq_getElem?_getD, State.viewsFrom_getElem?, place]
  cases (s.ptb.entries.map (removeOld s.ftu.counter))[n - 1]? <;> rfl

/-- The view of a held entry of another station that is not FOREIGN (R56). -/
theorem State.viewOf_held {s : State} {n : Nat} {e : PeerEntry} (other : s.isOwn n = false) (near : e.foreign = false) :
    s.viewOf n (some e) =
      { presence := if e.age s.ftu.counter ≤ 8 then .fresh else .stale, projection := s.projectionOf e s.ftu.counter,
        speed := e.content.speed, transport := e.content.transport, chaseSummary := e.content.chaseSummary,
        master := e.content.master, refLost := announcedRefLost e.content } := by
  simp [State.viewOf, other, near]

/-- No station, the own number or a FOREIGN one is absent (R56). -/
theorem State.viewOf_absent {s : State} {n : Nat} {o : Option PeerEntry}
    (h : o = none ∨ s.isOwn n = true ∨ ∃ e, o = some e ∧ e.foreign = true) : s.viewOf n o = PeerView.absent := by
  cases o with
  | none => rfl
  | some e =>
    obtain none | own | ⟨x, same, foreign⟩ := h
    · contradiction
    · simp [State.viewOf, own]
    · cases same
      simp [State.viewOf, foreign]

/-- No projection without a standard, a position or a fresh entry (R55). -/
theorem State.projectionOf_none {s : State} {e : PeerEntry} {n : Count32}
    (h : s.dhd.config = none ∨ e.content.position = none ∨ 8 < e.age n) : s.projectionOf e n = none := by
  unfold State.projectionOf
  split
  · rename_i std pos ready placed
    obtain none | none | old := h
    · simp [State.standard, none] at ready
    · exact nomatch (placed.symm.trans none)
    · exact if_neg fun fresh => absurd fresh.1 (by omega)
  · rfl

theorem State.projectionOf_some {s : State} {e : PeerEntry} {n : Count32} {c : Settings} {x : Nat} (hc : s.dhd.config = some c)
    (placed : e.content.position = some x) (fresh : e.age n ≤ 8) (near : e.foreign = false) :
    s.projectionOf e n = some (project c.standard.day x e.content.speed (e.age n)) := by
  unfold State.projectionOf
  rw [State.standard_of_config hc, placed]
  exact if_pos ⟨fresh, near⟩

/-- The unit as a field start measures it (R19). -/
def Psu.measured (config : Option Settings) (u : Psu) : Psu :=
  { u with
    fieldTotal := 0,
    speed := match config with
      | some c => clampInt (-32767) 32767 (Int.tdiv (u.fieldTotal * 2048) c.tpf)
      | none => 0 }

end Sys2Proof.Machine

open Sys2Proof Sys2Proof.Machine

/-- Settles O19: what is measured and aged stands to the end of the field start. -/
theorem fieldStartMeasuresAndAges : Obligations.FieldStartMeasuresAndAges := by
  intro i pins s t gives e counted
  obtain ⟨r, p, m, x, timed, rfl⟩ := exec_givesField gives e counted
  obtain ⟨psu, ptb, config, zones, record, lpt, stn⟩ := State.fieldStart_stands p m x pins r
  have count : (r.markField p m x pins).measureSpeed.ftu.counter = s.ftu.counter + 1 := congrArg (· + 1) timed.counter
  have own (n : Nat) : (r.markField p m x pins).measureSpeed.isOwn n = s.isOwn n := State.isOwn_eq timed.frame.stn n
  have standard : (r.markField p m x pins).measureSpeed.standard = s.standard := congrArg (·.map (·.standard)) timed.frame.config
  have was (n : Nat) : (r.markField p m x pins).measureSpeed.peer n = s.peer n := by
    unfold State.peer
    exact congrArg (fun b : Ptb => if n = 0 then none else (b.entries[n - 1]?).join) timed.frame.ptb
  have peer (n : Nat) : (r.fieldStart p m x pins).peer n = removeOld (s.ftu.counter + 1) (s.peer n) := by
    rw [← was n, ← count, ← State.agePeers_peer]
    unfold State.peer
    rw [ptb]
  have view (n : Nat) (h : n ≠ 0) : (r.fieldStart p m x pins).view n =
      (r.markField p m x pins).measureSpeed.viewOf n ((r.fieldStart p m x pins).peer n) := by
    have same : (r.fieldStart p m x pins).peer n = (r.markField p m x pins).measureSpeed.agePeers.peer n := by
      unfold State.peer
      rw [ptb]
    rw [same, ← State.agePeers_view _ n h]
    unfold State.view
    rw [ptb]
  have counter : (r.fieldStart p m x pins).ftu.counter = (r.markField p m x pins).measureSpeed.ftu.counter :=
    counted.trans count.symm
  refine ⟨?_, fun n none => by rw [peer, none]; rfl, fun n e held => by rw [peer, held]; rfl, fun n e held near other => ?_,
    fun n gone => ?_, ?_, ?_, ?_, ?_, ?_⟩
  · rw [psu]
    exact congrArg₂ Psu.measured timed.frame.config timed.frame.psu
  · have place : n ≠ 0 := by
      rintro rfl
      simp [State.peer] at held
    rw [view n place, held, State.viewOf_held ((own n).trans other) near, counter]
    refine ⟨rfl, rfl, rfl, rfl, rfl, rfl, fun none => ?_, fun c pos hc placed fresh => ?_⟩
    · exact State.projectionOf_none (none.imp_left timed.frame.config.trans)
    · exact State.projectionOf_some (timed.frame.config.trans hc) placed fresh near
  · by_cases place : n = 0
    · subst place
      exact ⟨rfl, rfl⟩
    · rw [view n place, State.viewOf_absent (gone.imp_right (·.imp_left (own n).trans))]
      exact ⟨rfl, rfl⟩
  · exact config.trans timed.frame.config
  · exact zones.trans (congrArg Rcc.zones timed.frame.rcc)
  · exact record.trans (congrArg Csv.record timed.frame.csv)
  · rw [lpt, timed.lpt]
  · rw [State.fieldStart_pins]
    exact congrArg (fun q : Pins => { q with field := pins }) timed.frame.pins

end

section
/-! SUPPORT. The transmit queue at a field start: the messages a field older, and the announcement handed over last (R28, R30, R48). -/

namespace Sys2Proof.Machine

theorem State.LineShape.events {s t : State} (h : s.LineShape t) {e : Event} (k : s.holdsEvent e = true) : t.holdsEvent e = true := by
  obtain h | h := h <;> rw [h]
  · exact k
  · exact State.holdsEvent_stays _ e _ k

/-- The messages that wait once a field has aged them (R30). -/
theorem State.ageTxq_waiting (s : State) :
    s.ageTxq.lif.waiting = (s.lif.waiting.map TxMsg.older).filter fun m => m.isAnn || m.age < 16 := by
  unfold State.ageTxq
  dsimp only
  split <;> rfl

theorem State.ageTxq_sending (s : State) :
    s.ageTxq.lif.sending = s.lif.sending.map fun x => { x with msg := x.msg.older } := by
  unfold State.ageTxq
  dsimp only
  split <;> rfl

theorem State.ageTxq_heldAnn (s : State) : s.ageTxq.lif.heldAnn = s.lif.heldAnn := by
  unfold State.ageTxq
  dsimp only
  split <;> rfl

/-- A message that reaches age 16 while it waits is dropped (R30). -/
theorem State.ageTxq_drops {s : State} {m : TxMsg} (waits : m ∈ s.lif.waiting) (other : m.isAnn = false) (old : 15 ≤ m.age) :
    s.ageTxq.holdsEvent .txDropped = true := by
  have gone : m.older ∈ s.lif.waiting.map TxMsg.older := List.mem_map_of_mem waits
  have aged : (m.older.isAnn || decide (m.older.age < 16)) = false := by
    have age : m.older.age = m.age + 1 := by simp [TxMsg.older, other]
    rw [m.older_isAnn, other, age]
    simp
    omega
  have fewer : ((s.lif.waiting.map TxMsg.older).filter fun m => m.isAnn || m.age < 16).length < (s.lif.waiting.map TxMsg.older).length :=
    List.length_filter_lt_length_iff_exists.mpr ⟨_, gone, by simp [aged]⟩
  unfold State.ageTxq
  dsimp only
  rw [if_pos fewer]
  exact State.holdsEvent_latch ..

/-- A message younger than 15 waits on, a field older (R30). -/
theorem State.ageTxq_stays (s : State) :
    ((s.lif.waiting.filter fun m => m.kind ≠ .announce ∧ m.age < 15).map fun m => { m with age := m.age + 1 }).Sublist
      s.ageTxq.lif.waiting := by
  rw [s.ageTxq_waiting]
  induction s.lif.waiting with
  | nil => exact List.Sublist.slnil
  | cons m q ih =>
    by_cases young : m.kind ≠ .announce ∧ m.age < 15
    · have other : m.isAnn = false := by simpa [TxMsg.isAnn] using young.1
      have older : m.older = { m with age := m.age + 1 } := by simp [TxMsg.older, other]
      rw [List.filter_cons_of_pos (by simpa using young), List.map_cons, List.map_cons, older, List.filter_cons_of_pos (by
        simp
        omega)]
      exact ih.cons_cons _
    · rw [List.filter_cons_of_neg (by simpa using young), List.map_cons, List.filter_cons]
      split
      · exact ih.cons _
      · exact ih

theorem joinBehind_mem {m x : TxMsg} {q : List TxMsg} : x ∈ joinBehind m q ↔ x = m ∨ x ∈ q := by
  rw [(joinBehind_perm m q).mem_iff, List.mem_cons]

/-- The work of a field start changes nothing on the line but what waits, adds reports and notices of age 0 to it, and none at a
listen-only station (R29, R38). -/
theorem State.Course.line {s t : State} (w : s.Course t) :
    t.lif = { s.lif with waiting := t.lif.waiting } ∧ s.lif.waiting.Sublist t.lif.waiting ∧
      (∀ m ∈ t.lif.waiting, m ∈ s.lif.waiting ∨ (m.isAnn = false ∧ m.age = 0)) ∧
      (s.lif.listenOnly = true → t.lif.waiting = s.lif.waiting) := by
  induction w with
  | refl => exact ⟨rfl, List.Sublist.refl _, fun m h => .inl h, fun _ => rfl⟩
  | @tail u v _ change ih =>
    obtain ⟨flags, part, added, silent⟩ := ih
    have same (h : v.lif = u.lif) : v.lif = { s.lif with waiting := v.lif.waiting } ∧ s.lif.waiting.Sublist v.lif.waiting ∧
        (∀ m ∈ v.lif.waiting, m ∈ s.lif.waiting ∨ (m.isAnn = false ∧ m.age = 0)) ∧
        (s.lif.listenOnly = true → v.lif.waiting = s.lif.waiting) := by
      rw [h]
      exact ⟨flags, part, added, silent⟩
    cases change with
    | cul => exact same rfl
    | ten => exact same rfl
    | touch touch =>
      cases touch with
      | tsq | csv | rcc | latch | sense => exact same rfl
      | receive b => exact same (u.rxJoin_lif b)
      | send m kind age =>
        have grown := u.txJoin_by m
        refine ⟨?_, part.trans grown.waiting, fun x mem => ?_, fun only => ?_⟩
        · rw [grown.lif, flags]
        · unfold State.txJoin at mem
          split at mem
          · exact added x mem
          · split at mem
            · exact added x mem
            · obtain rfl | mem := joinBehind_mem.mp mem
              · refine .inr ⟨?_, age⟩
                obtain kind | kind := kind <;> simp [TxMsg.isAnn, kind]
              · exact added x mem
        · have only : u.lif.listenOnly = true := by rw [flags]; exact only
          unfold State.txJoin
          rw [if_pos only]
          exact silent ‹_›

/-- The announcement takes its place among the messages, and the place of the one that waited (R28). -/
theorem filter_joinBehind {m : TxMsg} (ann : m.isAnn = true) (q : List TxMsg) :
    (joinBehind m (q.filter fun w => !w.isAnn)).filter TxMsg.isAnn = [m] := by
  have others (q : List TxMsg) (h : ∀ x ∈ q, x.isAnn = false) : (joinBehind m q).filter TxMsg.isAnn = [m] := by
    induction q with
    | nil => simp [joinBehind, ann]
    | cons x q ih =>
      have none : q.filter TxMsg.isAnn = [] :=
        List.filter_eq_nil_iff.mpr fun y mem => by simp [h y (List.mem_cons_of_mem x mem)]
      have head := h x List.mem_cons_self
      unfold joinBehind
      split
      · rw [List.filter_cons_of_neg (by simp [head])]
        exact ih fun y mem => h y (List.mem_cons_of_mem x mem)
      · rw [List.filter_cons_of_pos ann, List.filter_cons_of_neg (by simp [head]), none]
  exact others _ fun x mem => by simpa using (List.mem_filter.mp mem).2

/-- The announcement handed over, by what is on the line (R28, R38). -/
theorem State.txAnnounce_cases (m : TxMsg) (s : State) :
    (s.lif.listenOnly = true → s.txAnnounce m = s) ∧
      (s.lif.listenOnly = false → (s.lif.sending.any fun x => x.msg.isAnn) = true →
        s.txAnnounce m = { s with lif := { s.lif with heldAnn := some m } }) ∧
      (s.lif.listenOnly = false → (s.lif.sending.all fun x => !x.msg.isAnn) = true →
        s.txAnnounce m =
          { s with lif := { s.lif with waiting := joinBehind m (s.lif.waiting.filter fun w => !w.isAnn) } }) := by
  unfold State.txAnnounce
  refine ⟨fun only => if_pos only, fun loud ann => ?_, fun loud other => ?_⟩ <;> rw [if_neg (by simp [loud])]
  · split
    · rename_i x sends
      rw [sends] at ann
      exact if_pos ann
    · rename_i none
      simp [none] at ann
  · split
    · rename_i x sends
      rw [sends] at other
      exact if_neg (by simpa using other)
    · rfl

/-- Whatever is on the line, the announcement leaves the other messages and their order. -/
theorem State.txAnnounce_others (m : TxMsg) (s : State) :
    (s.lif.waiting.filter fun w => !w.isAnn).Sublist (s.txAnnounce m).lif.waiting ∧
      (∀ x ∈ (s.txAnnounce m).lif.waiting, x = m ∨ x ∈ s.lif.waiting) ∧ (s.txAnnounce m).lif.sending = s.lif.sending := by
  have joined : (s.lif.waiting.filter fun w => !w.isAnn).Sublist (joinBehind m (s.lif.waiting.filter fun w => !w.isAnn)) ∧
      (∀ x ∈ joinBehind m (s.lif.waiting.filter fun w => !w.isAnn), x = m ∨ x ∈ s.lif.waiting) :=
    ⟨joinBehind_sublist .., fun x mem => (joinBehind_mem.mp mem).imp id List.mem_of_mem_filter⟩
  unfold State.txAnnounce
  split
  · exact ⟨List.filter_sublist, fun x mem => .inr mem, rfl⟩
  · split
    · split
      · exact ⟨List.filter_sublist, fun x mem => .inr mem, rfl⟩
      · exact ⟨joined.1, joined.2, rfl⟩
    · exact ⟨joined.1, joined.2, rfl⟩

end Sys2Proof.Machine

open Sys2Proof Sys2Proof.Machine

/-- Settles O20: the messages aged as the field begins, and the announcement handed over when the blocks' work is done. -/
theorem fieldStartAnnounces : Obligations.FieldStartAnnounces := by
  intro i pins s t gives e counted composed
  obtain ⟨r, p, m, x, timed, rfl⟩ := exec_givesField gives e counted
  let begun := r.fieldBegun p m x pins
  let worked := r.fieldWorked p m x pins
  have lif : (r.markField p m x pins).measureSpeed.agePeers.lif = s.lif := timed.lif
  obtain ⟨flags, part, added, silent⟩ := (r.fieldWorked_course p m x pins).line
  have listens : worked.lif.listenOnly = s.lif.listenOnly := by
    rw [show worked.lif = _ from flags, ← lif]
    exact (State.ageTxq_shape _).2.1
  have sends : worked.lif.sending = s.lif.sending.map fun x => { x with msg := x.msg.older } := by
    rw [show worked.lif = _ from flags, ← lif]
    exact State.ageTxq_sending _
  have held : worked.lif.heldAnn = s.lif.heldAnn := by
    rw [show worked.lif = _ from flags, ← lif]
    exact State.ageTxq_heldAnn _
  have younger := State.ageTxq_stays (r.markField p m x pins).measureSpeed.agePeers
  have waits := State.ageTxq_waiting (r.markField p m x pins).measureSpeed.agePeers
  rw [lif] at younger waits
  have shape : r.fieldStart p m x pins = { worked with lif := (worked.txAnnounce worked.announcement).lif } := State.announceField_eq worked
  have payload : (r.fieldStart p m x pins).announcementPayload = worked.announcementPayload := by rw [shape]; rfl
  have same : worked.announcement = composed := by
    have count : worked.ftu.counter = s.ftu.counter + 1 := by
      rw [← counted, shape]
    simp only [composed, State.announcement, payload, count]
  have announced : (r.fieldStart p m x pins).lif = (worked.txAnnounce composed).lif := by rw [shape, same]
  obtain ⟨only, ann, other⟩ := worked.txAnnounce_cases composed
  obtain ⟨others, from_, sending⟩ := worked.txAnnounce_others composed
  rw [listens, sends] at ann other
  rw [listens] at only
  have kinds : (Option.any (fun x => x.msg.isAnn) (s.lif.sending.map fun x => { x with msg := x.msg.older })) =
      s.lif.sending.any fun x => x.msg.isAnn := by
    cases s.lif.sending <;> simp [TxMsg.older_isAnn]
  have kinds' : (Option.all (fun x => !x.msg.isAnn) (s.lif.sending.map fun x => { x with msg := x.msg.older })) =
      s.lif.sending.all fun x => !x.msg.isAnn := by
    cases s.lif.sending <;> simp [TxMsg.older_isAnn]
  rw [kinds] at ann
  rw [kinds'] at other
  rw [announced]
  refine ⟨fun loud quiet => ?_, fun loud onLine => ?_, fun quiet none noHeld => ?_, rfl, ?_, fun y mem => ?_, ?_, ?_⟩
  · rw [other loud quiet]
    exact filter_joinBehind rfl _
  · rw [ann loud onLine]
  · have begunSilent : (r.fieldBegun p m x pins).lif.listenOnly = true := by
      rw [← quiet, ← listens, show worked.lif = _ from flags]
    rw [only quiet]
    refine ⟨(silent begunSilent).trans (waits.trans ?_), held.trans noHeld⟩
    rw [none]
    rfl
  · have kept := (younger.trans part).filter fun w => !w.isAnn
    rw [List.filter_eq_self.mpr] at kept
    · exact kept.trans others
    · intro y mem
      obtain ⟨z, young, rfl⟩ := List.mem_map.mp mem
      have young := (List.mem_filter.mp young).2
      simp only [ne_eq, Bool.decide_and, decide_not, Bool.and_eq_true] at young
      simpa [TxMsg.isAnn] using young.1
  · obtain rfl | mem := from_ y mem
    · exact .inl rfl
    · obtain mem | ⟨-, new⟩ := added y mem
      · rw [show (r.fieldBegun p m x pins).lif.waiting = _ from waits] at mem
        simpa [TxMsg.isAnn] using (List.mem_filter.mp mem).2
      · exact .inr (by omega)
  · rintro ⟨y, mem, kind, old⟩
    have dropped := State.ageTxq_drops (s := (r.markField p m x pins).measureSpeed.agePeers) (lif ▸ mem)
      (by simpa [TxMsg.isAnn] using kind) old
    have stays : worked.holdsEvent .txDropped = true :=
      (r.fieldWorked_course p m x pins).keeps (P := fun u => u.holdsEvent .txDropped = true)
        (holdsEvent_kept .plain nofun .txDropped).change dropped
    rw [shape]
    exact stays
  · rw [sending, sends]
    cases hs : s.lif.sending with
    | none => rfl
    | some x =>
      simp only [Option.map_some, Option.some.injEq, TxMsg.older, TxMsg.isAnn]
      by_cases k : x.msg.kind = .announce <;> simp [k]

end

section
/-! SUPPORT. How messages leave the line, and what bad frames, dominant runs and twins do to it (R22 to R38). -/

namespace Sys2Proof.Machine

/-! ### The places of a class in the transmit queue (R25, R27) -/

theorem joinBehind_eq_split (m : TxMsg) (q : List TxMsg) :
    joinBehind m q = q.takeWhile (fun x => x.kind.cls ≤ m.kind.cls) ++ m :: q.dropWhile (fun x => x.kind.cls ≤ m.kind.cls) := by
  induction q with
  | nil => rfl
  | cons x q ih =>
    by_cases h : x.kind.cls ≤ m.kind.cls
    · simp [joinBehind, h, ih]
    · simp [joinBehind, h]

theorem joinAhead_eq_split (m : TxMsg) (q : List TxMsg) :
    joinAhead m q = q.takeWhile (fun x => x.kind.cls < m.kind.cls) ++ m :: q.dropWhile (fun x => x.kind.cls < m.kind.cls) := by
  induction q with
  | nil => rfl
  | cons x q ih =>
    by_cases h : x.kind.cls < m.kind.cls
    · simp [joinAhead, h, ih]
    · simp [joinAhead, h]

@[simp] theorem TxMsg.isAnn_iff {m : TxMsg} : m.isAnn = true ↔ m.kind = .announce := by simp [TxMsg.isAnn]

/-! ### The message on the line stops, or is sent (R25, R26, R28) -/

theorem State.cutShort_idle {s : State} (quiet : s.lif.sending = none) : s.cutShort = s := by
  unfold State.cutShort
  rw [quiet]

theorem State.sent_idle {s : State} (quiet : s.lif.sending = none) : s.sent = s := by
  unfold State.sent
  rw [quiet]

theorem State.sent_alone {s : State} (alone : s.lif.heldAnn = none) : s.sent = { s with lif := { s.lif with sending := none } } := by
  cases h : s.lif.sending with
  | none => rw [State.sent_idle h, ← h]
  | some x => simp only [State.sent, h, Lif.placeHeld, alone]

theorem State.sent_placed {s : State} {x : Sending} {new : TxMsg} (onLine : s.lif.sending = some x) (waits : s.lif.heldAnn = some new) :
    s.sent = { s with lif := { s.lif with sending := none, heldAnn := none, waiting := joinBehind new s.lif.waiting } } := by
  simp only [State.sent, onLine, Lif.placeHeld, waits]

section
variable {s : State} {x : Sending} (onLine : s.lif.sending = some x)
include onLine

theorem State.cutShort_leaving (alone : s.lif.heldAnn = none) (leaves : x.leaves = true) :
    s.cutShort = { s with lif := { s.lif with sending := none } } := by
  simp [State.cutShort, onLine, leaves, Lif.placeHeld, alone]

theorem State.cutShort_back (alone : s.lif.heldAnn = none) (stays : x.leaves = false) (young : x.msg.kind = .announce ∨ x.msg.age < 16) :
    s.cutShort = { s with lif := { s.lif with sending := none, waiting := joinAhead x.msg s.lif.waiting } } := by
  by_cases ann : x.msg.kind = .announce
  · simp [State.cutShort, onLine, stays, TxMsg.isAnn, ann, alone]
  · have notOld : ¬ 16 ≤ x.msg.age := by
      rcases young with h | h
      · exact absurd h ann
      · omega
    simp [State.cutShort, onLine, stays, TxMsg.isAnn, ann, notOld]

theorem State.cutShort_tooOld (stays : x.leaves = false) (other : x.msg.kind ≠ .announce) (old : 16 ≤ x.msg.age) :
    s.cutShort = { s.latch .txDropped with lif := { s.lif with sending := none } } := by
  simp [State.cutShort, onLine, stays, TxMsg.isAnn, other, old, State.latch]

/-- The new announcement takes the place of the one on the line, whichever way that goes (R28). -/
theorem State.cutShort_placed {new : TxMsg} (ann : x.msg.kind = .announce) (waits : s.lif.heldAnn = some new) :
    s.cutShort = { s with lif := { s.lif with sending := none, heldAnn := none, waiting := joinBehind new s.lif.waiting } } := by
  cases h : x.leaves <;> simp [State.cutShort, onLine, h, TxMsg.isAnn, ann, waits, Lif.placeHeld]

end

/-- The line is busy before or after the frame on it stops. -/
theorem State.cutShort_lineBusy (s : State) : s.lineBusy.cutShort = s.cutShort.lineBusy := by
  cases h : s.lif.sending with
  | none => rw [State.cutShort_idle (s := s.lineBusy) h, State.cutShort_idle h]
  | some x =>
    cases held : s.lif.heldAnn <;>
      simp only [State.cutShort, State.lineBusy, h, Lif.placeHeld, held] <;> split_ifs <;> rfl

/-! ### Frames the station does not take (R24) -/

theorem Frame.not_taken {f : Frame}
    (bad : checkWord f.coveredBits ≠ f.check ∨ f.cls = 3 ∨ (f.cls = 0 ∧ f.kind ≠ 0) ∨ (f.cls = 1 ∧ f.kind ≠ 1) ∨
      (f.cls = 2 ∧ f.kind ≠ 2 ∧ f.kind ≠ 3) ∨ f.source = 0 ∨ f.source = 31 ∨ f.dest = 31 ∨
      (f.cls = 1 ∧ f.dest ≠ 0) ∨ 32 < f.payload.length) : f.taken = false := by
  have malformed : f.malformed = true → f.taken = false := fun h => by simp [Frame.taken, h]
  rcases bad with h | h | ⟨h, k⟩ | ⟨h, k⟩ | ⟨h, k, k'⟩ | h | h | h | ⟨h, k⟩ | h
  · simp [Frame.taken, Frame.good, h]
  all_goals exact malformed (by simp_all [Frame.malformed, kindBelongs, Frame.tooLong])

theorem State.receiveFrame_bad {f : Frame} {s : State} (steady : s.lif.watch = .steady) (bad : f.taken = false) :
    s.receiveFrame f = { s.latch .lineError with lif := { s.lif with
      watch := if 32 < f.payload.length then .abandoned else .steady, idle := false } } := by
  by_cases long : 32 < f.payload.length
  · simp [State.receiveFrame, steady, bad, State.discardMalformed, Frame.tooLong, long, State.lineBusy, State.latch]
  · simp [State.receiveFrame, steady, bad, State.discardMalformed, Frame.tooLong, long, State.lineBusy, State.latch]

theorem State.receiveFrame_taken {f : Frame} {s : State} (steady : s.lif.watch = .steady) (good : f.taken = true) :
    s.receiveFrame f = s.lineBusy.handFrame f := by
  simp [State.receiveFrame, steady, good]

/-! ### Dominant runs (R22, R23, R34) -/

theorem State.dominantRun_short {run : Nat} (s : State) (some1 : 1 ≤ run) (few : run ≤ 2) : s.dominantRun run = s.lineBusy := by
  rw [State.dominantRun, if_neg (by omega), if_pos few]

theorem State.dominantRun_violation {run : Nat} {s : State} (three : 3 ≤ run) (few : run < 40) :
    s.dominantRun run = if s.lif.watch = .steady then s.violation else s.lineBusy := by
  rw [State.dominantRun, if_neg (by omega), if_neg (by omega), if_neg (by omega)]

theorem State.dominantRun_stop {run : Nat} (s : State) (long : 40 ≤ run) : s.dominantRun run = s.stopRun := by
  rw [State.dominantRun, if_neg (by omega), if_neg (by omega), if_pos long]

theorem State.violation_sending (s : State) : s.violation.lif.sending = none := State.cutShort_sending _

theorem State.violation_quiet {s : State} (quiet : s.lif.sending = none) :
    s.violation = { s.latch .lineError with lif := { s.lif with watch := .abandoned, idle := false } } :=
  congrArg (fun u => (State.latch .lineError u).setWatch .abandoned) (State.cutShort_idle (s := s.lineBusy) quiet)

/-! ### Twins (R35 to R38) -/

/-- A collision cuts the own frame short, an announcement as well (R35). -/
theorem State.becomeDuplicate_cut {s : State} (single : s.lif.duplicate = false) :
    s.becomeDuplicate false = { s.latch .duplicateStation with lif := { s.lif with
      duplicate := true, listenOnly := true, waiting := [], heldAnn := none, sending := none } } := by
  cases h : s.lif.sending <;> simp [State.becomeDuplicate, single, State.latch, h]

theorem State.becomeDuplicate_quiet {s : State} (lets : Bool) (single : s.lif.duplicate = false) (quiet : s.lif.sending = none) :
    s.becomeDuplicate lets = { s.latch .duplicateStation with lif := { s.lif with
      duplicate := true, listenOnly := true, waiting := [], heldAnn := none } } := by
  simp [State.becomeDuplicate, single, State.latch, quiet]

/-- An announcement on the line is let finish (R38). -/
theorem State.becomeDuplicate_lets {s : State} {x : Sending} (single : s.lif.duplicate = false) (onLine : s.lif.sending = some x)
    (ann : x.msg.kind = .announce) :
    s.becomeDuplicate true = { s.latch .duplicateStation with lif := { s.lif with
      duplicate := true, listenOnly := true, waiting := [], heldAnn := none, sending := some { x with leaves := true } } } := by
  simp [State.becomeDuplicate, single, State.latch, onLine, ann]

/-- An announcement of the own number is a twin's (R36). -/
theorem State.handFrame_twin {f : Frame} {s : State} (ann : f.cls = 1) (own : s.isOwn f.source.toNat = true) :
    s.handFrame f = s.becomeDuplicate true := by
  simp [State.handFrame, ann, State.isTwin, own]

theorem State.handFrame_peer {f : Frame} {s : State} (ann : f.cls = 1) (other : s.isOwn f.source.toNat = false) :
    s.handFrame f = s.storeAnnouncement f.source.toNat f.parity f.payload := by
  simp [State.handFrame, ann, State.isTwin, other]

theorem State.exec_collision {s : State} {ending : CollisionEnd} (sends : s.lif.sending.isSome = true) :
    exec (.ownFrameCollision ending) s = .next (s.collide ending) := if_pos sends

theorem State.collide_twin {f : Frame} {s : State} (good : f.taken = true) (own : s.isOwn f.source.toNat = true) :
    s.collide (.frame f) = s.lineBusy.becomeDuplicate false := by
  simp [State.collide, good, State.isTwin, own]

theorem State.collide_stranger {f : Frame} {s : State} (stranger : s.isOwn f.source.toNat = false ∨ f.taken = false) :
    s.collide (.frame f) = s.cutShort.receiveFrame f := by
  rcases stranger with h | h <;> simp [State.collide, State.isTwin, h]

/-! ### Messages one field short of age 16 (R30) -/

end Sys2Proof.Machine

open Sys2Proof Sys2Proof.Machine

/-- Settles O27. -/
theorem badFramesAreDiscarded : Obligations.BadFramesAreDiscarded := by
  refine ⟨fun run s => ⟨?short, ?violation, ?unsteady, ?stop, ?idle, ?held⟩, fun f s steady bad => ?bad⟩
  case short => exact fun some1 few => congrArg Host.Outcome.next (State.dominantRun_short s some1 few)
  case violation =>
    intro three few steady
    refine ⟨s.violation, congrArg Host.Outcome.next ?_, rfl, s.violation_sending, State.holdsEvent_latch .., State.violation_quiet⟩
    rw [State.dominantRun_violation three few, if_pos steady]
  case unsteady =>
    intro three few unsteady
    exact congrArg Host.Outcome.next (by rw [State.dominantRun_violation three few, if_neg unsteady])
  case stop => exact fun long => congrArg Host.Outcome.next (State.dominantRun_stop s long)
  case idle =>
    intro silent quiet
    simp [exec, execLineIdle, silent, quiet]
  case held =>
    rintro (emits | sends)
    · simp [exec, execLineIdle, emits]
    · simp [exec, execLineIdle, Option.isSome_iff_ne_none.mpr sends]
  case bad => exact congrArg Host.Outcome.next (State.receiveFrame_bad steady (Frame.not_taken bad))

/-- Settles O29. -/
theorem messagesLeaveTheLine : Obligations.MessagesLeaveTheLine := by
  intro s
  refine ⟨fun x onLine => ⟨fun alone => ⟨?sent, ?leaving, ?back, ?old⟩, ?placed⟩, ?quiet, ?expires⟩
  case sent => exact congrArg Host.Outcome.next (State.sent_alone alone)
  case leaving => exact fun leaves => congrArg Host.Outcome.next (State.cutShort_leaving onLine alone leaves)
  case back =>
    intro stays young
    rw [← joinAhead_eq_split]
    exact congrArg Host.Outcome.next (State.cutShort_back onLine alone stays young)
  case old => exact fun stays other old => congrArg Host.Outcome.next (State.cutShort_tooOld onLine stays other old)
  case placed =>
    intro new waits ann
    simp only [← joinBehind_eq_split]
    exact ⟨congrArg Host.Outcome.next (State.sent_placed onLine waits), congrArg Host.Outcome.next (State.cutShort_placed onLine ann waits)⟩
  case quiet =>
    exact fun quiet => ⟨congrArg Host.Outcome.next (State.sent_idle quiet), congrArg Host.Outcome.next (State.cutShort_idle quiet)⟩
  case expires =>
    intro kept onLine
    have keeps : s.lif.waiting.filter (fun m => m.isAnn || m.age < 15) = kept :=
      List.filter_congr fun m _ => by rw [Bool.eq_iff_iff]; simp
    have line : (s.lif.sending.map fun x => if x.msg.age = 15 then { x with msg := x.msg.older } else x) = onLine := by
      refine Option.map_congr fun x _ => ?_
      by_cases age : x.msg.age = 15 <;> by_cases ann : x.msg.kind = .announce <;> simp [TxMsg.older, age, ann]
    have gone : (kept.length < s.lif.waiting.length) = (kept ≠ s.lif.waiting) :=
      propext (List.length_filter_lt_length_iff_exists.trans (by simp [kept]))
    refine ⟨fun all => ?_, fun some1 => ?_⟩
    · simp [exec, execTxqMessageExpires, State.expireTxq, keeps, line, all]
    · simp [exec, execTxqMessageExpires, State.expireTxq, keeps, line, gone, some1, State.latch]

/-- Settles O30. -/
theorem twinMakesTheStationDuplicate : Obligations.TwinMakesTheStationDuplicate := by
  intro f s
  refine ⟨fun steady good ann own single => ⟨fun quiet => congrArg Host.Outcome.next ?_, fun x onLine isAnn => congrArg Host.Outcome.next ?_⟩,
    fun sends good own single => ?_, fun sends => ⟨s.cutShort, rfl, fun stranger => ?_, ?_, ?_⟩, fun quiet ending => ?_⟩
  · rw [State.receiveFrame_taken steady good, State.handFrame_twin (s := s.lineBusy) ann own]
    exact State.becomeDuplicate_quiet (s := s.lineBusy) true single quiet
  · rw [State.receiveFrame_taken steady good, State.handFrame_twin (s := s.lineBusy) ann own]
    exact State.becomeDuplicate_lets (s := s.lineBusy) single onLine isAnn
  · rw [State.exec_collision sends, State.collide_twin good own]
    exact congrArg Host.Outcome.next (State.becomeDuplicate_cut (s := s.lineBusy) single)
  · rw [State.exec_collision sends, State.collide_stranger stranger]
    rfl
  · rw [State.exec_collision sends, State.collide, State.violation, State.cutShort_lineBusy]
    rfl
  · rw [State.exec_collision sends, State.collide, State.cutShort_lineBusy]
    rfl
  · simp [exec, execOwnFrameCollision, quiet]

end

section
/-! SUPPORT. The head of the transmit queue on the line, and the levels a receiver reads back (R22, R24 to R26, R31). -/

namespace Sys2Proof

/-! ### Fields and bytes (section 2.9) -/

/-- The first bits of a word, as a number, are its high end. -/
theorem foldl_bits_take {w : Nat} (x : BitVec w) (k : Nat) (within : k ≤ w) :
    ((List.range k).map fun i => x.getMsbD i).foldl (fun n b => 2 * n + b.toNat) 0 = x.toNat / 2 ^ (w - k) := by
  induction k with
  | zero => simp [Nat.div_eq_of_lt x.isLt]
  | succ k ih =>
    have halves : x.toNat / 2 ^ (w - (k + 1)) / 2 = x.toNat / 2 ^ (w - k) := by
      rw [Nat.div_div_eq_div_mul, ← pow_succ, show w - (k + 1) + 1 = w - k by omega]
    have bit : (x.getMsbD k).toNat = x.toNat / 2 ^ (w - (k + 1)) % 2 := by
      rw [BitVec.getMsbD, decide_eq_true (by omega : k < w), Bool.true_and, ← BitVec.testBit_toNat, Nat.testBit_eq_decide_div_mod_eq,
        show w - 1 - k = w - (k + 1) by omega]
      rcases Nat.mod_two_eq_zero_or_one (x.toNat / 2 ^ (w - (k + 1))) with h | h <;> simp [h]
    rw [List.range_succ, List.map_append, List.foldl_append, ih (by omega)]
    simp only [List.map_cons, List.map_nil, List.foldl_cons, List.foldl_nil, bit]
    omega

theorem length_bitsOf {w : Nat} (x : BitVec w) : (bitsOf x).length = w := by simp [bitsOf]

/-- A field in front is read back, and the bits after it are left. -/
theorem takeField_bitsOf {w : Nat} (x : BitVec w) (rest : List Bool) : takeField w (bitsOf x ++ rest) = some (x, rest) := by
  have front : (bitsOf x ++ rest).take w = bitsOf x := List.take_left' (length_bitsOf x)
  have value : (bitsOf x).foldl (fun n b => 2 * n + b.toNat) 0 = x.toNat := by
    rw [bitsOf, foldl_bits_take x w le_rfl]
    simp
  rw [takeField, if_pos (by simp [length_bitsOf]), front, value, BitVec.ofNat_toNat, BitVec.setWidth_eq,
    List.drop_left' (length_bitsOf x)]

theorem takeBytes_flatMap (p : List Byte) (rest : List Bool) : takeBytes p.length (p.flatMap bitsOf ++ rest) = some (p, rest) := by
  induction p with
  | nil => rfl
  | cons b p ih => simp [takeBytes, List.append_assoc, takeField_bitsOf, ih]

theorem bitsOf_parity (p : Parity) : [p.toBit] = bitsOf (BitVec.ofBool p.toBit) := by cases p <;> rfl

/-! ### Whole frames (R22) -/

/-- A receiver reads every field of a frame from its bits. -/
theorem readFrame_bits (f : Frame) (short : f.payload.length < 64) :
    readFrame (false :: (f.coveredBits ++ bitsOf f.check)) = some f := by
  have fits : (BitVec.ofNat 6 f.payload.length).toNat = f.payload.length := by
    rw [BitVec.toNat_ofNat]
    omega
  have last : takeField 16 (bitsOf f.check) = some (f.check, []) := by
    rw [← List.append_nil (bitsOf f.check), takeField_bitsOf]
  have parity : (if BitVec.ofBool f.parity.toBit = 0 then Parity.even else .odd) = f.parity := by
    cases f.parity <;> rfl
  rw [readFrame, Frame.coveredBits, Frame.headerBits, bitsOf_parity]
  simp only [List.append_assoc, takeField_bitsOf, takeBytes_flatMap, fits, last, parity, Option.bind_eq_bind, Option.bind_some, if_true]

/-- The third of three dominant periods stands where a stuff bit belongs (R22, R23). -/
theorem unstuffBits_three_dominant (run : Nat) (a b : List Bool) : unstuffBits run (a ++ [false, false, false] ++ b) = none := by
  match run, a with
  | 0, [] => rfl
  | _ + 1, [] => rfl
  | run, true :: a =>
    have ih := unstuffBits_three_dominant 0 a b
    cases run <;> simpa [unstuffBits] using ih
  | 0, false :: a => simpa [unstuffBits] using unstuffBits_three_dominant 1 a b
  | _ + 1, [false] => rfl
  | _ + 1, false :: true :: a => simpa [unstuffBits] using unstuffBits_three_dominant 0 a b
  | _ + 1, false :: false :: a => rfl

theorem Frame.lineBits_no_three (f : Frame) (a b : List Bool) (three : f.lineBits = a ++ [false, false, false] ++ b) : False := by
  have read := unstuffBits_stuffBits (false :: (f.coveredBits ++ bitsOf f.check)) 0
  rw [Frame.lineBits] at three
  rw [three, unstuffBits_three_dominant] at read
  exact Option.some_ne_none _ read.symm

/-- Two bits are sent as three periods at the most. -/
theorem length_stuffBits_le (bits : List Bool) (run : Nat) :
    2 * (stuffBits run bits).length ≤ 3 * bits.length + if run = 0 then 0 else 1 := by
  induction bits generalizing run with
  | nil => exact Nat.zero_le _
  | cons b bits ih =>
    have after0 := ih 0
    have after1 := ih 1
    cases b <;> by_cases h : run = 0 <;> simp [stuffBits, h] at * <;> omega

theorem Frame.length_coveredBits (f : Frame) : f.coveredBits.length = 29 + 8 * f.payload.length := by
  have bytes : (f.payload.flatMap bitsOf).length = 8 * f.payload.length := by
    induction f.payload with
    | nil => rfl
    | cons b p ih => simp [length_bitsOf, ih]; omega
  simp only [Frame.coveredBits, Frame.headerBits, List.length_append, List.length_cons, List.length_nil, length_bitsOf, bytes]

theorem Frame.checkWord_sealed (f : Frame) : checkWord f.sealed.coveredBits = f.sealed.check := by
  have covered : f.sealed.coveredBits = f.coveredBits := rfl
  rw [covered]
  simp only [Frame.sealed]

end Sys2Proof

namespace Sys2Proof.Machine

/-! ### ROLL directives on the line (R31) -/

theorem TxMsg.rollDelay_of_roll {m : TxMsg} {delay : Byte} {q : List Byte} (directive : m.kind = .directive)
    (roll : m.payload = 0x0B :: delay :: q) : m.rollDelay = some delay.toNat := by
  simp [TxMsg.rollDelay, directive, roll]

theorem TxMsg.rollDelay_none {m : TxMsg} (other : ∀ delay q, m.kind = .directive → m.payload ≠ 0x0B :: delay :: q) : m.rollDelay = none := by
  unfold TxMsg.rollDelay
  split
  next kind payload =>
    refine if_neg fun isRoll => ?_
    subst isRoll
    exact other _ _ kind payload
  next => rfl

/-- A message is a ROLL with a delay, or is none. -/
theorem TxMsg.roll_or_other (m : TxMsg) :
    (∃ delay q, m.kind = .directive ∧ m.payload = 0x0B :: delay :: q) ∨
      ∀ delay q, m.kind = .directive → m.payload ≠ 0x0B :: delay :: q := by
  refine or_iff_not_imp_left.mpr fun none1 delay q directive roll => none1 ⟨delay, q, directive, roll⟩

theorem TxMsg.tooOld_of_roll {m : TxMsg} {delay : Byte} {q : List Byte} (directive : m.kind = .directive)
    (roll : m.payload = 0x0B :: delay :: q) : m.tooOld = decide (delay.toNat ≤ m.age) := by
  rw [TxMsg.tooOld, TxMsg.rollDelay_of_roll directive roll]
  exact decide_eq_decide.mpr Nat.lt_succ_iff

theorem TxMsg.not_tooOld {m : TxMsg} (young : ∀ delay q, m.kind = .directive → m.payload = 0x0B :: delay :: q → m.age < delay.toNat) :
    m.tooOld = false := by
  rcases m.roll_or_other with ⟨delay, q, directive, roll⟩ | other
  · rw [TxMsg.tooOld_of_roll directive roll]
    exact decide_eq_false (Nat.not_le.mpr (young delay q directive roll))
  · rw [TxMsg.tooOld, TxMsg.rollDelay_none other]

theorem TxMsg.linePayload_of_roll {m : TxMsg} {delay : Byte} {q : List Byte} (directive : m.kind = .directive)
    (roll : m.payload = 0x0B :: delay :: q) : m.linePayload = 0x0B :: byteOf (delay.toNat - m.age) :: q := by
  rw [TxMsg.linePayload, TxMsg.rollDelay_of_roll directive roll, roll]
  rfl

theorem TxMsg.linePayload_of_other {m : TxMsg} (other : ∀ delay q, m.kind = .directive → m.payload ≠ 0x0B :: delay :: q) :
    m.linePayload = m.payload := by
  rw [TxMsg.linePayload, TxMsg.rollDelay_none other]

theorem State.frameOfMsg_good (s : State) (m : TxMsg) : checkWord (s.frameOfMsg m).coveredBits = (s.frameOfMsg m).check := by
  unfold State.frameOfMsg
  exact Frame.checkWord_sealed _

/-! ### Beginning the head (R22, R25, R26) -/

theorem exec_transmit_able {s : State} (able : s.lif.canBegin = true) :
    exec .frameTransmitStart s = .next (State.beginHead s.lif.waiting s) := if_pos able

theorem exec_transmit_unable {s : State} (unable : s.lif.canBegin = false) : exec .frameTransmitStart s = .next s :=
  if_neg (by simp [unable])

theorem beginHead_young {m : TxMsg} {q : List TxMsg} {s : State} (young : m.tooOld = false) :
    State.beginHead (m :: q) s = { s with lif := { s.lif with
      waiting := q, sending := some { msg := m, frame := s.frameOfMsg m, leaves := false }, idle := false } } := by
  simp [State.beginHead, young]

theorem beginHead_old {m : TxMsg} {q : List TxMsg} {s : State} (old : m.tooOld = true) :
    State.beginHead (m :: q) s = State.beginHead q (s.latch .txDropped) := by
  simp [State.beginHead, old]

/-- What waits is handed in apart from the state, and replaced. -/
theorem beginHead_waiting (q w : List TxMsg) (s : State) :
    State.beginHead q { s with lif := { s.lif with waiting := w } } = State.beginHead q s := by
  induction q generalizing s with
  | nil => rfl
  | cons m q ih =>
    cases old : m.tooOld
    · simp only [beginHead_young old]
      rfl
    · simp only [beginHead_old old]
      exact ih (s.latch .txDropped)

end Sys2Proof.Machine

open Sys2Proof Sys2Proof.Machine

/-- Settles O28. -/
theorem headOfQueueIsBegun : Obligations.HeadOfQueueIsBegun := by
  refine ⟨fun s m rest waits => ⟨fun idle steady silent heard quiet => ?_, fun busy => ?_⟩, fun f short => ⟨?_, fun a b => ?_, fun longest => ?_⟩⟩
  · have able : s.lif.canBegin = true := by simp [Lif.canBegin, idle, steady, silent, heard, quiet]
    refine ⟨fun young => ⟨s.frameOfMsg m, ?_, rfl, rfl, rfl, rfl, rfl, rfl, s.frameOfMsg_good m, TxMsg.linePayload_of_other,
      fun delay q directive roll => TxMsg.linePayload_of_roll directive roll⟩, fun delay q directive roll tooOld => ?_⟩
    · rw [exec_transmit_able able, waits, beginHead_young (TxMsg.not_tooOld young)]
    · have old : m.tooOld = true := (TxMsg.tooOld_of_roll directive roll).trans (decide_eq_true tooOld)
      rw [exec_transmit_able able, waits, beginHead_old old]
      exact (congrArg Host.Outcome.next (beginHead_waiting rest rest (s.latch .txDropped))).symm.trans
        (exec_transmit_able (s := { s.latch .txDropped with lif := { s.lif with waiting := rest } }) able).symm
  · refine exec_transmit_unable ?_
    rcases busy with h | h | h | h | h
    · simp [Lif.canBegin, h]
    · simp [Lif.canBegin, h]
    · simp [Lif.canBegin, h]
    · simp [Lif.canBegin, h]
    · simp [Lif.canBegin, Option.isSome_iff_ne_none.mpr h]
  · rw [Frame.ofLineBits, Frame.lineBits, unstuffBits_stuffBits, Option.bind_some]
    exact readFrame_bits f short
  · exact Frame.lineBits_no_three f a b
  · have bound := length_stuffBits_le (false :: (f.coveredBits ++ bitsOf f.check)) 0
    simp only [List.length_cons, List.length_append, Frame.length_coveredBits, length_bitsOf, if_true] at bound
    rw [Frame.lineBits]
    omega

end

section
/-! SUPPORT. What is received and stored (R32, R51 to R54, R175). -/

namespace Sys2Proof.Machine

theorem Frame.source_of_taken {f : Frame} (good : f.taken = true) : f.source.toNat ≠ 0 := by
  intro zero
  have : f.source = 0 := BitVec.eq_of_toNat_eq zero
  simp [Frame.taken, Frame.malformed, this] at good

theorem State.isForeign_eq (s : State) (b : Byte) :
    s.isForeign b = match s.dhd.config with
      | some c => b != c.standard.toByte
      | none => false := by
  cases h : s.dhd.config <;> simp [State.isForeign, State.standard, h]

/-! ### Storing an announcement (R51, R52) -/

/-- The entry an announcement with a payload of the layout's length makes (R51, R53). -/
def State.entryOf (s : State) (f : Frame) : PeerEntry :=
  { stamp := s.stamp f.parity, content := announcementFields f.payload,
    foreign := s.isForeign (announcementFields f.payload).standard }

section
variable {f : Frame} {s : State} (good : f.taken = true) (layout : f.payload.length = 14 ∨ f.payload.length = 18)
include good layout

/-- A first or a later announcement is stored whole. -/
theorem State.storeAnnouncement_stored (given : s.ftu.firstGiven = true)
    (first : ∀ old, s.peer f.source.toNat = some old → laterStamp (s.stamp f.parity) old.stamp = true) :
    s.storeAnnouncement f.source.toNat f.parity f.payload =
      { s with ptb := { s.ptb with entries := s.ptb.entries.set (f.source.toNat - 1) (some (s.entryOf f)) } } := by
  cases held : s.peer f.source.toNat with
  | none => simp [State.storeAnnouncement, given, held, State.setPeer, Frame.source_of_taken good, readAnnouncement, layout, State.entryOf]
  | some old =>
    simp [State.storeAnnouncement, given, held, first old held, State.setPeer, Frame.source_of_taken good, readAnnouncement, layout,
      State.entryOf]

end

theorem State.storeAnnouncement_early {f : Frame} {s : State} (early : s.ftu.firstGiven = false) :
    s.storeAnnouncement f.source.toNat f.parity f.payload = s := by
  simp [State.storeAnnouncement, early]

theorem State.storeAnnouncement_notLater {f : Frame} {s : State} {old : PeerEntry} (held : s.peer f.source.toNat = some old)
    (notLater : laterStamp (s.stamp f.parity) old.stamp = false) : s.storeAnnouncement f.source.toNat f.parity f.payload = s := by
  simp [State.storeAnnouncement, held, notLater]

/-! ### Removing an entry (R54) -/

theorem execPeerEntryRemoved_of_held {station : Nat} {e : PeerEntry} {s : State} (number : 1 ≤ station) (held : s.peer station = some e) :
    exec (.peerEntryRemoved station) s =
      if 251 ≤ (s.ftu.counter + 1 - e.stamp).toNat then
        .next { s with ptb := { s.ptb with entries := s.ptb.entries.set (station - 1) none } }
      else .next s := by
  simp [exec, execPeerEntryRemoved, held, PeerEntry.age, State.setPeer, Nat.ne_of_gt number]

/-! ### Reports and notices (R32, R175) -/

theorem State.handFrame_report {f : Frame} {s : State} (cls : f.cls = 2) :
    s.handFrame f = if s.isOwn f.dest.toNat then s.rxJoin (rxBytes f.source f.kind f.seq f.payload) else s := by
  simp [State.handFrame, cls]

theorem State.rxJoin_room {s : State} {bytes : List Byte} (room : s.lpt.rxQueue.length < 8) :
    s.rxJoin bytes = { s with lpt := { s.lpt with rxQueue := s.lpt.rxQueue ++ [{ bytes := bytes, place := 0 }] } } :=
  if_neg (Nat.not_le.mpr room)

theorem State.rxJoin_full {s : State} {bytes : List Byte} (full : 8 ≤ s.lpt.rxQueue.length) : s.rxJoin bytes = s.latch .rxDropped :=
  if_pos full

end Sys2Proof.Machine

open Sys2Proof Sys2Proof.Machine

/-- Settles O31. -/
theorem receivedMessagesAreStored : Obligations.ReceivedMessagesAreStored := by
  refine ⟨fun f s steady good ann other layout => ?_, fun station e s number held => ⟨fun old => ?_, fun young => ?_⟩,
    fun f s steady good cls => ⟨fun own room => ?_, fun own full => ?_, fun stranger => ?_⟩⟩
  · intro stamp content entry stored
    have entryIs : s.lineBusy.entryOf f = entry := congrArg (PeerEntry.mk _ _) (s.isForeign_eq content.standard)
    have arrives : exec (.announcementReceived f) s = .next (s.lineBusy.storeAnnouncement f.source.toNat f.parity f.payload) :=
      congrArg Host.Outcome.next ((State.receiveFrame_taken steady good).trans (State.handFrame_peer (s := s.lineBusy) ann other))
    have stores (given : s.ftu.firstGiven = true)
        (first : ∀ old, s.peer f.source.toNat = some old → laterStamp stamp old.stamp = true) :
        exec (.announcementReceived f) s = .next stored := by
      rw [arrives, State.storeAnnouncement_stored (s := s.lineBusy) good layout given first, entryIs]
      rfl
    refine ⟨fun early => ?_, fun given first => ?_, fun old given held => ⟨fun later inTime => ?_, fun notLater => ?_⟩⟩
    · rw [arrives, State.storeAnnouncement_early (s := s.lineBusy) early]
    · exact stores given fun old held => absurd (held.symm.trans first) (Option.some_ne_none old)
    · refine stores given fun old' held' => ?_
      cases held.symm.trans held'
      exact Bool.and_eq_true_iff.mpr ⟨decide_eq_true later, decide_eq_true inTime⟩
    · have isNotLater : laterStamp stamp old.stamp = false := by
        simp only [laterStamp, Bool.and_eq_false_iff, decide_eq_false_iff_not]
        omega
      rw [arrives, State.storeAnnouncement_notLater (s := s.lineBusy) held isNotLater]
  · rw [execPeerEntryRemoved_of_held number held, if_pos old]
  · rw [execPeerEntryRemoved_of_held number held, if_neg (Nat.not_le.mpr young)]
  all_goals
    refine congrArg Host.Outcome.next ?_
    rw [State.receiveFrame_taken steady good, State.handFrame_report (s := s.lineBusy) cls]
  · rw [if_pos (show s.lineBusy.isOwn _ = true from own), State.rxJoin_room (s := s.lineBusy) room]
    rfl
  · rw [if_pos (show s.lineBusy.isOwn _ = true from own), State.rxJoin_full (s := s.lineBusy) full]
  · exact if_neg (show ¬ s.lineBusy.isOwn _ = true from ne_true_of_eq_false stranger)

end

section
/-! SUPPORT. The accesses of the local port (R172 to R176). -/

namespace Sys2Proof.Machine

/-! ### Writes (R172) -/

theorem Lpt.assemble_room {l : Lpt} (b : Byte) (room : l.buffer.length < 35) : l.assemble b = { l with buffer := l.buffer ++ [b] } :=
  if_neg (Nat.not_le.mpr room)

theorem Lpt.assemble_full {l : Lpt} (b : Byte) (full : 35 ≤ l.buffer.length) : l.assemble b = { l with overrun := true } := if_pos full

theorem Lpt.dropHead_cons {l : Lpt} {m : RxMsg} {rest : List RxMsg} (queue : l.rxQueue = m :: rest) :
    l.dropHead = { l with rxQueue := rest } := by
  rw [Lpt.dropHead, queue]
  rfl

theorem Lpt.dropHead_nil {l : Lpt} (empty : l.rxQueue = []) : l.dropHead = l := by
  rw [Lpt.dropHead, empty, List.drop_nil, ← empty]

theorem State.portWrite_noCommand {b : Byte} (s : State) (notSend : b ≠ 1) (notClear : b ≠ 2) (notNext : b ≠ 3) : s.portWrite 1 b = s := by
  show (match b.toNat with
    | 1 => s.sendCommand
    | 2 => s.setLpt s.lpt.cleared
    | 3 => s.setLpt s.lpt.dropHead
    | _ => s) = s
  split
  next h => exact absurd (BitVec.eq_of_toNat_eq h) notSend
  next h => exact absurd (BitVec.eq_of_toNat_eq h) notClear
  next h => exact absurd (BitVec.eq_of_toNat_eq h) notNext
  next => rfl

/-! ### Reads of the head message (R175) -/

theorem Lpt.readHead_byte {l : Lpt} {m : RxMsg} {rest : List RxMsg} {b : Byte} (queue : l.rxQueue = m :: rest)
    (unread : m.bytes[m.place]? = some b) :
    l.readHead = { l with readData := b, rxQueue := { m with place := m.place + 1 } :: rest } := by
  obtain ⟨inside, rfl⟩ := List.getElem?_eq_some_iff.mp unread
  simp [Lpt.readHead, Lpt.nextByte, RxMsg.advanced, queue, inside]

theorem Lpt.readHead_end {l : Lpt} {m : RxMsg} {rest : List RxMsg} (queue : l.rxQueue = m :: rest) (atEnd : m.bytes.length ≤ m.place) :
    l.readHead = { l with readData := 0 } := by
  simp [Lpt.readHead, Lpt.nextByte, RxMsg.advanced, queue, Nat.not_lt.mpr atEnd]

theorem Lpt.readHead_empty {l : Lpt} (empty : l.rxQueue = []) : l.readHead = { l with readData := 0 } := by
  simp [Lpt.readHead, Lpt.nextByte, empty]

/-! ### The status byte (R176) -/

/-- The byte of the five marks, bit by bit. -/
def statusBits (message taken refused invalid listenOnly : Bool) : Byte :=
  byteOfBool message ||| (byteOfBool taken <<< 1) ||| (byteOfBool refused <<< 2) ||| (byteOfBool invalid <<< 3) |||
    (byteOfBool listenOnly <<< 4)

theorem statusBits_bits (a b c d e : Bool) :
    (statusBits a b c d e).getLsbD 0 = a ∧ (statusBits a b c d e).getLsbD 1 = b ∧ (statusBits a b c d e).getLsbD 2 = c ∧
      (statusBits a b c d e).getLsbD 3 = d ∧ (statusBits a b c d e).getLsbD 4 = e ∧ (statusBits a b c d e).toNat < 32 := by
  revert a b c d e
  decide

theorem State.portStatus_eq (s : State) :
    s.portStatus = statusBits (!s.lpt.rxQueue.isEmpty) (s.lpt.outcome == .taken) (s.lpt.outcome == .refused)
      (s.lpt.outcome == .invalid) s.lif.listenOnly := rfl

/-! ### SEND (R172 to R174) -/

theorem ownNumber_isNone_iff (s : State) : s.ownNumber.isNone = true ↔ s.dhd.stn = 0 ∨ s.dhd.stn = 31 := by
  unfold State.ownNumber
  split_ifs with h
  · exact iff_of_true rfl h
  · exact iff_of_false (by simp) h

theorem rollUnfit_iff (payload : List Byte) :
    rollUnfit payload = true ↔ payload = [0x0B] ∨ ∃ delay rest, payload = 0x0B :: delay :: rest ∧ delay.toNat < 2 := by
  match payload with
  | [] => simp [rollUnfit]
  | [type] => simp [rollUnfit]
  | type :: delay :: rest =>
    simp only [rollUnfit, Bool.and_eq_true, beq_iff_eq, decide_eq_true_eq, List.cons.injEq, reduceCtorEq, and_false, false_or]
    constructor
    · rintro ⟨roll, soon⟩
      exact ⟨delay, rest, ⟨roll, rfl, rfl⟩, soon⟩
    · rintro ⟨_, _, ⟨roll, rfl, rfl⟩, soon⟩
      exact ⟨roll, soon⟩

/-- A directive joins behind the directives, the first class of the queue (R27). -/
theorem joinBehind_directive {m : TxMsg} (directive : m.kind = .directive) (q : List TxMsg) :
    joinBehind m q = q.takeWhile (fun x => x.kind = .directive) ++ m :: q.dropWhile (fun x => x.kind = .directive) := by
  have first : (fun x : TxMsg => decide (x.kind.cls ≤ m.kind.cls)) = fun x => decide (x.kind = .directive) := by
    funext x
    rw [directive]
    cases x.kind <;> rfl
  rw [joinBehind_eq_split, first]

section
variable {s : State} {dest seq len : Byte} {payload : List Byte} (buffer : s.lpt.buffer = dest :: seq :: len :: payload)
include buffer

theorem State.sendsToSelf_iff :
    s.sendsToSelf = true ↔
      payload.head? = some 0x14 ∨ s.isOwn dest.toNat = true ∨ (dest = 0 ∧ s.dhd.stn = 0) ∨ (dest = 0 ∧ s.dhd.stn = 31) := by
  simp only [State.sendsToSelf, Lpt.payload, buffer, byteAt, List.drop_succ_cons, List.drop_zero, List.getD_cons_zero, Bool.or_eq_true,
    beq_iff_eq, Bool.and_eq_true, ownNumber_isNone_iff, and_or_left, or_assoc]

theorem State.sendInvalid_iff (whole : s.lpt.overrun = false) :
    s.sendInvalid = true ↔ 31 ≤ dest.toNat ∨ 32 < len.toNat ∨ payload.length ≠ len.toNat ∨
      (¬ s.sendsToSelf = true ∧ rollUnfit payload = true) := by
  simp [State.sendInvalid, Lpt.payload, buffer, byteAt, whole, or_assoc]

end

theorem exec_send_invalid {s : State} (invalid : s.sendInvalid = true) :
    exec .send s = .next { s with lpt := { s.lpt with outcome := .invalid, unread := true } } :=
  congrArg Host.Outcome.next (if_pos invalid)

theorem exec_send_toSelf {s : State} (valid : ¬ s.sendInvalid = true) (self : s.sendsToSelf = true) : exec .send s = .next s.sendToSelf :=
  congrArg Host.Outcome.next ((if_neg valid).trans (if_pos self))

theorem exec_send_toLine {s : State} (valid : ¬ s.sendInvalid = true) (other : ¬ s.sendsToSelf = true) :
    exec .send s = .next s.sendToLine :=
  congrArg Host.Outcome.next ((if_neg valid).trans (if_neg other))

theorem State.sendToLine_refused {s : State} (refused : s.lif.listenOnly = true ∨ 7 ≤ s.lif.nonAnnouncements) :
    s.sendToLine = { s with lpt := { s.lpt with outcome := .refused, unread := true } } :=
  if_pos (by simpa [Lif.full] using refused)

theorem State.sendToLine_queued {s : State} {dest seq len : Byte} {payload : List Byte}
    (buffer : s.lpt.buffer = dest :: seq :: len :: payload) (heard : s.lif.listenOnly = false) (room : s.lif.nonAnnouncements < 7) :
    s.sendToLine = (s.txDirective (dest.setWidth 5) seq payload).setLpt { s.lpt with outcome := .taken, unread := true, buffer := [] } := by
  simp [State.sendToLine, heard, Lif.full, Nat.not_le.mpr room, Lpt.withOutcome, Lpt.payload, buffer, byteAt]

end Sys2Proof.Machine

open Sys2Proof Sys2Proof.Machine

/-- Settles O59. -/
theorem portAccessesActOnThePort : Obligations.PortAccessesActOnThePort := by
  refine ⟨fun b s => ⟨fun room => ?_, fun full => ?_, rfl, fun m rest queue => ?_, fun empty => ?_, rfl, rfl, fun n1 n2 n3 => ?_⟩,
    fun s => ⟨fun m rest b queue unread => ?_, fun m rest queue atEnd => ?_, fun empty => ?_, ⟨s.portStatus, rfl, ?_⟩, ?_⟩⟩
  · exact congrArg (fun l => Host.Outcome.next (s.setLpt l)) (Lpt.assemble_room b room)
  · exact congrArg (fun l => Host.Outcome.next (s.setLpt l)) (Lpt.assemble_full b full)
  · exact congrArg (fun l => Host.Outcome.next (s.setLpt l)) (Lpt.dropHead_cons queue)
  · exact congrArg (fun l => Host.Outcome.next (s.setLpt l)) (Lpt.dropHead_nil empty)
  · exact congrArg Host.Outcome.next (State.portWrite_noCommand s n1 n2 n3)
  · exact congrArg (fun l => Host.Outcome.next (s.setLpt l)) (Lpt.readHead_byte queue unread)
  · exact congrArg (fun l => Host.Outcome.next (s.setLpt l)) (Lpt.readHead_end queue atEnd)
  · exact congrArg (fun l => Host.Outcome.next (s.setLpt l)) (Lpt.readHead_empty empty)
  · rw [State.portStatus_eq]
    obtain ⟨message, taken, refused, invalid, listenOnly, bound⟩ := statusBits_bits (!s.lpt.rxQueue.isEmpty)
      (s.lpt.outcome == .taken) (s.lpt.outcome == .refused) (s.lpt.outcome == .invalid) s.lif.listenOnly
    rw [message, taken, refused, invalid, listenOnly]
    exact ⟨by simp, beq_iff_eq, beq_iff_eq, beq_iff_eq, Iff.rfl, bound⟩
  · simp [State.intLine]

/-- Settles O60. -/
theorem sendHandsOverTheBuffer : Obligations.SendHandsOverTheBuffer := by
  intro s
  refine ⟨fun broken => exec_send_invalid ?_, fun dest seq len payload whole buffer => ?_⟩
  · rcases broken with h | h <;> simp [State.sendInvalid, h]
  intro self unfit taken
  have selfIff : s.sendsToSelf = true ↔ self := State.sendsToSelf_iff buffer
  have unfitIff : rollUnfit payload = true ↔ unfit := rollUnfit_iff payload
  have invalidIff := State.sendInvalid_iff buffer whole
  rw [selfIff, unfitIff] at invalidIff
  refine ⟨fun invalid => exec_send_invalid (invalidIff.mpr invalid), fun destOk short lengthOk => ?_⟩
  have valid (fits : ¬ (¬ self ∧ unfit)) : ¬ s.sendInvalid = true := by
    rw [invalidIff]
    rintro (h | h | h | h)
    · omega
    · omega
    · exact h lengthOk
    · exact fits h
  refine ⟨fun other fit => ⟨fun refused => ?_, fun heard room => ?_⟩, fun i own row => ?_⟩
  · rw [exec_send_toLine (valid fun h => fit h.2) (selfIff.not.mpr other), State.sendToLine_refused refused]
  · rw [exec_send_toLine (valid fun h => fit h.2) (selfIff.not.mpr other), State.sendToLine_queued buffer heard room, State.txDirective,
      joinBehind_directive rfl]
    rfl
  · rw [exec_send_toSelf (valid fun h => h.1 own) (selfIff.mpr own), exec_of_directive row, State.sendToSelf, Lpt.payload, buffer]
    exact congrArg (fun l => Host.Outcome.next (State.handDirective (.port seq) payload (s.setLpt l))) rfl

end

section
/-! SUPPORT. The way of a directive to its owner, and the directives of the transition engine and of the zone table (R65, R151 to R165). -/

namespace Sys2Proof.Machine

/-! ### A directive that a station obeys (R64 to R70) -/

/-- A directive that passes its parameter check comes to its owner, and the owner's result is reported. -/
theorem exec_obeyed {i : Instr} {via : Via} {type : Byte} {q : List Byte} {n : Nat} {d : Directive} {s : State}
    (row : directiveOf i = some (via, type :: q)) (hn : n = q.length + 1) (hobeys : s.obeys via n = true)
    (known : typeUnknown (type :: q) = false) (tape : needsTransport (type :: q) = true → s.dhd.transportFitted = true)
    (channel : needsChannel (type :: q) = true → s.dhd.channelFitted = true)
    (parsed : parseParams s.ownNumber s.standard (Via.fromLine via) (type :: q) = .ok d) :
    exec i s = .next (((s.heard via).runOwner d via).1.reply (Via.issuer via) (Via.seq via) type ((s.heard via).runOwner d via).2) := by
  rw [exec_of_directive row, s.takeDirective_of_obeys via type q n hn hobeys known tape channel, parsed]

/-- A directive that fails its parameter check is only reported. -/
theorem exec_unobeyed {i : Instr} {via : Via} {type : Byte} {q : List Byte} {n : Nat} {c : Code} {s : State}
    (row : directiveOf i = some (via, type :: q)) (hn : n = q.length + 1) (hobeys : s.obeys via n = true)
    (known : typeUnknown (type :: q) = false) (tape : needsTransport (type :: q) = true → s.dhd.transportFitted = true)
    (channel : needsChannel (type :: q) = true → s.dhd.channelFitted = true)
    (parsed : parseParams s.ownNumber s.standard (Via.fromLine via) (type :: q) = .bad c) :
    exec i s = .next ((s.heard via).report via type c []) := by
  rw [exec_of_directive row, s.takeDirective_of_obeys via type q n hn hobeys known tape channel, parsed]

theorem State.standard_of_obeys {s : State} {via : Via} {n : Nat} (h : s.obeys via n = true) : ∃ std, s.standard = some std := by
  obtain ⟨c, hc⟩ := State.config_of_obeys h
  exact ⟨c.standard, standard_of_config hc⟩

/-! ### PAUSE, RESUME and ABORT TRANSITION (R164, R165) -/

section Transition
variable {via : Via} {s : State}

/-- A directive of the transition channel with no parameters comes to the engine. -/
theorem exec_channel_bare {i : Instr} {type : Byte} {d : Directive} (hobeys : s.obeysChannel via 1 = true)
    (row : directiveOf i = some (via, [type])) (known : typeUnknown [type] = false) (noTape : needsTransport [type] = false)
    (parsed : ∀ own std fromLine, parseParams own (some std) fromLine [type] = .ok d) :
    exec i s = .next (((s.heard via).runOwner d via).1.reply (Via.issuer via) (Via.seq via) type ((s.heard via).runOwner d via).2) := by
  obtain ⟨hobey, fitted⟩ := (s.obeysChannel_iff via _).mp hobeys
  obtain ⟨std, hstd⟩ := State.standard_of_obeys hobey
  exact exec_obeyed row rfl hobey known (by simp [noTape]) (fun _ => fitted) (hstd ▸ parsed _ std _)

theorem exec_pause (hobeys : s.obeysChannel via 1 = true) :
    exec (.pause via []) s =
      .next ((s.heard via).pauseTransition.1.reply (Via.issuer via) (Via.seq via) 0x11 (s.heard via).pauseTransition.2) :=
  exec_channel_bare (d := .pause) hobeys rfl rfl rfl fun _ _ _ => rfl

theorem exec_resume (hobeys : s.obeysChannel via 1 = true) :
    exec (.resume via []) s =
      .next ((s.heard via).resumeTransition.1.reply (Via.issuer via) (Via.seq via) 0x12 (s.heard via).resumeTransition.2) :=
  exec_channel_bare (d := .resume) hobeys rfl rfl rfl fun _ _ _ => rfl

theorem exec_take (hobeys : s.obeysChannel via 1 = true) :
    exec (.take via []) s = .next ((s.heard via).takeTransition.1.report via 0x10 ((s.heard via).takeTransition.2.getD .done) []) :=
  exec_channel_bare (d := .take) hobeys rfl rfl rfl fun _ _ _ => rfl

theorem exec_abortTransition {i : Instr} {option : Byte} {complete : Bool} (hobeys : s.obeysChannel via 3 = true)
    (row : directiveOf i = some (via, [0x13, 2, option]))
    (parsed : ∀ own std fromLine, parseParams own (some std) fromLine [0x13, 2, option] = .ok (.abortTransition complete)) :
    exec i s = .next (((s.heard via).abortTransition complete).report via 0x13 .done []) := by
  obtain ⟨hobey, fitted⟩ := (s.obeysChannel_iff via _).mp hobeys
  obtain ⟨std, hstd⟩ := State.standard_of_obeys hobey
  exact exec_obeyed (d := .abortTransition complete) row rfl hobey rfl (by simp [needsTransport, byteAt]) (fun _ => fitted)
    (hstd ▸ parsed _ std _)

theorem exec_abortTransitionComplete (hobeys : s.obeysChannel via 3 = true) :
    exec (.abortTransitionComplete via []) s = .next (((s.heard via).abortTransition true).report via 0x13 .done []) :=
  exec_abortTransition hobeys rfl fun _ _ _ => rfl

theorem exec_abortTransitionRevert (hobeys : s.obeysChannel via 3 = true) :
    exec (.abortTransitionRevert via []) s = .next (((s.heard via).abortTransition false).report via 0x13 .done []) :=
  exec_abortTransition hobeys rfl fun _ _ _ => rfl

theorem State.abortTransition_offAir (complete : Bool) (rests : s.ten.state = .atRest ∨ s.ten.state = .preset) :
    s.abortTransition complete = s := by
  unfold State.abortTransition
  rcases rests with h | h <;> rw [h] <;> rfl

theorem State.abortTransition_onAir {p : Preset} (complete : Bool)
    (onAir : s.ten.state = .running ∨ s.ten.state = .paused ∨ s.ten.state = .lever) (preset : s.ten.preset = some p) :
    s.abortTransition complete = s.setTen (if complete then s.ten.complete p s.lineCount else s.ten.revert s.lineCount) := by
  have air : s.ten.state.onAir = true := by
    rcases onAir with h | h | h <;> rw [h] <;> rfl
  unfold State.abortTransition
  rw [air, preset]
  cases complete <;> rfl

/-! ### SET_TRANSITION and TAKE (R156, R158, R160, R162) -/

theorem State.setTransition_offAir {p : Preset} (rests : s.ten.state = .atRest ∨ s.ten.state = .preset) :
    s.setTransition p = (s.setTen { s.ten with preset := some p, bSel := p.toSource, state := .preset }, replyOf .done) := by
  unfold State.setTransition
  rcases rests with h | h <;> rw [h] <;> rfl

theorem State.setTransition_onAir {p : Preset} (notAtRest : s.ten.state ≠ .atRest) (notPreset : s.ten.state ≠ .preset) :
    s.setTransition p = (s, replyOf .transitionActive) := by
  have air : s.ten.state.onAir = true := by
    cases h : s.ten.state <;> first | rfl | contradiction
  exact if_pos air

theorem State.takeTransition_preset {p : Preset} (state : s.ten.state = .preset) (preset : s.ten.preset = some p) :
    s.takeTransition = (s.beginTransition p, none) := by
  unfold State.takeTransition
  rw [state, preset]

theorem State.takeTransition_atRest (rests : s.ten.state = .atRest) : s.takeTransition = (s, some .noPreset) := by
  unfold State.takeTransition
  rw [rests]

theorem State.takeTransition_onAir (onAir : s.ten.state = .running ∨ s.ten.state = .paused ∨ s.ten.state = .lever) :
    s.takeTransition = (s, some .transitionActive) := by
  unfold State.takeTransition
  rcases onAir with h | h | h <;> rw [h]

theorem State.beginTransition_short {p : Preset} (short : p.kind = .cut ∨ p.duration = 0) :
    s.beginTransition p = s.setTen (({ s.ten with state := .running, k := 0, fresh := true } : Ten).complete p s.lineCount) := by
  refine if_pos ?_
  rcases short with h | h <;> simp [Preset.fields, h]

theorem Preset.fields_of_long {p : Preset} (kind : p.kind ≠ .cut) : p.fields = 2 * p.duration := if_neg kind

theorem State.beginTransition_long {p : Preset} (kind : p.kind ≠ .cut) (long : 1 ≤ p.duration) :
    s.beginTransition p =
      s.setTen (({ s.ten with state := .running, k := 0, fresh := true } : Ten).withProgress p s.lineCount 0 (p.audioAt 0)) := by
  have length : p.fields ≠ 0 := by
    rw [Preset.fields_of_long kind]
    omega
  have start : p.progressAt 0 = 0 := by
    rw [Preset.progressAt, if_neg (by omega), Nat.zero_mul, Nat.zero_div]
  simp only [State.beginTransition, length, if_false, start]

theorem patternEdge_zero (w : Pattern) (lines y : Nat) : lineEdge w lines 0 y = (0, 0) := by
  cases w <;> simp [lineEdge, lineShows, patternEdge, edgeCount, centreEdge]

/-- At progress 0 every edge pair is (0, 0) (R161). -/
theorem edgeTable_zero (w : Option Pattern) (lines : Nat) : ∀ e ∈ edgeTable w lines 0, e = (0, 0) := by
  intro e he
  cases w with
  | none => exact (List.mem_replicate.mp he).2
  | some w =>
    obtain ⟨y, -, rfl⟩ := List.mem_map.mp he
    exact patternEdge_zero w lines y

theorem levels_zero (k : TransitionKind) : levelK k 0 = 0 ∧ levelD k 0 = 0 := by cases k <;> exact ⟨rfl, rfl⟩

/-- The parameter check of SET_TRANSITION with every field in range (R68, R156). -/
theorem parseParams_setTransition (own : Option (BitVec 5)) (std : Standard) (fromLine : Bool)
    {source kind d1 d0 pattern split lever : Byte} {k : TransitionKind} {pat : Option Pattern} (hsource : source.toNat ≤ 7)
    (hduration : d1.toNat * 256 + d0.toNat ≤ 999) (hlow : -60 ≤ split.toInt) (hhigh : split.toInt ≤ 60) (hlever : lever.toNat ≤ 1)
    (kinds : (kind = 0 ∧ k = .cut ∧ pat = none) ∨ (kind = 1 ∧ k = .mix ∧ pat = none) ∨ (kind = 2 ∧ k = .dip ∧ pat = none) ∨
      (kind = 3 ∧ k = .wipe ∧ pattern.toNat ≤ 4 ∧
        pat = [Pattern.leftRight, .rightLeft, .topDown, .splitH, .boxOut][pattern.toNat]?)) :
    parseParams own (some std) fromLine [0x0E, source, kind, d1, d0, pattern, split, lever] =
      .ok (.setTransition
        { toSource := source.toNat, kind := k, duration := d1.toNat * 256 + d0.toNat, pattern := pat, split := split.toInt,
          leverAllowed := lever == 1 }) := by
  have read : readKind [0x0E, source, kind, d1, d0, pattern, split, lever] = some (k, pat) := by
    rcases kinds with ⟨rfl, rfl, rfl⟩ | ⟨rfl, rfl, rfl⟩ | ⟨rfl, rfl, rfl⟩ | ⟨rfl, rfl, few, rfl⟩
    · rfl
    · rfl
    · rfl
    · have same : byteAt [0x0E, source, 3, d1, d0, pattern, split, lever] 5 = pattern := rfl
      simp only [readKind, same]
      generalize pattern.toNat = n at few
      match n, few with
      | 0, _ | 1, _ | 2, _ | 3, _ | 4, _ => rfl
  have inRange : ¬ (7 < source.toNat ∨ 999 < d1.toNat * 256 + d0.toNat ∨ split.toInt < -60 ∨ 60 < split.toInt ∨ 1 < lever.toNat) := by
    omega
  calc parseParams own (some std) fromLine [0x0E, source, kind, d1, d0, pattern, split, lever]
      = parseSetTransition [0x0E, source, kind, d1, d0, pattern, split, lever] := rfl
    _ = _ := by
      unfold parseSetTransition
      rw [read]
      exact if_neg inRange

end Transition

end Sys2Proof.Machine

open Sys2Proof Sys2Proof.Machine

/-- Settles O56. -/
theorem pauseResumeAndAbort : Obligations.PauseResumeAndAbort := by
  intro via s
  have ten : (s.heard via).ten = s.ten := s.heard_ten via
  refine ⟨fun hobeys => ⟨?_, ?_⟩, fun hobeys => ⟨fun p onAir preset => ?_, fun rests => ?_⟩⟩
  · rw [exec_pause hobeys]
    cases h : s.ten.state <;> simp only [State.pauseTransition, ten, h] <;> rfl
  · rw [exec_resume hobeys]
    cases h : s.ten.state <;> simp only [State.resumeTransition, ten, h] <;> rfl
  · rw [← ten] at onAir preset
    rw [exec_abortTransitionComplete hobeys, exec_abortTransitionRevert hobeys, State.abortTransition_onAir true onAir preset,
      State.abortTransition_onAir false onAir preset, ten]
    cases via <;> exact ⟨rfl, rfl⟩
  · rw [← ten] at rests
    rw [exec_abortTransitionComplete hobeys, exec_abortTransitionRevert hobeys, State.abortTransition_offAir true rests,
      State.abortTransition_offAir false rests]
    exact ⟨rfl, rfl⟩

/-- Settles O54. -/
theorem transitionIsSetAndTaken : Obligations.TransitionIsSetAndTaken := by
  intro via s
  have ten : (s.heard via).ten = s.ten := s.heard_ten via
  have lines : (s.heard via).lineCount = s.lineCount := by cases via <;> rfl
  refine ⟨fun source kind d1 d0 pattern split lever k pat hobeys hsource hduration hlow hhigh hlever kinds => ?_, fun hobeys =>
    ⟨fun p state preset => ⟨fun short => ?_, fun kind long => ?_⟩, fun rests => ?_, fun onAir => ?_⟩⟩
  · intro given
    obtain ⟨hobey, fitted⟩ := (s.obeysChannel_iff via _).mp hobeys
    obtain ⟨std, hstd⟩ := State.standard_of_obeys hobey
    have parsed := parseParams_setTransition s.ownNumber std (Via.fromLine via) hsource hduration hlow hhigh hlever kinds
    rw [← hstd] at parsed
    rw [exec_obeyed (i := given) rfl rfl hobey rfl (by simp [needsTransport, byteAt]) (fun _ => fitted) parsed]
    simp only [State.runOwner]
    refine ⟨fun rests => ?_, fun notAtRest notPreset => ?_⟩
    · rw [State.setTransition_offAir (ten.symm ▸ rests), ten]
      rfl
    · rw [State.setTransition_onAir (ten.symm ▸ notAtRest) (ten.symm ▸ notPreset)]
      rfl
  · refine ⟨(s.heard via).beginTransition p, ?_, ?_⟩
    · rw [exec_take hobeys, State.takeTransition_preset (ten.symm ▸ state) (ten.symm ▸ preset)]
      rfl
    · rw [State.beginTransition_short short, ten, lines]
      exact ⟨rfl, rfl, rfl, rfl, rfl, rfl, rfl, rfl, rfl, rfl, rfl, rfl⟩
  · refine ⟨(s.heard via).beginTransition p, ?_, ?_⟩
    · rw [exec_take hobeys, State.takeTransition_preset (ten.symm ▸ state) (ten.symm ▸ preset)]
      rfl
    · rw [State.beginTransition_long kind long, ten, lines]
      obtain ⟨levelK, levelD⟩ := levels_zero p.kind
      refine ⟨rfl, rfl, rfl, rfl, preset, rfl, rfl, levelK, levelD, ?_, rfl, rfl, edgeTable_zero p.pattern _⟩
      show p.audioAt 0 = _
      simp [Preset.audioAt, Preset.fields_of_long kind]
  · rw [exec_take hobeys, State.takeTransition_atRest (ten.symm ▸ rests)]
    rfl
  · rw [exec_take hobeys, State.takeTransition_onAir (ten.symm ▸ onAir)]
    rfl

end

section
/-! SUPPORT. The protect zone table's directives (R151 to R153). -/

namespace Sys2Proof.Machine

/-! ### Zones (R151, R152) -/

theorem Zone.overlaps_of_common {a b : Zone} {x : Nat} (ha : a.start ≤ x ∧ x < a.stop) (hb : b.start ≤ x ∧ x < b.stop) :
    a.overlaps b = true := by
  simp only [Zone.overlaps, Bool.and_eq_true, decide_eq_true_eq]
  omega

theorem Zone.not_overlaps {a b : Zone} (apart : b.stop ≤ a.start ∨ a.stop ≤ b.start) : a.overlaps b = false := by
  simp only [Zone.overlaps, Bool.and_eq_false_iff, decide_eq_false_iff_not]
  omega

/-- A zone is placed between those that start before it and those that do not. -/
theorem insertZone_split (z : Zone) (zs : List Zone) :
    ∃ before after, zs = before ++ after ∧ insertZone z zs = before ++ z :: after ∧ (∀ x ∈ before, x.start < z.start) ∧
      ∀ x, after.head? = some x → z.start ≤ x.start := by
  induction zs with
  | nil => exact ⟨[], [], rfl, rfl, nofun, nofun⟩
  | cons x zs ih =>
    by_cases later : z.start ≤ x.start
    · refine ⟨[], x :: zs, rfl, if_pos later, nofun, fun y hy => ?_⟩
      cases hy
      exact later
    · obtain ⟨before, after, split, placed, starts, next⟩ := ih
      refine ⟨x :: before, after, by rw [split, List.cons_append], ?_, ?_, next⟩
      · rw [insertZone, if_neg later, placed, List.cons_append]
      · rintro y (_ | ⟨_, hy⟩)
        · exact Nat.not_le.mp later
        · exact starts y hy

theorem State.recordingIn_of_inside {s : State} {z : Zone} {x : Nat} (recording : s.rcc.state = .recording) (own : s.own = some x)
    (inside : z.start ≤ x ∧ x < z.stop) : s.recordingIn z = true := by
  simp [State.recordingIn, recording, own, Zone.contains, inside]

theorem State.recordingIn_of_outside {s : State} {z : Zone}
    (outside : s.rcc.state ≠ .recording ∨ s.own = none ∨ ∃ x, s.own = some x ∧ (x < z.start ∨ z.stop ≤ x)) : s.recordingIn z = false := by
  rcases outside with h | h | ⟨x, own, h⟩
  · simp [State.recordingIn, h]
  · simp [State.recordingIn, h]
  · have notInside : z.contains x = false := by
      simp only [Zone.contains, Bool.and_eq_false_iff, decide_eq_false_iff_not]
      omega
    simp [State.recordingIn, own, notInside]

/-! ### LOAD_ZONE (R152) -/

section
variable {s : State} {m n : Nat}

theorem State.loadZone_bad (empty : n ≤ m) : s.loadZone m n = (s, replyOf .badZone) :=
  if_pos (show n * 256 ≤ m * 256 by omega)

theorem State.loadZone_overlap {z : Zone} {x : Nat} (order : m < n) (hz : z ∈ s.rcc.zones) (inside : z.start ≤ x ∧ x < z.stop)
    (insideNew : m * 256 ≤ x ∧ x < n * 256) : s.loadZone m n = (s, replyOf .zoneOverlap) := by
  have overlap : (s.rcc.zones.any (Zone.overlaps { start := m * 256, stop := n * 256 })) = true :=
    List.any_eq_true.mpr ⟨z, hz, Zone.overlaps_of_common insideNew inside⟩
  simp [State.loadZone, overlap, Nat.not_le.mpr order]

/-- What becomes of a zone that overlaps no other. -/
theorem State.loadZone_apart (order : m < n) (apart : ∀ z ∈ s.rcc.zones, z.stop ≤ m * 256 ∨ n * 256 ≤ z.start) :
    s.loadZone m n =
      if 8 ≤ s.rcc.zones.length then (s, replyOf .zonesFull)
      else if s.recordingIn { start := m * 256, stop := n * 256 } then (s, replyOf .zoneConflict)
      else (s.setZones (insertZone { start := m * 256, stop := n * 256 } s.rcc.zones), replyOf .done) := by
  have disjoint : (s.rcc.zones.any (Zone.overlaps { start := m * 256, stop := n * 256 })) = false :=
    List.any_eq_false.mpr fun z hz => ne_true_of_eq_false (Zone.not_overlaps (apart z hz))
  simp [State.loadZone, disjoint, Nat.not_le.mpr order]

end

/-- A tape directive with no label to refuse it comes to the zone table (R65, R68). -/
theorem exec_loadZone {via : Via} {s : State} {cfg : Settings} {a b : Label} {m n : Nat} (hc : s.dhd.config = some cfg)
    (hobeys : s.obeysTape via 9 = true) (ha : labelCount cfg.standard a = some m) (hb : labelCount cfg.standard b = some n) :
    exec (.loadZone via [a.hours, a.minutes, a.seconds, a.frames, b.hours, b.minutes, b.seconds, b.frames]) s =
      .next (((s.heard via).loadZone m n).1.reply (Via.issuer via) (Via.seq via) 0x0C ((s.heard via).loadZone m n).2) := by
  obtain ⟨hobey, fitted⟩ := (s.obeysTape_iff via _).mp hobeys
  have parsed : parseParams s.ownNumber s.standard (Via.fromLine via)
      [0x0C, a.hours, a.minutes, a.seconds, a.frames, b.hours, b.minutes, b.seconds, b.frames] = .ok (.loadZone m n) := by
    rw [State.standard_of_config hc]
    show (match labelCount cfg.standard a, labelCount cfg.standard b with
      | some a, some b => Checked.ok (.loadZone a b)
      | _, _ => .bad .badTimecode) = _
    rw [ha, hb]
  exact exec_obeyed (d := .loadZone m n) rfl rfl hobey rfl (fun _ => fitted) (by simp [needsChannel, byteAt]) parsed

theorem exec_loadZone_badLabel {via : Via} {s : State} {cfg : Settings} {a b : Label} (hc : s.dhd.config = some cfg)
    (hobeys : s.obeysTape via 9 = true) (bad : labelCount cfg.standard a = none ∨ labelCount cfg.standard b = none) :
    exec (.loadZone via [a.hours, a.minutes, a.seconds, a.frames, b.hours, b.minutes, b.seconds, b.frames]) s =
      .next ((s.heard via).report via 0x0C .badTimecode []) := by
  obtain ⟨hobey, fitted⟩ := (s.obeysTape_iff via _).mp hobeys
  have parsed : parseParams s.ownNumber s.standard (Via.fromLine via)
      [0x0C, a.hours, a.minutes, a.seconds, a.frames, b.hours, b.minutes, b.seconds, b.frames] = .bad .badTimecode := by
    rw [State.standard_of_config hc]
    show (match labelCount cfg.standard a, labelCount cfg.standard b with
      | some a, some b => Checked.ok (.loadZone a b)
      | _, _ => .bad .badTimecode) = _
    rcases bad with h | h
    · rw [h]
    · rw [h]
      cases labelCount cfg.standard a <;> rfl
  exact exec_unobeyed rfl rfl hobey rfl (fun _ => fitted) (by simp [needsChannel, byteAt]) parsed

end Sys2Proof.Machine

open Sys2Proof Sys2Proof.Machine

/-- Settles O53. -/
theorem zonesAreLoadedAndCleared : Obligations.ZonesAreLoadedAndCleared := by
  intro via s cfg hc
  have rcc : (s.heard via).rcc = s.rcc := s.heard_rcc via
  have own : (s.heard via).own = s.own := by cases via <;> rfl
  refine ⟨fun a b hobeys => ⟨exec_loadZone_badLabel hc hobeys, fun m n ha hb => ⟨fun empty => ?_, fun order => ?_,
    fun order apart proper => ⟨fun full => ?_, fun room => ⟨fun x recording here low high => ?_, fun outside => ?_⟩⟩⟩⟩, fun hobeys => ?_⟩
  case refine_6 =>
    obtain ⟨hobey, fitted⟩ := (s.obeysTape_iff via _).mp hobeys
    obtain ⟨std, hstd⟩ := State.standard_of_obeys hobey
    rw [exec_obeyed (d := .clearZones) (i := .clearZones via []) rfl rfl hobey rfl (fun _ => fitted) (by simp [needsChannel, byteAt])
      (hstd ▸ rfl)]
    cases via <;> rfl
  all_goals rw [exec_loadZone hc hobeys ha hb]
  · rw [State.loadZone_bad empty]
    rfl
  · rintro ⟨z, hz, x, low, high, lowNew, highNew⟩
    rw [State.loadZone_overlap order (rcc.symm ▸ hz) ⟨low, high⟩ ⟨lowNew, highNew⟩]
    rfl
  all_goals
    rw [State.loadZone_apart order (rcc.symm ▸ fun z hz => apart z hz (proper z hz)), rcc]
  · rw [if_pos full]
    rfl
  · rw [if_neg (Nat.not_le.mpr room), if_pos (State.recordingIn_of_inside (rcc.symm ▸ recording) (own.trans here) ⟨low, high⟩)]
    rfl
  · obtain ⟨before, after, split, placed, starts, next⟩ := insertZone_split { start := m * 256, stop := n * 256 } s.rcc.zones
    refine ⟨before, after, split, starts, next, ?_⟩
    have clear : ¬ (s.heard via).recordingIn { start := m * 256, stop := n * 256 } = true :=
      ne_true_of_eq_false (State.recordingIn_of_outside (by rwa [rcc, own]))
    rw [if_neg (Nat.not_le.mpr room), if_neg clear, placed, State.setZones, rcc]
    rfl

end

section
/-! SUPPORT. LOAD_CUE: the cue its bytes spell, and its place in the list (R68, R122 to R124). -/

namespace Sys2Proof.Machine

/-! ### The cue of an id (R123) -/

theorem State.findCue_of_mem {s : State} {x : Cue} (distinct : (s.cul.cues.map (·.id)).Nodup) (hx : x ∈ s.cul.cues) :
    s.findCue x.id = some x := by
  unfold State.findCue
  induction hl : s.cul.cues generalizing s with
  | nil => simp [hl] at hx
  | cons y ys ih =>
    rw [hl] at hx distinct
    obtain ⟨fresh, rest⟩ := List.nodup_cons.mp distinct
    by_cases same : y.id = x.id
    · rcases List.mem_cons.mp hx with rfl | later
      · simp
      · exact absurd (same ▸ List.mem_map_of_mem (f := (·.id)) later : y.id ∈ ys.map (·.id)) fresh
    · have later : x ∈ ys := (List.mem_cons.mp hx).resolve_left fun h => same (h ▸ rfl)
      rw [List.find?_cons_of_neg (by simpa using same)]
      exact ih (s := s.setCues ys) rest later rfl

theorem State.findCue_of_absent {s : State} {id : Nat} (absent : ∀ x ∈ s.cul.cues, x.id ≠ id) : s.findCue id = none :=
  List.find?_eq_none.mpr fun x hx => by simpa using absent x hx

/-- The cue of the id gives way in its place, and the others stand. -/
theorem replaceCue_split {c old : Cue} {before after : List Cue} (distinct : ((before ++ old :: after).map (·.id)).Nodup)
    (same : old.id = c.id) : replaceCue c (before ++ old :: after) = before ++ c :: after := by
  have others (l : List Cue) (h : ∀ x ∈ l, x.id ≠ c.id) : l.map (fun x => if x.id = c.id then c else x) = l :=
    (List.map_congr_left fun x hx => if_neg (h x hx)).trans (List.map_id l)
  rw [List.map_append, List.map_cons, List.nodup_append] at distinct
  obtain ⟨-, later, apart⟩ := distinct
  rw [replaceCue, List.map_append, List.map_cons, if_pos same, others before, others after]
  · intro x hx h
    exact (List.nodup_cons.mp later).1 (same ▸ h ▸ List.mem_map_of_mem hx)
  · intro x hx h
    exact apart x.id (List.mem_map_of_mem hx) old.id List.mem_cons_self (h.trans same.symm)

section
variable {s : State} {c : Cue}

theorem State.loadCue_busy {x : Cue} (distinct : (s.cul.cues.map (·.id)).Nodup) (hx : x ∈ s.cul.cues) (same : x.id = c.id)
    (armed : x.armed = true) : s.loadCue c = (s, replyOf .cueBusy) := by
  refine if_pos ?_
  rw [← same, State.findCue_of_mem distinct hx]
  exact armed

theorem State.findCue_unarmed (unarmed : ∀ x ∈ s.cul.cues, x.id = c.id → x.armed = false) : (s.findCue c.id).any (·.armed) = false := by
  cases h : s.findCue c.id with
  | none => rfl
  | some x => exact unarmed x (List.mem_of_find?_eq_some h) (by simpa using List.find?_some h)

theorem State.loadCue_conflict (unarmed : ∀ x ∈ s.cul.cues, x.id = c.id → x.armed = false) (conflict : s.triggerInZone c = true) :
    s.loadCue c = (s, replyOf .zoneConflict) := by
  simp [State.loadCue, State.findCue_unarmed unarmed, conflict]

theorem State.loadCue_replaces {old : Cue} {before after : List Cue} (distinct : (s.cul.cues.map (·.id)).Nodup)
    (unarmed : ∀ x ∈ s.cul.cues, x.id = c.id → x.armed = false) (clear : s.triggerInZone c = false)
    (split : s.cul.cues = before ++ old :: after) (same : old.id = c.id) :
    s.loadCue c = (s.setCues (before ++ c :: after), replyOf .done) := by
  have found : s.findCue c.id = some old := same ▸ State.findCue_of_mem distinct (split ▸ List.mem_append_right _ List.mem_cons_self)
  have notArmed := State.findCue_unarmed unarmed
  rw [found] at notArmed
  have placed : replaceCue c s.cul.cues = before ++ c :: after := by
    rw [split]
    exact replaceCue_split (split ▸ distinct) same
  simp only [State.loadCue, found, notArmed, clear, placed, Bool.false_eq_true, if_false, Option.isSome_some, if_true]

theorem State.loadCue_new (clear : s.triggerInZone c = false) (absent : ∀ x ∈ s.cul.cues, x.id ≠ c.id) :
    s.loadCue c =
      if 32 ≤ s.cul.cues.length then (s, replyOf .listFull) else (s.setCues (s.cul.cues ++ [c]), replyOf .done) := by
  simp [State.loadCue, State.findCue_of_absent absent, clear]

end

theorem State.triggerInZone_iff (s : State) (c : Cue) :
    s.triggerInZone c = true ↔
      c.reference = 0 ∧ c.action.isRecordIn = true ∧
        ∃ t, c.trigger = some t ∧ ∃ z ∈ s.rcc.zones, z.start ≤ t * 256 ∧ t * 256 < z.stop := by
  unfold State.triggerInZone
  cases action : c.action <;> cases trigger : c.trigger <;>
    simp [CueAction.isRecordIn, State.inZone, Zone.contains]

/-! ### The cue the bytes spell (R68) -/

section Bytes
variable (id act ref pres h m sec f mask d1 d0 guard choice count e1 e2 e3 e4 notify : Byte) (rest : List Byte)

/-- The payload of a LOAD_CUE, its fields in the order of the layout. -/
def cueBytes : List Byte :=
  id :: act :: ref :: pres :: h :: m :: sec :: f :: mask :: d1 :: d0 :: guard :: choice :: count :: e1 :: e2 :: e3 :: e4 :: notify :: rest

/-- The action byte with the fields it uses spells an action (R122). -/
def cueActionSpelt (action : CueAction) : Prop :=
  (act = 0 ∧ 1 ≤ mask.toNat ∧ mask.toNat ≤ 31 ∧ (pres.getLsbD 1 = true → 1 ≤ (d1 ++ d0 : BitVec 16).toNat) ∧ guard.toNat ≤ 1 ∧
      action = .recordIn (mask.setWidth 5) (if pres.getLsbD 1 then some (d1 ++ d0 : BitVec 16).toNat else none)
        (if guard = 0 then .strict else .lenient)) ∨
    (act = 1 ∧ action = .recordOut) ∨ (act = 2 ∧ action = .transitionStart) ∨
    (act = 3 ∧
      ((choice = 0 ∧ action = .mode .stop) ∨ (choice = 1 ∧ action = .mode .still) ∨
        (choice = 2 ∧ action = .mode .play))) ∨
    (act = 4 ∧ action = .chaseEngage) ∨ (act = 5 ∧ action = .chaseRelease) ∨
    (act = 6 ∧ 1 ≤ choice.toNat ∧ choice.toNat ≤ 4 ∧ action = .pulse choice.toNat)

theorem readAction_of_spelt {action : CueAction} (spelt : cueActionSpelt act pres mask d1 d0 guard choice action) :
    readAction (0x09 :: cueBytes id act ref pres h m sec f mask d1 d0 guard choice count e1 e2 e3 e4 notify rest) = some action := by
  have duration : natAt16 (0x09 :: cueBytes id act ref pres h m sec f mask d1 d0 guard choice count e1 e2 e3 e4 notify rest) 10 =
      (d1 ++ d0 : BitVec 16).toNat := natAt16_eq_append _ _
  rcases spelt with ⟨rfl, low, high, long, guardOk, rfl⟩ | ⟨rfl, rfl⟩ | ⟨rfl, rfl⟩ |
    ⟨rfl, ⟨rfl, rfl⟩ | ⟨rfl, rfl⟩ | ⟨rfl, rfl⟩⟩ | ⟨rfl, rfl⟩ | ⟨rfl, rfl⟩ | ⟨rfl, low, high, rfl⟩
  · have someTrack : mask ≠ 0 := fun zero => by simp [zero] at low
    have inRange : ¬ (mask = 0 ∨ 32 ≤ mask.toNat ∨ (pres.getLsbD 1 = true ∧ (d1 ++ d0 : BitVec 16).toNat = 0) ∨ 1 < guard.toNat) := by
      rintro (h | h | ⟨h, k⟩ | h)
      · exact someTrack h
      · omega
      · have := long h
        omega
      · omega
    unfold readAction
    rw [duration]
    exact if_neg inRange
  · rfl
  · rfl
  · rfl
  · rfl
  · rfl
  · rfl
  · rfl
  · exact if_pos ⟨low, high⟩

theorem lockEntries_cueBytes (few : count.toNat ≤ 4) :
    lockEntries (0x09 :: cueBytes id act ref pres h m sec f mask d1 d0 guard choice count e1 e2 e3 e4 notify rest) =
      [e1, e2, e3, e4].take count.toNat := by
  show (e1 :: e2 :: e3 :: e4 :: notify :: rest).take count.toNat = _
  exact List.take_append_of_le_length (l₁ := [e1, e2, e3, e4]) (l₂ := notify :: rest) few

/-- The trigger the label spells, where one is present (R122). -/
def cueTriggerSpelt (std : Standard) (trigger : Option Nat) : Prop :=
  (pres.getLsbD 0 = false ∧ trigger = none) ∨
    ∃ n, pres.getLsbD 0 = true ∧ trigger = some n ∧ labelCount std { hours := h, minutes := m, seconds := sec, frames := f } = some n

/-- The cue the bytes spell. -/
def cueOfBytes (action : CueAction) (trigger : Option Nat) : Cue :=
  { id := id.toNat, action := action, reference := ref.toNat, trigger := trigger, armed := false,
    lockList := ([e1, e2, e3, e4].take count.toNat).map (·.toNat), notify := if pres.getLsbD 2 then some notify.toNat else none }

variable {std : Standard} {own : Option (BitVec 5)} {action : CueAction} {trigger : Option Nat}
  (spelt : cueActionSpelt act pres mask d1 d0 guard choice action) (triggered : cueTriggerSpelt pres h m sec f std trigger)
  (someId : 1 ≤ id.toNat) (refRange : ref.toNat ≤ 30) (refOther : ownIs own ref.toNat = false) (few : count.toNat ≤ 4)
  (entries : ∀ b ∈ [e1, e2, e3, e4].take count.toNat, b.toNat ≤ 30 ∧ ownIs own b.toNat = false)
  (distinct : ([e1, e2, e3, e4].take count.toNat).Nodup)
  (notified : pres.getLsbD 2 = true → 1 ≤ notify.toNat ∧ notify.toNat ≤ 30)

include entries distinct in
theorem goodLockList_of_entries : goodLockList own (([e1, e2, e3, e4].take count.toNat).map (·.toNat)) = true := by
  have apart : (([e1, e2, e3, e4].take count.toNat).map (·.toNat)).Nodup :=
    distinct.map fun a b h => BitVec.eq_of_toNat_eq h
  simp only [goodLockList, Bool.and_eq_true, decide_eq_true_eq, apart, and_true, List.all_map, List.all_eq_true]
  intro b hb
  obtain ⟨range, other⟩ := entries b hb
  simp [range, other]

include spelt in
theorem act_le_six : act.toNat ≤ 6 := by
  rcases spelt with ⟨rfl, _⟩ | ⟨rfl, _⟩ | ⟨rfl, _⟩ | ⟨rfl, _⟩ | ⟨rfl, _⟩ | ⟨rfl, _⟩ | ⟨rfl, _⟩ <;> decide

include spelt triggered someId refRange refOther few entries distinct notified in
/-- The parameter check of LOAD_CUE with every field in range (R68). -/
theorem parseParams_loadCue (fromLine : Bool) :
    parseParams own (some std) fromLine
        (0x09 :: cueBytes id act ref pres h m sec f mask d1 d0 guard choice count e1 e2 e3 e4 notify rest) =
      .ok (.loadCue (cueOfBytes id ref pres count e1 e2 e3 e4 notify action trigger)) := by
  have actRange := act_le_six act pres mask d1 d0 guard choice spelt
  have early : ¬ (id.toNat = 0 ∨ 6 < act.toNat ∨ 30 < ref.toNat ∨ ownIs own ref.toNat = true) := by
    rw [refOther]
    simp only [Bool.false_eq_true, or_false]
    omega
  have label : frameAt std (0x09 :: cueBytes id act ref pres h m sec f mask d1 d0 guard choice count e1 e2 e3 e4 notify rest) 5 =
      labelCount std { hours := h, minutes := m, seconds := sec, frames := f } := rfl
  have timed : ¬ (pres.getLsbD 0 = true ∧ labelCount std { hours := h, minutes := m, seconds := sec, frames := f } = none) := by
    rintro ⟨present, bad⟩
    rcases triggered with ⟨absent, -⟩ | ⟨n, -, -, count⟩
    · exact absurd (absent.symm.trans present) Bool.false_ne_true
    · exact absurd (bad.symm.trans count) (Option.some_ne_none n).symm
  have good := goodLockList_of_entries count e1 e2 e3 e4 entries distinct
  have late : ¬ (4 < count.toNat ∨ goodLockList own (([e1, e2, e3, e4].take count.toNat).map (·.toNat)) = false ∨
      (pres.getLsbD 2 = true ∧ (notify.toNat = 0 ∨ 30 < notify.toNat))) := by
    rintro (many | bad | ⟨present, range⟩)
    · omega
    · exact absurd (bad.symm.trans good) Bool.false_ne_true
    · have := notified present
      omega
  have chosen : (if pres.getLsbD 0 = true then labelCount std { hours := h, minutes := m, seconds := sec, frames := f } else none) =
      trigger := by
    rcases triggered with ⟨absent, rfl⟩ | ⟨n, present, rfl, count⟩
    · rw [absent]
      rfl
    · rw [present, if_pos rfl, count]
  have long : ¬ (0x09 :: cueBytes id act ref pres h m sec f mask d1 d0 guard choice count e1 e2 e3 e4 notify rest).length < 20 := by
    simp [cueBytes]
  have parsed : parseLoadCue own std (0x09 :: cueBytes id act ref pres h m sec f mask d1 d0 guard choice count e1 e2 e3 e4 notify rest) =
      .ok (.loadCue (cueOfBytes id ref pres count e1 e2 e3 e4 notify action trigger)) := by
    unfold parseLoadCue
    rw [lockEntries_cueBytes _ _ _ _ _ _ _ _ _ _ _ _ _ _ _ _ _ _ _ _ few, readAction_of_spelt _ _ _ _ _ _ _ _ _ _ _ _ _ _ _ _ _ _ _ _ spelt,
      label]
    refine (if_neg early).trans ((if_neg timed).trans ((if_neg late).trans ?_))
    rw [← chosen]
    rfl
  exact (if_neg long).trans parsed

include few in
/-- The test of R67 reads the action, the reference and the lock list. -/
theorem needsTransport_loadCue
    (needs : needsTransport (0x09 :: cueBytes id act ref pres h m sec f mask d1 d0 guard choice count e1 e2 e3 e4 notify rest) = true) :
    act = 0 ∨ act = 1 ∨ act = 3 ∨ act = 4 ∨ act = 5 ∨ ref = 0 ∨ 0 ∈ [e1, e2, e3, e4].take count.toNat := by
  have tape : (actionNeedsTransport act || ref == 0 ||
      ([e1, e2, e3, e4].take count.toNat).any (· == 0)) = true := by
    rw [← lockEntries_cueBytes id act ref pres h m sec f mask d1 d0 guard choice count e1 e2 e3 e4 notify rest few]
    exact (Bool.and_eq_true_iff.mp needs).2
  simp only [actionNeedsTransport, Bool.or_eq_true, beq_iff_eq, List.any_eq_true, exists_eq_right, or_assoc] at tape
  exact tape

theorem needsChannel_loadCue
    (needs : needsChannel (0x09 :: cueBytes id act ref pres h m sec f mask d1 d0 guard choice count e1 e2 e3 e4 notify rest) = true) :
    act = 2 := by
  have channel : (act == 2) = true := (Bool.and_eq_true_iff.mp needs).2
  exact beq_iff_eq.mp channel

end Bytes

end Sys2Proof.Machine

open Sys2Proof Sys2Proof.Machine

/-- Settles O50. -/
theorem loadCueJoinsTheList : Obligations.LoadCueJoinsTheList := by
  intro via id act ref pres h m sec f mask d1 d0 guard choice count e1 e2 e3 e4 notify rest s cfg action trigger hc hobeys legal
    duration entries spelt triggered isSpelt isTriggered someId refRange refOther few entriesOk distinct notified tape channel c given
    conflict
  have parsed := parseParams_loadCue id act ref pres h m sec f mask d1 d0 guard choice count e1 e2 e3 e4 notify rest (own := s.ownNumber)
    isSpelt isTriggered someId refRange refOther few entriesOk distinct notified (Via.fromLine via)
  rw [← State.standard_of_config hc] at parsed
  have comes : exec given s = .next (((s.heard via).loadCue c).1.reply (Via.issuer via) (Via.seq via) 0x09 ((s.heard via).loadCue c).2) :=
    exec_obeyed rfl (by simp [cueBytes]) hobeys rfl
      (fun needs => tape (needsTransport_loadCue id act ref pres h m sec f mask d1 d0 guard choice count e1 e2 e3 e4 notify rest few needs))
      (fun needs => channel (needsChannel_loadCue id act ref pres h m sec f mask d1 d0 guard choice count e1 e2 e3 e4 notify rest needs))
      parsed
  have cul : (s.heard via).cul = s.cul := s.heard_cul via
  have isRecordIn : action.isRecordIn = true ↔ act = 0 := by
    rcases isSpelt with ⟨rfl, -, -, -, -, rfl⟩ | ⟨rfl, rfl⟩ | ⟨rfl, rfl⟩ |
      ⟨rfl, ⟨rfl, rfl⟩ | ⟨rfl, rfl⟩ | ⟨rfl, rfl⟩⟩ | ⟨rfl, rfl⟩ | ⟨rfl, rfl⟩ | ⟨rfl, -, -, rfl⟩ <;> simp [CueAction.isRecordIn]
  have isConflict : (s.heard via).triggerInZone c = true ↔ conflict := by
    rw [State.triggerInZone_iff, State.heard_rcc]
    exact and_congr ⟨fun zero => BitVec.eq_of_toNat_eq zero, fun zero => congrArg BitVec.toNat zero⟩ (and_congr isRecordIn Iff.rfl)
  obtain ⟨-, ids⟩ := legal
  rw [← cul] at ids
  rw [comes]
  refine ⟨fun ⟨x, hx, same, armed⟩ => ?_, fun unarmed => ⟨fun inZone => ?_, fun clear => ⟨fun before old after split same => ?_,
    fun absent full => ?_, fun absent room => ?_⟩⟩⟩
  · rw [State.loadCue_busy ids (cul.symm ▸ hx) same armed]
    rfl
  all_goals rw [← cul] at unarmed
  · rw [State.loadCue_conflict unarmed (isConflict.mpr inZone)]
    rfl
  all_goals have notInZone : (s.heard via).triggerInZone c = false := Bool.eq_false_iff.mpr (isConflict.not.mpr clear)
  · rw [State.loadCue_replaces ids unarmed notInZone (cul.symm ▸ split) same, State.setCues_heard]
    rfl
  all_goals rw [← cul] at absent; rw [State.loadCue_new notInZone absent, cul]
  · rw [if_pos full.ge]
    rfl
  · rw [if_neg (Nat.not_le.mpr room), State.setCues_heard]
    rfl

end

section
/-! SUPPORT. STATUS and PEER_QUERY: answered in every station state and to every sender, byte by byte (R57, R66, R73, R75, R76). -/

namespace Sys2Proof.Machine

/-! ### The way of a query through the checks (R65, R66) -/

/-- STATUS and PEER_QUERY pass every check but that of their parameters. -/
theorem State.checkDirective_query {s : State} {type : Byte} (via : Via) (q : List Byte) (query : type = 2 ∨ type = 4) :
    s.checkDirective via (type :: q) = parseParams s.ownNumber s.standard (Via.fromLine via) (type :: q) := by
  have permitted : s.permits via (type :: q) = true := by
    cases via with
    | port => rfl
    | line =>
      rcases query with rfl | rfl
      · simp [State.permits, byteAt]
      · simp [State.permits, byteAt]
  unfold State.checkDirective
  rw [permitted]
  rcases query with rfl | rfl
  · simp [typeUnknown, takenUnconfigured, needsTransport, needsChannel, byteAt]
  · simp [typeUnknown, takenUnconfigured, needsTransport, needsChannel, byteAt]

/-- A query that passes its parameter check comes to its owner. -/
theorem exec_query {i : Instr} {via : Via} {type : Byte} {q : List Byte} {n : Nat} {d : Directive} {s : State}
    (row : directiveOf i = some (via, type :: q)) (hn : n = q.length + 1) (hears : s.hears via n = true) (query : type = 2 ∨ type = 4)
    (parsed : parseParams s.ownNumber s.standard (Via.fromLine via) (type :: q) = .ok d) :
    exec i s = .next (((s.heard via).runOwner d via).1.reply (Via.issuer via) (Via.seq via) type ((s.heard via).runOwner d via).2) := by
  subst hn
  rw [exec_of_directive row, s.takeDirective_of_hears via (type :: q) hears, State.checkDirective_query via q query, parsed]
  rfl

theorem parseParams_statusPage0 (own : Option (BitVec 5)) (std : Option Standard) (fromLine : Bool) :
    parseParams own std fromLine [2, 0, 0] = .ok (.status false false) := rfl

theorem parseParams_statusPage1 (own : Option (BitVec 5)) (std : Option Standard) (fromLine : Bool) :
    parseParams own std fromLine [2, 1, 0] = .ok (.status true false) := rfl

theorem parseParams_statusPage1Clear (own : Option (BitVec 5)) (std : Option Standard) (fromLine : Bool) :
    parseParams own std fromLine [2, 1, 1] = .ok (.status true true) := rfl

theorem parseParams_peerQuery (own : Option (BitVec 5)) (std : Option Standard) (fromLine : Bool) {n : Byte} (low : 1 ≤ n.toNat)
    (high : n.toNat ≤ 30) : parseParams own std fromLine [4, n] = .ok (.peerQuery n.toNat) := by
  have inRange : ¬ (n = 0 ∨ 30 < n.toNat) := by
    rintro (rfl | h)
    · exact absurd low (by decide)
    · omega
  exact if_neg inRange

/-! ### The pages (R73, R75, R76) -/

theorem two_flags (a b : Bool) : byteOfBool a ||| (byteOfBool b <<< 1) = byteOfBool a + 2 * byteOfBool b := by
  revert a b
  decide

theorem three_flags (a b c : Bool) :
    byteOfBool a ||| (byteOfBool b <<< 1) ||| (byteOfBool c <<< 2) = byteOfBool a + 2 * byteOfBool b + 4 * byteOfBool c := by
  revert a b c
  decide

theorem State.page0Bytes_heard (via : Via) (s : State) : (s.heard via).page0Bytes = s.page0Bytes := by cases via <;> rfl

theorem State.page1Bytes_heard (via : Via) (s : State) : (s.heard via).page1Bytes = s.page1Bytes := by cases via <;> rfl

theorem State.peerQueryBytes_heard (via : Via) (n : Nat) (s : State) : (s.heard via).peerQueryBytes n = s.peerQueryBytes n := by
  cases via <;> rfl

theorem byteOf_toNat (n : Byte) : byteOf n.toNat = n := by simp [byteOf]

/-! ### PEER_QUERY (R57) -/

section
variable {s : State} {n : Byte}

theorem State.peerQueryBytes_nothing (nothing : s.peer n.toNat = none ∨ s.isOwn n.toNat = true) :
    s.peerQueryBytes n.toNat = [n, 0, 0, 0, 0, 0, 0, 0, 0, 0, 0, 0] := by
  unfold State.peerQueryBytes
  rcases nothing with h | h
  · rw [h, byteOf_toNat]
  · cases held : s.peer n.toNat with
    | none => rw [byteOf_toNat]
    | some e => simp only [h, if_true, byteOf_toNat]

/-- The bytes of a position that is there or is not. -/
def State.foundBytes (s : State) (x : Option Nat) : List Byte :=
  match s.standard, x with
  | some std, some x => 1 :: positionBytes std x
  | _, _ => [0, 0, 0, 0, 0, 0]

theorem State.foundBytes_some {std : Standard} {x : Nat} (h : s.standard = some std) :
    s.foundBytes (some x) = 1 :: positionBytes std x := by
  simp [State.foundBytes, h]

theorem State.foundBytes_none : s.foundBytes none = [0, 0, 0, 0, 0, 0] := by
  cases h : s.standard <;> simp [State.foundBytes, h]

theorem State.peerQueryBytes_held {e : PeerEntry} (held : s.peer n.toNat = some e) (other : s.isOwn n.toNat = false) :
    s.peerQueryBytes n.toNat =
      [n, if e.foreign then 3 else if (s.ftu.counter - e.stamp).toNat ≤ 8 then 1 else 2, byteOf (s.ftu.counter - e.stamp).toNat] ++
        s.foundBytes (s.projectionOf e s.ftu.counter) ++ [e.content.transport, e.content.chaseSummary, e.content.master] := by
  simp only [State.peerQueryBytes, held, other, Bool.false_eq_true, if_false, byteOf_toNat, PeerEntry.age, State.foundBytes] <;> rfl

theorem State.projectionOf_foreign {e : PeerEntry} {k : Count32} (foreign : e.foreign = true) : s.projectionOf e k = none := by
  unfold State.projectionOf
  split
  · exact if_neg fun h => Bool.false_ne_true (h.2.symm.trans foreign)
  · rfl

end

end Sys2Proof.Machine

open Sys2Proof Sys2Proof.Machine

/-- Settles O43. -/
theorem statusAndPeerQueryAnswer : Obligations.StatusAndPeerQueryAnswer := by
  intro via s flag label position page0 page1
  have isPage0 : s.page0Bytes = page0 := by
    have ownBytes : s.ownBytes = position s.own := by
      cases ho : s.own <;> cases hc : s.dhd.config <;> simp [State.ownBytes, position, State.standard, hc, ho]
    unfold State.page0Bytes
    rw [ownBytes, State.lineFlags, two_flags]
    rfl
  have isPage1 : s.page1Bytes = page1 := by
    have labels (x : Option Nat) : s.optLabelBytes x = label x := by
      cases x <;> cases hc : s.dhd.config <;> simp [State.optLabelBytes, State.labelBytes, label, State.standard, hc]
    unfold State.page1Bytes
    refine congrArg (· ++ bytes16 s.dhd.events.toNat) ?_
    unfold State.senseBytes
    cases s.dhd.sense with
    | none => rfl
    | some r =>
      simp only [labels, three_flags]
      cases r.origin <;> rfl
  refine ⟨fun hears => ⟨?_, ?_, ?_⟩, fun n hears low high => ?_⟩
  · rw [exec_query rfl rfl hears (.inl rfl) (parseParams_statusPage0 ..), ← isPage0, ← State.page0Bytes_heard via]
    rfl
  · rw [exec_query rfl rfl hears (.inl rfl) (parseParams_statusPage1 ..), ← isPage1, ← State.page1Bytes_heard via]
    rfl
  · rw [exec_query rfl rfl hears (.inl rfl) (parseParams_statusPage1Clear ..), ← isPage1, ← State.page1Bytes_heard via, ← State.heard_dhd via s]
    rfl
  · intro answered
    have comes : exec (.peerQuery via [n]) s = .next ((s.heard via).report via 0x04 .done (s.peerQueryBytes n.toNat)) := by
      rw [exec_query rfl rfl hears (.inr rfl) (parseParams_peerQuery _ _ _ low high), ← State.peerQueryBytes_heard via]
      rfl
    refine ⟨fun nothing => ?_, fun e held other => ?_⟩
    · exact State.peerQueryBytes_nothing nothing ▸ comes
    · intro age found
      rw [State.peerQueryBytes_held held other] at comes
      refine ⟨fun lacks => ?_, fun c x hc known position young => ?_⟩
      · have none1 : s.foundBytes (s.projectionOf e s.ftu.counter) = [0, 0, 0, 0, 0, 0] := by
          have unprojected : s.projectionOf e s.ftu.counter = none := by
            rcases lacks with hc | foreign | absent | old
            · exact State.projectionOf_none (.inl hc)
            · exact State.projectionOf_foreign foreign
            · exact State.projectionOf_none (.inr (.inl absent))
            · exact State.projectionOf_none (.inr (.inr old))
          rw [unprojected, State.foundBytes_none]
        exact none1 ▸ comes
      · have projected : s.projectionOf e s.ftu.counter =
            some (wrapDay c.standard.day ((x : Int) + Int.tdiv (e.content.speed * age) 8)) :=
          State.projectionOf_some hc position young known
        rw [projected, State.foundBytes_some (State.standard_of_config hc)] at comes
        exact comes

end

section
/-! SUPPORT. The checks of R65 in their order, and the parameters that fail the sixth (R32, R65 to R68). -/

namespace Sys2Proof.Machine

/-- A directive that fails a check is only reported. -/
theorem exec_refused {i : Instr} {via : Via} {p : List Byte} {s : State} {code : Code} (row : directiveOf i = some (via, p))
    (hears : s.hears via p.length = true) (bad : s.checkDirective via p = .bad code) :
    exec i s = .next ((s.heard via).report via (byteAt p 0) code []) := by
  rw [exec_of_directive row, s.takeDirective_of_hears via p hears, bad]

theorem typeUnknown_eq (p : List Byte) : typeUnknown p = unknownPayload p := by
  cases p with
  | nil => rfl
  | cons type q =>
    simp only [typeUnknown, unknownPayload]
    by_cases zero : type.toNat = 0 <;> simp [zero]

/-! ### Checks 3 to 5 (R65 to R67) -/

section Checks
variable {s : State} {via : Via} {p : List Byte}

theorem State.checkDirective_unknown (unknown : unknownPayload p = true) : s.checkDirective via p = .bad .unknownType :=
  if_pos ((typeUnknown_eq p).trans unknown)

/-- A known type of directive goes through the checks from the third. -/
theorem State.checkDirective_known (known : unknownPayload p = false) :
    s.checkDirective via p =
      if s.dhd.config.isNone && !takenUnconfigured p then .bad .notConfigured
      else if !s.permits via p then .bad .notPermitted
      else if (needsTransport p && !s.dhd.transportFitted) || (needsChannel p && !s.dhd.channelFitted) then .bad .notFitted
      else parseParams s.ownNumber s.standard (Via.fromLine via) p :=
  if_neg (by rw [typeUnknown_eq, known]; exact Bool.false_ne_true)

/-- The directive passes the control-set test (R66). -/
def State.isObeyed (s : State) (via : Via) (p : List Byte) : Prop :=
  (byteAt p 0).toNat = 2 ∨ (byteAt p 0).toNat = 4 ∨ ∀ c source dest seq parity, s.dhd.config = some c →
    via = .line source dest seq parity → c.controlSet = 0 ∨ c.controlSet.getLsbD source.toNat = true

theorem State.permits_iff : s.permits via p = true ↔ s.isObeyed via p := by
  have two : byteAt p 0 = 2 ↔ (byteAt p 0).toNat = 2 :=
    ⟨fun h => congrArg BitVec.toNat h, fun h => BitVec.eq_of_toNat_eq h⟩
  have four : byteAt p 0 = 4 ↔ (byteAt p 0).toNat = 4 :=
    ⟨fun h => congrArg BitVec.toNat h, fun h => BitVec.eq_of_toNat_eq h⟩
  cases via with
  | port => exact iff_of_true rfl (.inr (.inr nofun))
  | line source dest seq parity =>
    simp only [State.permits, Bool.or_eq_true, beq_iff_eq, two, four, or_assoc, State.isObeyed]
    refine or_congr_right (or_congr_right ?_)
    cases hc : s.dhd.config with
    | none => simp [State.controlSet, hc]
    | some c =>
      have set : s.controlSet = c.controlSet := by simp [State.controlSet, hc]
      rw [set]
      refine ⟨fun h c' source' dest' seq' parity' same way => ?_, fun h => h c source dest seq parity rfl rfl⟩
      cases same
      cases way
      exact h

/-- The LOAD_CUE fields that the test of R67 reads are there and in range. -/
def cueReadable (p : List Byte) : Prop :=
  19 ≤ p.length ∧ (byteAt p 2).toNat ≤ 6 ∧ (byteAt p 3).toNat ≤ 30 ∧ (byteAt p 14).toNat ≤ 4 ∧
    ∀ b ∈ (p.drop 15).take (byteAt p 14).toNat, b.toNat ≤ 30

theorem cueFieldsReadable_iff : cueFieldsReadable p = true ↔ cueReadable p := by
  simp only [cueFieldsReadable, cueReadable, lockEntries, Bool.and_eq_true, decide_eq_true_eq, List.all_eq_true, and_assoc]

theorem needsTransport_iff :
    needsTransport p = true ↔
      (byteAt p 0).toNat ∈ [0x05, 0x06, 0x07, 0x08, 0x0B, 0x0C, 0x0D] ∨
        ((byteAt p 0).toNat = 0x13 ∧ 2 ≤ p.length ∧ (byteAt p 1).toNat ≤ 1) ∨
        ((byteAt p 0).toNat = 0x09 ∧ cueReadable p ∧
          ((byteAt p 2).toNat ∈ [0, 1, 3, 4, 5] ∨ (byteAt p 3).toNat = 0 ∨ 0 ∈ (p.drop 15).take (byteAt p 14).toNat)) := by
  have action : actionNeedsTransport (byteAt p 2) = true ↔ (byteAt p 2).toNat ∈ [0, 1, 3, 4, 5] := by
    simp [actionNeedsTransport, ← BitVec.toNat_inj, or_assoc]
  have reference : byteAt p 3 = 0#8 ↔ (byteAt p 3).toNat = 0 := by simp [← BitVec.toNat_inj]
  unfold needsTransport
  split
  next h => simp [h]
  next h => simp [h]
  next h => simp [h]
  next h => simp [h]
  next h => simp [h]
  next h => simp [h]
  next h => simp [h]
  next h => simp [h]
  next h =>
    simp [h, cueFieldsReadable_iff, action, reference, lockEntries, or_assoc]
  next h1 h2 h3 h4 h5 h6 h7 h8 h9 =>
    refine iff_of_false Bool.false_ne_true ?_
    rintro (h | ⟨h, -⟩ | ⟨h, -⟩)
    · simp only [List.mem_cons, List.not_mem_nil, or_false] at h
      tauto
    · exact h8 h
    · exact h9 h

theorem needsChannel_iff :
    needsChannel p = true ↔
      (byteAt p 0).toNat ∈ [0x0E, 0x0F, 0x10, 0x11, 0x12] ∨
        ((byteAt p 0).toNat = 0x13 ∧ 2 ≤ p.length ∧ (byteAt p 1).toNat = 2) ∨
        ((byteAt p 0).toNat = 0x09 ∧ cueReadable p ∧ (byteAt p 2).toNat = 2) := by
  have two (k : Nat) : byteAt p k = 2#8 ↔ (byteAt p k).toNat = 2 := by simp [← BitVec.toNat_inj]
  unfold needsChannel
  split
  next h => simp [h]
  next h => simp [h]
  next h => simp [h]
  next h => simp [h]
  next h => simp [h]
  next h => simp [h, two]
  next h => simp [h, two, cueFieldsReadable_iff]
  next h1 h2 h3 h4 h5 h6 h7 =>
    refine iff_of_false Bool.false_ne_true ?_
    rintro (h | ⟨h, -⟩ | ⟨h, -⟩)
    · simp only [List.mem_cons, List.not_mem_nil, or_false] at h
      tauto
    · exact h6 h
    · exact h7 h

theorem State.checkDirective_notConfigured (known : unknownPayload p = false) (none1 : s.dhd.config = none) (late : 5 ≤ (byteAt p 0).toNat) :
    s.checkDirective via p = .bad .notConfigured := by
  rw [State.checkDirective_known known]
  exact if_pos (by simpa [none1, takenUnconfigured] using Nat.lt_of_succ_le late)

section
variable (known : unknownPayload p = false) (ready : s.dhd.config.isSome = true ∨ (byteAt p 0).toNat ≤ 4)
include known ready

theorem State.checkDirective_ready :
    s.checkDirective via p =
      if !s.permits via p then .bad .notPermitted
      else if (needsTransport p && !s.dhd.transportFitted) || (needsChannel p && !s.dhd.channelFitted) then .bad .notFitted
      else parseParams s.ownNumber s.standard (Via.fromLine via) p := by
  rw [State.checkDirective_known known]
  refine if_neg ?_
  rcases ready with h | h
  · obtain ⟨c, hc⟩ := Option.isSome_iff_exists.mp h
    simp [hc]
  · simp [takenUnconfigured, h]

theorem State.checkDirective_notPermitted (stranger : ¬ s.isObeyed via p) : s.checkDirective via p = .bad .notPermitted := by
  rw [State.checkDirective_ready known ready]
  exact if_pos (by simpa using State.permits_iff.not.mpr stranger)

variable (obeyed : s.isObeyed via p)
include obeyed

theorem State.checkDirective_notFitted
    (lacks : ¬ ((needsTransport p = true → s.dhd.transportFitted = true) ∧ (needsChannel p = true → s.dhd.channelFitted = true))) :
    s.checkDirective via p = .bad .notFitted := by
  rw [State.checkDirective_ready known ready, State.permits_iff.mpr obeyed, Bool.not_true, if_neg Bool.false_ne_true]
  refine if_pos ?_
  by_contra fits
  refine lacks ⟨fun needs => ?_, fun needs => ?_⟩
  · by_contra absent
    simp [needs, absent] at fits
  · by_contra absent
    simp [needs, absent] at fits

theorem State.checkDirective_params (tape : needsTransport p = true → s.dhd.transportFitted = true)
    (channel : needsChannel p = true → s.dhd.channelFitted = true) :
    s.checkDirective via p = parseParams s.ownNumber s.standard (Via.fromLine via) p := by
  rw [State.checkDirective_ready known ready, State.permits_iff.mpr obeyed, Bool.not_true, if_neg Bool.false_ne_true]
  refine if_neg ?_
  cases h : needsTransport p <;> cases k : needsChannel p <;> simp_all

end

end Checks

end Sys2Proof.Machine
end

section
/-! SUPPORT. Check 6: the parameters that fail it, in payload order (R68). -/

namespace Sys2Proof.Machine

section Parameters
variable {own : Option (BitVec 5)} {p : List Byte}

/-! ### Short payloads -/

theorem parseParams_short {std : Option Standard} {fromLine : Bool} (short : p.length < requiredLength p) :
    parseParams own std fromLine p = .bad .badParameter := if_pos short

/-- The payload bytes a type and its options require, by their numbers (R68). -/
def requiredBytes (p : List Byte) : Nat :=
  match (byteAt p 0).toNat with
  | 0x01 => 16
  | 0x02 => if (byteAt p 1).toNat = 0 then 2 else 3
  | 0x04 => 2
  | 0x05 => if (byteAt p 1).toNat = 3 then 4 else 2
  | 0x06 => 5
  | 0x07 => 2
  | 0x08 => if (byteAt p 1).toNat ≤ 1 then 14 else 2
  | 0x09 => 20
  | 0x0A => 2
  | 0x0B => 3
  | 0x0C => 9
  | 0x0E => 8
  | 0x0F => 2
  | 0x13 => if (byteAt p 1).toNat = 2 then 3 else 2
  | _ => 1

theorem requiredBytes_eq (p : List Byte) : requiredBytes p = requiredLength p := by
  have option (k : Byte) : (byteAt p 1).toNat = k.toNat ↔ byteAt p 1 = k := BitVec.toNat_inj
  have zero : (if (byteAt p 1).toNat = 0 then 2 else 3) = if byteAt p 1 = 0 then 2 else 3 := if_congr (option 0) rfl rfl
  have three : (if (byteAt p 1).toNat = 3 then 4 else 2) = if byteAt p 1 = 3 then 4 else 2 := if_congr (option 3) rfl rfl
  have two : (if (byteAt p 1).toNat = 2 then 3 else 2) = if byteAt p 1 = 2 then 3 else 2 := if_congr (option 2) rfl rfl
  unfold requiredBytes requiredLength
  rw [zero, three, two] <;> rfl

section
variable {std : Option Standard} {fromLine : Bool} (long : requiredLength p ≤ p.length)
include long

theorem parseParams_long :
    parseParams own std fromLine p =
      match (byteAt p 0).toNat, std with
      | 0x01, _ => .ok (.configure (readSettings p))
      | 0x02, _ => parseStatus p
      | 0x03, _ => .ok .restart
      | 0x04, _ =>
        if byteAt p 1 = 0 ∨ 30 < (byteAt p 1).toNat then .bad .badParameter else .ok (.peerQuery (byteAt p 1).toNat)
      | _, some std => parseConfigured own std fromLine p
      | _, none => .bad .notConfigured :=
  (if_neg (Nat.not_lt.mpr long)).trans rfl

theorem parseParams_status (type : (byteAt p 0).toNat = 2)
    (bad : 1 < (byteAt p 1).toNat ∨ 1 < (byteAt p 2).toNat ∨ ((byteAt p 1).toNat = 0 ∧ (byteAt p 2).toNat = 1)) :
    parseParams own std fromLine p = .bad .badParameter := by
  rw [parseParams_long long, type]
  exact if_pos bad

theorem parseParams_query (type : (byteAt p 0).toNat = 4) (bad : (byteAt p 1).toNat = 0 ∨ 30 < (byteAt p 1).toNat) :
    parseParams own std fromLine p = .bad .badParameter := by
  rw [parseParams_long long, type]
  exact if_pos (bad.imp_left fun zero => BitVec.eq_of_toNat_eq zero)

theorem parseParams_configured {st : Standard} (type : 5 ≤ (byteAt p 0).toNat) :
    parseParams own (some st) fromLine p = parseConfigured own st fromLine p := by
  rw [parseParams_long long]
  split
  next h => omega
  next h => omega
  next h => omega
  next h => omega
  next same _ _ _ _ => cases same; rfl
  next same _ _ _ _ => cases same

end

/-! ### The parameters of each type (R68) -/

theorem parseTransport_bad (bad : 4 < (byteAt p 1).toNat ∨ ((byteAt p 1).toNat = 3 ∧ natAt16 p 2 = 0x8000)) :
    parseTransport p = .bad .badParameter := by
  unfold parseTransport
  rcases bad with h | ⟨h, least⟩
  · split
    all_goals first | omega | rfl
  · have value : intAt16 p 2 = -32768 := by
      rw [intAt16, least]
      rfl
    rw [h]
    exact if_pos value

theorem parseRoll_bad {fromLine : Bool}
    (bad : (byteAt p 1).toNat = 0 ∨ ((byteAt p 1).toNat = 1 ∧ fromLine = false) ∨ 1 < (byteAt p 2).toNat) :
    parseRoll fromLine p = .bad .badParameter := by
  refine if_pos ?_
  rcases bad with h | ⟨h, port⟩ | h
  · left
    split <;> omega
  · left
    rw [port, h]
    exact Nat.lt_succ_self 1
  · exact .inr h

theorem readKind_bad (bad : 3 < (byteAt p 2).toNat ∨ ((byteAt p 2).toNat = 3 ∧ 4 < (byteAt p 5).toNat)) : readKind p = none := by
  unfold readKind
  rcases bad with h | ⟨h, k⟩
  · split
    all_goals first | omega | rfl
  · simp only [h]
    split
    all_goals first | omega | rfl

theorem parseSetTransition_bad
    (bad : 7 < (byteAt p 1).toNat ∨ 3 < (byteAt p 2).toNat ∨ 999 < natAt16 p 3 ∨ ((byteAt p 2).toNat = 3 ∧ 4 < (byteAt p 5).toNat) ∨
      (byteAt p 6).toInt < -60 ∨ 60 < (byteAt p 6).toInt ∨ 1 < (byteAt p 7).toNat) : parseSetTransition p = .bad .badParameter := by
  unfold parseSetTransition
  cases read : readKind p with
  | none => rfl
  | some k =>
    refine if_pos ?_
    have kinds : ¬ (3 < (byteAt p 2).toNat ∨ ((byteAt p 2).toNat = 3 ∧ 4 < (byteAt p 5).toNat)) := fun h =>
      Option.some_ne_none k (read.symm.trans (readKind_bad h))
    show 7 < (byteAt p 1).toNat ∨ 999 < natAt16 p 3 ∨ (byteAt p 6).toInt < -60 ∨ 60 < (byteAt p 6).toInt ∨ 1 < (byteAt p 7).toNat
    tauto

theorem parseAbort_bad (bad : 2 < (byteAt p 1).toNat ∨ ((byteAt p 1).toNat = 2 ∧ 1 < (byteAt p 2).toNat)) :
    parseAbort p = .bad .badParameter := by
  unfold parseAbort
  rcases bad with h | ⟨h, k⟩
  · split
    all_goals first | omega | rfl
  · rw [h]
    exact if_pos k

theorem parseLoadZone_bad {std : Standard} (bad : frameAt std p 1 = none ∨ frameAt std p 5 = none) :
    parseLoadZone std p = .bad .badTimecode := by
  unfold parseLoadZone
  rcases bad with h | h
  · rw [h]
  · rw [h]
    cases frameAt std p 1 <;> rfl

theorem readChase_bad {std : Standard}
    (bad : (byteAt p 2).toNat = 0 ∨ 30 < (byteAt p 2).toNat ∨ std.day ≤ 2 * (intAt32 p 3).natAbs ∨ (byteAt p 7).toNat < 8 ∨
      128 < (byteAt p 7).toNat ∨ 3 < (byteAt p 8).toNat ∨ 3 < (byteAt p 9).toNat ∨ natAt16 p 10 < 50 ∨ 1000 < natAt16 p 10 ∨
      3 < (byteAt p 12).toNat ∨ 3 < (byteAt p 13).toNat) : readChase std p = none := by
  refine if_neg ?_
  rintro ⟨h1, h2, h3, h4, h5, h6, h7, h8, h9, h10, h11⟩
  omega

theorem parseChase_option {std : Standard} (bad : 2 < (byteAt p 1).toNat) : parseChase std p = .bad .badParameter := by
  unfold parseChase
  split
  all_goals first | omega | rfl

theorem parseChase_record {std : Standard} (option : (byteAt p 1).toNat ≤ 1) (bad : readChase std p = none) :
    parseChase std p = .bad .badParameter := by
  unfold parseChase
  rw [bad]
  obtain h | h : (byteAt p 1).toNat = 0 ∨ (byteAt p 1).toNat = 1 := by omega
  all_goals
    rw [h]
    rfl

theorem parseCueTo_bad {std : Standard} (bad : frameAt std p 1 = none) :
    (match frameAt std p 1 with | some f => Checked.ok (.motion (.cueTo f)) | none => .bad .badTimecode) = .bad .badTimecode := by
  rw [bad]

/-! ### The type byte chooses the parameters (R68) -/

section
variable {std : Standard} {fromLine : Bool}

theorem parseConfigured_transport (is : (byteAt p 0).toNat = 0x05) : parseConfigured own std fromLine p = parseTransport p := by
  simp only [parseConfigured, is]

theorem parseConfigured_cueTo (is : (byteAt p 0).toNat = 0x06) :
    parseConfigured own std fromLine p =
      match frameAt std p 1 with | some f => Checked.ok (.motion (.cueTo f)) | none => .bad .badTimecode := by
  simp only [parseConfigured, is] <;> rfl

theorem parseConfigured_jog (is : (byteAt p 0).toNat = 0x07) : parseConfigured own std fromLine p = parseJog p := by
  simp only [parseConfigured, is]

theorem parseConfigured_chase (is : (byteAt p 0).toNat = 0x08) : parseConfigured own std fromLine p = parseChase std p := by
  simp only [parseConfigured, is]

theorem parseConfigured_loadCue (is : (byteAt p 0).toNat = 0x09) : parseConfigured own std fromLine p = parseLoadCue own std p := by
  simp only [parseConfigured, is]

theorem parseConfigured_roll (is : (byteAt p 0).toNat = 0x0B) : parseConfigured own std fromLine p = parseRoll fromLine p := by
  simp only [parseConfigured, is]

theorem parseConfigured_loadZone (is : (byteAt p 0).toNat = 0x0C) : parseConfigured own std fromLine p = parseLoadZone std p := by
  simp only [parseConfigured, is]

theorem parseConfigured_setTransition (is : (byteAt p 0).toNat = 0x0E) :
    parseConfigured own std fromLine p = parseSetTransition p := by
  simp only [parseConfigured, is]

theorem parseConfigured_selectA (is : (byteAt p 0).toNat = 0x0F) :
    parseConfigured own std fromLine p =
      if 7 < (byteAt p 1).toNat then .bad .badParameter else .ok (.selectA (byteAt p 1).toNat) := by
  simp only [parseConfigured, is]

theorem parseConfigured_abort (is : (byteAt p 0).toNat = 0x13) : parseConfigured own std fromLine p = parseAbort p := by
  simp only [parseConfigured, is]

theorem parseConfigured_allStop (is : (byteAt p 0).toNat = 0x14) :
    parseConfigured own std fromLine p = if fromLine then .bad .badParameter else .ok .allStop := by
  simp only [parseConfigured, is]

end

/-! ### LOAD_CUE, field by field (R68) -/

theorem readAction_bad
    (bad : ((byteAt p 2).toNat = 0 ∧ ((byteAt p 9).toNat = 0 ∨ 31 < (byteAt p 9).toNat ∨
        ((byteAt p 4).getLsbD 1 = true ∧ natAt16 p 10 = 0) ∨ 1 < (byteAt p 12).toNat)) ∨
      ((byteAt p 2).toNat = 3 ∧ 2 < (byteAt p 13).toNat) ∨
      ((byteAt p 2).toNat = 6 ∧ ((byteAt p 13).toNat = 0 ∨ 4 < (byteAt p 13).toNat))) : readAction p = none := by
  unfold readAction
  rcases bad with ⟨h, fields⟩ | ⟨h, choice⟩ | ⟨h, output⟩
  · rw [h]
    exact if_pos (fields.imp BitVec.eq_of_toNat_eq (Or.imp_left id))
  · simp only [h]
    split
    all_goals first | omega | rfl
  · rw [h]
    exact if_neg (by omega)

theorem goodLockList_bad (bad : (∃ b ∈ lockEntries p, 30 < b.toNat ∨ ownIs own b.toNat = true) ∨ ¬ (lockEntries p).Nodup) :
    goodLockList own ((lockEntries p).map (·.toNat)) = false := by
  rw [← Bool.not_eq_true, goodLockList, Bool.and_eq_true, decide_eq_true_eq, List.all_eq_true]
  rintro ⟨range, distinct⟩
  rcases bad with ⟨b, hb, out⟩ | repeated
  · have ok := range b.toNat (List.mem_map_of_mem hb)
    simp only [Bool.and_eq_true, decide_eq_true_eq, Bool.not_eq_true'] at ok
    rcases out with far | isOwn
    · omega
    · exact Bool.false_ne_true (ok.2.symm.trans isOwn)
  · exact repeated distinct.of_map

section
variable {std : Standard}

theorem parseLoadCue_early
    (bad : (byteAt p 1).toNat = 0 ∨ 6 < (byteAt p 2).toNat ∨ 30 < (byteAt p 3).toNat ∨ ownIs own (byteAt p 3).toNat = true) :
    parseLoadCue own std p = .bad .badParameter := if_pos bad

variable (early : ¬ ((byteAt p 1).toNat = 0 ∨ 6 < (byteAt p 2).toNat ∨ 30 < (byteAt p 3).toNat ∨ ownIs own (byteAt p 3).toNat = true))
include early

theorem parseLoadCue_untimed (bad : (byteAt p 4).getLsbD 0 = true ∧ frameAt std p 5 = none) :
    parseLoadCue own std p = .bad .badTimecode :=
  (if_neg early).trans (if_pos bad)

theorem parseLoadCue_late (timed : ¬ ((byteAt p 4).getLsbD 0 = true ∧ frameAt std p 5 = none))
    (bad : readAction p = none ∨ 4 < (byteAt p 14).toNat ∨ goodLockList own ((lockEntries p).map (·.toNat)) = false ∨
      ((byteAt p 4).getLsbD 2 = true ∧ ((byteAt p 19).toNat = 0 ∨ 30 < (byteAt p 19).toNat))) :
    parseLoadCue own std p = .bad .badParameter := by
  refine (if_neg early).trans ((if_neg timed).trans ?_)
  cases read : readAction p with
  | none => rfl
  | some a => exact if_pos (bad.resolve_left fun none1 => Option.some_ne_none a (read.symm.trans none1))

end

end Parameters

end Sys2Proof.Machine

namespace Sys2Proof.Machine

/-- A directive from the line that is not for the station, or that a listen-only one is to take, changes nothing (R32, R65). -/
theorem State.takeDirective_unheard {source dest : BitVec 5} {seq : Byte} {parity : Parity} {p : List Byte} {s : State}
    (short : p.length ≤ 32) (hsource : source ≠ 0) (hsource31 : source ≠ 31) (hdest : dest ≠ 31)
    (unheard : s.lif.listenOnly = true ∨ (dest ≠ 0 ∧ s.isOwn dest.toNat = false)) :
    s.takeDirective (.line source dest seq parity) p = s.lineBusy := by
  have wellFormed : ¬ (source = 0 ∨ source = 31 ∨ dest = 31 ∨ 32 < p.length) := by
    rintro (h | h | h | h)
    · exact hsource h
    · exact hsource31 h
    · exact hdest h
    · omega
  have ignored : (!s.lineBusy.addressed (.line source dest seq parity) || s.lineBusy.ignores (.line source dest seq parity)) = true := by
    rcases unheard with listens | ⟨notAll, other⟩
    · exact Bool.or_eq_true_iff.mpr (.inr listens)
    · refine Bool.or_eq_true_iff.mpr (.inl ?_)
      have notOwn (own : BitVec 5) (h : s.ownNumber = some own) : own ≠ dest := by
        rintro rfl
        simp [State.isOwn, h] at other
      show (!(match s.ownNumber with
        | some own => dest == own || dest == 0
        | none => false)) = true
      cases h : s.ownNumber with
      | none => rfl
      | some own => simpa using ⟨fun same => notOwn own h same.symm, notAll⟩
  by_cases steady : s.lif.watch = .steady
  · exact (if_neg (not_not.mpr steady)).trans ((if_neg wellFormed).trans (if_pos ignored))
  · exact if_pos steady

end Sys2Proof.Machine

open Sys2Proof Sys2Proof.Machine

/-- Settles O41. -/
theorem refusedDirectiveOnlyReports : Obligations.RefusedDirectiveOnlyReports := by
  refine ⟨fun i via p s code row hears bad => exec_refused row hears bad, fun via p s unknown hears =>
    exec_refused rfl hears (State.checkDirective_unknown unknown), fun i via p s row hears known => ?_,
    fun i source dest seq parity p s row short hsource hsource31 hdest unheard => ?_⟩
  case refine_2 =>
    rw [exec_of_directive row, State.takeDirective_unheard short hsource hsource31 hdest unheard]
  intro n word type answered obeyed entries readable tape channel fitted required
  have refused {code : Code} (bad : s.checkDirective via p = .bad code) : answered code := exec_refused row hears bad
  have fits : fitted ↔ (needsTransport p = true → s.dhd.transportFitted = true) ∧ (needsChannel p = true → s.dhd.channelFitted = true) :=
    and_congr (imp_congr_left needsTransport_iff.symm) (imp_congr_left needsChannel_iff.symm)
  refine ⟨fun none1 late => refused (State.checkDirective_notConfigured known none1 late), fun ready => ⟨fun stranger => ?_,
    fun isObeyed lacks => ?_, fun isObeyed isFitted short => ?_, fun isObeyed isFitted long => ?_⟩⟩
  · exact refused (State.checkDirective_notPermitted known ready stranger)
  · exact refused (State.checkDirective_notFitted known ready isObeyed (fits.not.mp lacks))
  all_goals
    have atParams := State.checkDirective_params (via := via) known ready isObeyed (fits.mp isFitted).1 (fits.mp isFitted).2
    have isRequired : required = requiredLength p := requiredBytes_eq p
  · exact refused (atParams.trans (parseParams_short (isRequired ▸ short)))
  have long : requiredLength p ≤ p.length := isRequired ▸ long
  have badParams {code : Code} (bad : parseParams s.ownNumber s.standard (Via.fromLine via) p = .bad code) : answered code :=
    refused (atParams.trans bad)
  have configured (late : 5 ≤ type) : ∃ c, s.dhd.config = some c :=
    Option.isSome_iff_exists.mp (ready.resolve_right (by omega))
  have bad {code : Code} (late : 5 ≤ type) (h : ∀ c, s.dhd.config = some c →
      parseConfigured s.ownNumber c.standard (Via.fromLine via) p = .bad code) : answered code := by
    obtain ⟨c, hc⟩ := configured late
    refine badParams ?_
    rw [State.standard_of_config hc, parseParams_configured long late]
    exact h c hc
  have words (k : Nat) : word k = natAt16 p k := (natAt16_eq_append p k).symm
  refine ⟨fun is h => badParams (parseParams_status long is h), fun is h => badParams (parseParams_query long is h),
    fun is h => bad (by omega) fun c hc => ?_, fun is h => bad (by omega) fun c hc => ?_, fun is h => bad (by omega) fun c hc => ?_,
    fun is h => bad (by omega) fun c hc => ?_, fun is h => bad (by omega) fun c hc => ?_, fun is h => bad (by omega) fun c hc => ?_,
    fun is h => bad (by omega) fun c hc => ?_, fun c hc => ?_⟩
  · exact (parseConfigured_transport is).trans (parseTransport_bad (h.imp_right (And.imp_right (words 2 ▸ ·))))
  · exact (parseConfigured_jog is).trans (if_pos h)
  · exact (parseConfigured_setTransition is).trans (parseSetTransition_bad (words 3 ▸ h))
  · refine (parseConfigured_roll is).trans (parseRoll_bad (h.imp_right (Or.imp_left (And.imp_right ?_))))
    rintro ⟨seq, rfl⟩
    rfl
  · exact (parseConfigured_selectA is).trans (if_pos h)
  · exact (parseConfigured_abort is).trans (parseAbort_bad h)
  · refine (parseConfigured_allStop is).trans (if_pos ?_)
    cases via with
    | line => rfl
    | port seq => exact absurd rfl (h seq)
  · intro count offset early untimed late
    have bad' {code : Code} (late : 5 ≤ type) (h : parseConfigured s.ownNumber c.standard (Via.fromLine via) p = .bad code) :
        answered code := bad late fun c' hc' => by
      cases hc.symm.trans hc'
      exact h
    refine ⟨fun is h => bad' (by omega) ?_, fun is h => bad' (by omega) ?_, fun is h => bad' (by omega) ?_, fun is =>
      ⟨fun h => bad' (by omega) ?_, fun inTime h => bad' (by omega) ?_, fun inTime timed h => bad' (by omega) ?_⟩⟩
    · exact (parseConfigured_cueTo is).trans (parseCueTo_bad h)
    · exact (parseConfigured_loadZone is).trans (parseLoadZone_bad h)
    · refine (parseConfigured_chase is).trans ?_
      rcases h with option | ⟨option, record⟩
      · exact parseChase_option option
      · refine parseChase_record option (readChase_bad ?_)
        rw [intAt32_eq_append, ← words 10]
        exact record
    · exact (parseConfigured_loadCue is).trans (parseLoadCue_early h)
    · exact (parseConfigured_loadCue is).trans (parseLoadCue_untimed inTime h)
    · refine (parseConfigured_loadCue is).trans (parseLoadCue_late inTime timed ?_)
      rcases h with h | h | h | h | h | h | h
      · exact .inl (readAction_bad (.inl (words 10 ▸ h)))
      · exact .inl (readAction_bad (.inr (.inl h)))
      · exact .inl (readAction_bad (.inr (.inr h)))
      · exact .inr (.inl h)
      · exact .inr (.inr (.inl (goodLockList_bad (.inl h))))
      · exact .inr (.inr (.inl (goodLockList_bad (.inr h))))
      · exact .inr (.inr (.inr h))

end

section
/-! SUPPORT. The deck's operations where nothing waits for them: what each leaves of the state, exactly (R81, R83, R91, R97). -/

namespace Sys2Proof.Machine

section
variable {s : State}

/-! ### An empty slot, nothing pending but a MODE record -/

theorem State.emptySlot_none (c : Code) (empty : s.tsq.slot = none) : s.emptySlot c = s := by simp [State.emptySlot, empty]

theorem State.settle_none (empty : s.tsq.slot = none) : s.settle = s := by simp [State.settle, empty]

theorem State.settle_unsettled (busy : s.settled = false) : s.settle = s := by
  unfold State.settle
  split
  · rw [if_neg (by simp [busy])]
  · rfl

/-- No operation but a MODE record is pending. -/
abbrev State.unhurried (s : State) : Prop := ∀ o, s.tsq.pendingOp = some o → o.kind = .mode

theorem State.setPending_same (clear : s.tsq.pendingOp = none) : s.setPending none = s := by
  unfold State.setPending
  rw [← clear]

theorem State.endPending_unhurried (a b : Code) (idle : s.unhurried) : s.endPending a b = s.setPending none := by
  unfold State.endPending
  split
  · rename_i clear
    exact (State.setPending_same clear).symm
  · rename_i o pending
    simp only [idle o pending]

theorem State.matchPending_unhurried (idle : s.unhurried) : s.matchPending = s.setPending none := by
  unfold State.matchPending
  split
  · rename_i clear
    exact (State.setPending_same clear).symm
  · rename_i o pending
    simp only [idle o pending]

theorem State.matchRecovery_other (other : s.tsq.recovery ≠ .recoveryWait) : s.matchRecovery = s := if_neg other

theorem State.matchFollow_other
    (other : s.tsq.state ≠ .chasing ∨ s.tsq.reqMode ≠ .still ∨ s.csv.state ≠ .followStill ∨ s.csv.followStep ≠ .approaching) :
    s.matchFollow = s := if_neg fun ⟨chasing, still, follows, approaching⟩ => by
  obtain h | h | h | h := other
  · exact h chasing
  · exact h still
  · exact h follows
  · exact h approaching

/-! ### A request met, and one made -/

/-- The request is matched with nothing of the deck, and no FOLLOW_STILL, waiting for it. -/
theorem State.onMatched_unhurried (well : s.tsq.recovery ≠ .recoveryWait) (idle : s.unhurried)
    (other : s.tsq.state ≠ .chasing ∨ s.tsq.reqMode ≠ .still ∨ s.csv.state ≠ .followStill ∨ s.csv.followStep ≠ .approaching) :
    s.onMatched = { s with tsq := { s.tsq with matched := true, wait := none, pendingOp := none } } := by
  unfold State.onMatched
  rw [State.matchRecovery_other (by exact well), State.matchPending_unhurried (by exact idle),
    State.matchFollow_other (by exact other)]
  rfl

/-- The recovery STOP is matched with nothing of the deck waiting for it (R87). -/
theorem State.onMatched_recovery (waits : s.tsq.recovery = .recoveryWait) (clear : s.tsq.pendingOp = none) :
    s.onMatched = { s with tsq := { s.tsq with matched := true, wait := none, state := .stopped, recovery := .idle } } := by
  unfold State.onMatched State.matchRecovery
  have idle : ∀ o, s.tsq.pendingOp = some o → o.kind = .mode := by simp [clear]
  rw [if_pos (by exact waits), State.matchPending_unhurried (by exact idle), State.matchFollow_other (.inl (by nofun)),
    State.setPending_same (by exact clear)]

/-- The speed word of a request (R81). -/
def State.askedSpeed (m : ReqMode) (speed : Int) (s : State) : Int := if m = .var ∨ m = .record then s.clampSpeed speed else 0

/-- Another mode asked for, and awaited: what the request then is (R81, R83). -/
def State.asked (m : ReqMode) (speed : Int) (track : BitVec 5) (s : State) : State :=
  { s with tsq := { s.tsq with
      reqMode := m, reqSpeed := s.askedSpeed m speed, reqTrack := if m = .record then track else 0, matched := false,
      wait := some { settle := 0, busy := 0 } } }

theorem State.tallyShows_iff {m : ReqMode} : s.tallyShows m = true ↔ Tally.mode s.pins.tally = some m := by
  simp [State.tallyShows]

theorem State.drive_asks {m : ReqMode} {speed : Int} {track : BitVec 5} (new : s.tsq.reqMode ≠ m)
    (unseen : Tally.mode s.pins.tally ≠ some m) : s.drive m speed track = s.asked m speed track := by
  unfold State.drive
  rw [if_neg new]
  exact if_neg fun shows => unseen (State.tallyShows_iff.mp shows)

theorem State.drive_shown {m : ReqMode} {speed : Int} {track : BitVec 5} (new : s.tsq.reqMode ≠ m)
    (seen : Tally.mode s.pins.tally = some m) : s.drive m speed track = (s.asked m speed track).onMatched := by
  unfold State.drive
  rw [if_neg new]
  exact if_pos (State.tallyShows_iff.mpr seen)

theorem State.drive_again {m : ReqMode} {speed : Int} {track : BitVec 5} (same : s.tsq.reqMode = m) (waits : s.tsq.matched = false) :
    s.drive m speed track = { s with tsq := { s.tsq with reqSpeed := s.askedSpeed m speed } } := by
  unfold State.drive
  rw [if_pos same]
  exact if_neg (by simp [waits])

theorem State.drive_met {m : ReqMode} {speed : Int} {track : BitVec 5} (same : s.tsq.reqMode = m) (met : s.tsq.matched = true) :
    s.drive m speed track = ({ s with tsq := { s.tsq with reqSpeed := s.askedSpeed m speed } } : State).onMatched := by
  unfold State.drive
  rw [if_pos same]
  exact if_pos met

theorem State.startWait_asks (unseen : Tally.mode s.pins.tally ≠ some s.tsq.reqMode) :
    s.startWait = { s with tsq := { s.tsq with matched := false, wait := some { settle := 0, busy := 0 } } } :=
  if_neg fun shows => unseen (State.tallyShows_iff.mp shows)

theorem State.startWait_shown (seen : Tally.mode s.pins.tally = some s.tsq.reqMode) :
    s.startWait = ({ s with tsq := { s.tsq with matched := false, wait := some { settle := 0, busy := 0 } } } : State).onMatched :=
  if_pos (State.tallyShows_iff.mpr seen)

theorem Tally.mode_iff {t : Tally} : Tally.mode t = some .stop ↔ t = .stop := by cases t <;> simp [Tally.mode]

end

/-! ### Operations that send no message -/

/-- The two states have the same line, port, identity, configuration and records. -/
structure State.Mute (s t : State) : Prop where
  lif : t.lif = s.lif
  lpt : t.lpt = s.lpt
  dhd : t.dhd = s.dhd

theorem State.Mute.refl (s : State) : s.Mute s := ⟨rfl, rfl, rfl⟩

theorem State.Mute.trans {s t u : State} (h : s.Mute t) (k : t.Mute u) : s.Mute u :=
  ⟨k.lif.trans h.lif, k.lpt.trans h.lpt, k.dhd.trans h.dhd⟩

theorem State.matchFollow_mute (s : State) : s.Mute s.matchFollow := by
  unfold State.matchFollow
  repeat' split
  all_goals exact ⟨rfl, rfl, rfl⟩

theorem State.matchRecovery_mute (s : State) : s.Mute s.matchRecovery := by
  unfold State.matchRecovery
  split
  · exact ⟨rfl, rfl, rfl⟩
  · exact .refl s

theorem State.matchRecovery_pendingOp (s : State) : s.matchRecovery.tsq.pendingOp = s.tsq.pendingOp := by
  unfold State.matchRecovery
  split <;> rfl

theorem State.onMatched_mute {s : State} (idle : s.unhurried) : s.Mute s.onMatched := by
  unfold State.onMatched
  rw [State.matchPending_unhurried (by unfold State.unhurried; rw [State.matchRecovery_pendingOp]; exact idle)]
  have first : s.Mute { s with tsq := { s.tsq with matched := true, wait := none } } := ⟨rfl, rfl, rfl⟩
  have cleared (t : State) : t.Mute (t.setPending none) := ⟨rfl, rfl, rfl⟩
  exact ((first.trans (State.matchRecovery_mute _)).trans (cleared _)).trans (State.matchFollow_mute _)

theorem State.onMatched_mute_of_tsq {q : Tsq} {s : State} (idle : ∀ o, q.pendingOp = some o → o.kind = .mode) :
    s.Mute ({ s with tsq := q } : State).onMatched := by
  have start : s.Mute { s with tsq := q } := ⟨rfl, rfl, rfl⟩
  exact start.trans (State.onMatched_mute idle)

theorem State.drive_mute {s : State} (m : ReqMode) (v : Int) (k : BitVec 5) (idle : s.unhurried) : s.Mute (s.drive m v k) := by
  by_cases same : s.tsq.reqMode = m
  · by_cases met : s.tsq.matched = true
    · rw [State.drive_met same met]
      exact State.onMatched_mute_of_tsq idle
    · rw [State.drive_again same (Bool.eq_false_iff.mpr met)]
      exact ⟨rfl, rfl, rfl⟩
  · by_cases seen : Tally.mode s.pins.tally = some m
    · rw [State.drive_shown same seen]
      exact State.onMatched_mute_of_tsq idle
    · rw [State.drive_asks same seen]
      exact ⟨rfl, rfl, rfl⟩

theorem State.driveStanding_mute {s : State} (idle : s.unhurried) : s.Mute s.driveStanding := by
  unfold State.driveStanding
  split <;> exact State.drive_mute _ _ _ idle

theorem State.startWait_mute {s : State} (idle : s.unhurried) : s.Mute s.startWait := by
  unfold State.startWait
  dsimp only
  split
  · exact State.onMatched_mute_of_tsq idle
  · exact ⟨rfl, rfl, rfl⟩

theorem State.tsq_mute (q : Tsq) (s : State) : s.Mute { s with tsq := q } := ⟨rfl, rfl, rfl⟩

theorem State.tryStop_mute {s : State} (idle : s.unhurried) : s.Mute s.tryStop :=
  (s.tsq_mute _).trans (State.startWait_mute idle)

theorem State.driveEndingMode_mute {s : State} (idle : s.unhurried) : s.Mute s.driveEndingMode := by
  unfold State.driveEndingMode
  split
  · exact (s.tsq_mute _).trans (State.drive_mute _ _ _ idle)
  · exact State.driveStanding_mute idle
  · exact .refl s

end Sys2Proof.Machine
end

section
/-! SUPPORT. The notice a segment's end sends: that what the handling does before it leaves the queues as they stand, and what it does
after keeps the notice (R149). -/

namespace Sys2Proof.Machine

/-- The two states have the same identity, configuration and receive queue, and the transmit queue of the second is no fuller. -/
structure State.Room (s t : State) : Prop where
  stn : t.dhd.stn = s.dhd.stn
  config : t.dhd.config = s.dhd.config
  listenOnly : t.lif.listenOnly = s.lif.listenOnly
  rxQueue : t.lpt.rxQueue = s.lpt.rxQueue
  room : t.lif.nonAnnouncements ≤ s.lif.nonAnnouncements
  full : s.lif.sending = none → t.lif.sending = none ∧ t.lif.nonAnnouncements = s.lif.nonAnnouncements

theorem State.Mute.room {s t : State} (h : s.Mute t) : s.Room t := by
  constructor <;> simp [h.lif, h.lpt, h.dhd]

section
variable {s t u : State} {g : Segment} {reason : Code} {recorded : Nat × Option Nat}

theorem State.isOwn_of_stn (stn : t.dhd.stn = s.dhd.stn) (n : Nat) : t.isOwn n = s.isOwn n := by
  simp [State.isOwn, State.ownNumber, stn]

theorem State.sourceNumber_of_stn (stn : t.dhd.stn = s.dhd.stn) : t.sourceNumber = s.sourceNumber := by
  simp [State.sourceNumber, State.ownNumber, stn]

/-- A notice sent from a state with the same room is sent from the first as well. -/
theorem State.SegmentNoticed.of_room (room : s.Room t) (h : t.SegmentNoticed u g reason recorded) :
    s.SegmentNoticed u g reason recorded := by
  intro c n config notify
  obtain ⟨joins, drops, sends⟩ := h c n (room.config.trans config) notify
  rw [State.isOwn_of_stn room.stn, State.sourceNumber_of_stn room.stn, room.rxQueue] at joins
  rw [State.isOwn_of_stn room.stn, room.rxQueue] at drops
  rw [State.isOwn_of_stn room.stn, room.listenOnly] at sends
  refine ⟨joins, drops, fun other hears => ?_⟩
  obtain ⟨places, full⟩ := sends other hears
  refine ⟨fun few => places (room.room.trans_lt few), fun many quiet => ?_⟩
  obtain ⟨quiet', same⟩ := room.full quiet
  exact full (same ▸ many) quiet'

/-- A notice sent stays so through what follows. -/
theorem State.SegmentNoticed.later (h : s.SegmentNoticed t g reason recorded) (after : t.Bystanders u) :
    s.SegmentNoticed u g reason recorded := by
  intro c n config notify
  obtain ⟨joins, drops, sends⟩ := h c n config notify
  simp only [after.ftu]
  refine ⟨fun own room => after.rxQueue.subset (joins own room), fun own full => after.events _ (drops own full),
    fun other hears => ?_⟩
  obtain ⟨places, full⟩ := sends other hears
  exact ⟨fun few => after.waiting.subset (places few), fun many quiet => after.events _ (full many quiet)⟩

/-- A notice with a payload goes to a station by the TXQ, or into the port's receive queue for the own number, where there is a place,
and is discarded with TX_DROPPED or RX_DROPPED where there is none (R133, R149). -/
def State.NoticeSent (s t : State) (n : Nat) (payload : List Byte) : Prop :=
  let seq : Byte := t.ftu.counter.setWidth 8
  (s.isOwn n = true → s.lpt.rxQueue.length < 8 →
    { bytes := [s.sourceNumber.setWidth 8, 3, seq, byteOf payload.length] ++ payload, place := 0 } ∈ t.lpt.rxQueue) ∧
  (s.isOwn n = true → 8 ≤ s.lpt.rxQueue.length → t.holdsEvent .rxDropped = true) ∧
  (s.isOwn n = false → s.lif.listenOnly = false →
    (s.lif.nonAnnouncements < 7 →
      { kind := .notice, dest := BitVec.ofNat 5 n, seq := seq, payload := payload, age := 0 } ∈ t.lif.waiting) ∧
    (7 ≤ s.lif.nonAnnouncements → s.lif.sending = none → t.holdsEvent .txDropped = true))

theorem State.raiseNotice_sent (s : State) (n : Nat) (payload : List Byte) : s.NoticeSent (s.raiseNotice n payload) n payload := by
  have counter : (s.raiseNotice n payload).ftu = s.ftu := (State.raiseNotice_frame ..).ftu
  unfold State.NoticeSent
  simp only [counter]
  refine ⟨fun own room => ?_, fun own full => ?_, fun other hears => ⟨fun few => ?_, fun many quiet => ?_⟩⟩
  · simp only [State.raiseNotice, own, if_true, State.rxJoin_room room]
    exact List.mem_append_right _ (List.mem_singleton.mpr rfl)
  · simp only [State.raiseNotice, own, if_true, State.rxJoin_full full]
    exact State.holdsEvent_latch ..
  · have room : s.lif.full = false := by simpa [Lif.full] using few
    simp only [State.raiseNotice, other, State.txJoin, hears, room]
    exact joinBehind_mem.mpr (.inl rfl)
  · have full : s.lif.full = true := by simpa [Lif.full] using many
    simp only [State.raiseNotice, other, State.txJoin, hears, full]
    exact State.holdsEvent_latch ..

theorem State.segmentNoticeBytes_eq {c : Settings} (config : s.dhd.config = some c) (x : Segment) :
    s.segmentNoticeBytes x reason =
      [2, if reason = .done then 0 else 1, reason.value] ++ Label.toBytes (countLabel c.standard x.inFrame) ++
        Label.toBytes (countLabel c.standard x.lastFrame) ++
        (match x.remaining with | some left => 1 :: bytes16 left | none => [0, 0, 0]) := by
  have flag : byteOfBool (reason != .done) = if reason = .done then 0 else 1 := by
    by_cases done : reason = .done <;> simp [done, byteOfBool]
  simp only [State.segmentNoticeBytes, State.labelBytes, State.standard_of_config config, flag] <;> rfl

theorem segmentNotice_bytes_length {c : Settings} (config : s.dhd.config = some c) (x : Segment) :
    (s.segmentNoticeBytes x reason).length = 14 := by
  rw [State.segmentNoticeBytes_eq config]
  simp only [List.length_append, Label.toBytes]
  cases x.remaining <;> simp [bytes16]

/-- The SEGMENT_NOTICE of the segment `g` as it stands at its end, `x`, is sent (R149). -/
theorem State.segmentNotice_noticed {x : Segment} (inFrame : x.inFrame = g.inFrame) (notify : x.notify = g.notify) :
    s.SegmentNoticed (s.segmentNotice x reason) g reason (x.lastFrame, x.remaining) := by
  intro c n config hn
  have eq : s.segmentNotice x reason = s.raiseNotice n (s.segmentNoticeBytes x reason) := by
    simp [State.segmentNotice, notify, hn]
  have bytes := State.segmentNoticeBytes_eq (reason := reason) config x
  have sent := s.raiseNotice_sent n (s.segmentNoticeBytes x reason)
  rw [inFrame] at bytes
  rw [← eq] at sent
  unfold State.NoticeSent at sent
  rw [segmentNotice_bytes_length config, bytes] at sent
  exact sent

/-- What a segment ends with is the own frame, where there is a position (R140, R146, R148). -/
theorem State.atOwnFrame_recorded (s : State) (g : Segment) :
    ((s.atOwnFrame g).lastFrame, (s.atOwnFrame g).remaining) = s.recordedTo g := by
  unfold State.atOwnFrame State.ownFrame State.recordedTo
  cases hc : s.dhd.config with
  | none =>
    have none : s.own = .none := by
      unfold State.own
      split <;> simp_all
    simp [none]
  | some c =>
    cases hx : s.own with
    | none => rfl
    | some x =>
      have days : s.dayFrames = c.standard.framesPerDay := by simp [State.dayFrames, State.standard_of_config hc]
      have next : (((x / 256 : Nat) + 1 : Int) % (c.standard.framesPerDay : Int)).toNat =
          (((x / 256 : Nat) + 1 : Int) % (c.standard.framesPerDay : Int)) :=
        Int.toNat_of_nonneg (Int.emod_nonneg _ (by cases c.standard <;> decide))
      simp only [Option.map_some, Segment.atFrame, Segment.remainingAt, days, frameOf, frameAdd, next, Int.emod_add_emod,
        Int.sub_eq_add_neg]

theorem State.atOwnFrame_fixed (s : State) (g : Segment) :
    (s.atOwnFrame g).inFrame = g.inFrame ∧ (s.atOwnFrame g).notify = g.notify := by
  unfold State.atOwnFrame
  split <;> exact ⟨rfl, rfl⟩

/-- A segment ended by emergency out with the request left alone is noticed (R148, R149). -/
theorem State.emergencyOut_noticed (recording : s.rcc.state = .recording) (held : s.rcc.record = some g) (drives : Bool)
    (idle : drives = true → s.unhurried) :
    s.SegmentNoticed (s.emergencyOut reason drives) g reason (s.recordedTo g) := by
  have eq : s.emergencyOut reason drives = s.abortSegmentAt (s.atOwnFrame g) reason drives := by
    simp [State.emergencyOut, recording, held]
  obtain ⟨inFrame, notify⟩ := s.atOwnFrame_fixed g
  rw [eq, ← State.atOwnFrame_recorded]
  unfold State.abortSegmentAt
  generalize hs : (if drives = true then s.driveEndingMode else s) = s1
  have mute : s.Mute s1 := by
    subst hs
    split
    · exact State.driveEndingMode_mute (idle (by assumption))
    · exact .refl s
  have room : s.Room ((s1.writeSense ((s.atOwnFrame g).senseRecord s.dayFrames reason)).latch .segmentAborted) := by
    obtain ⟨h1, h2, h3, h4, h5, h6⟩ := mute.room
    exact ⟨h1, h2, h3, h4, h5, h6⟩
  exact ((State.segmentNotice_noticed inFrame notify).of_room room).later (State.enterGap_work _).by

end

end Sys2Proof.Machine
end

section
/-! SUPPORT. What a request, a wait and a settling leave of the deck, whatever waits for them (R81, R83, R87, R97). -/

namespace Sys2Proof.Machine

/-! ### In brief -/

section
variable {d d' : Deck} {m : ReqMode}

theorem Deck.recovered_of_other (other : d.recovery ≠ .recoveryWait) : d.recovered = d := if_neg other

theorem Deck.recovered_leaves (d : Deck) : d.recovered.reqMode = d.reqMode ∧ d.recovered.held = d.held ∧
    d.recovered.pending = d.pending := by
  unfold Deck.recovered
  split <;> exact ⟨rfl, rfl, rfl⟩

theorem Deck.Driven.mode (h : d.Driven m d') : d'.reqMode = m := by
  cases h with
  | stands asked => exact asked
  | waits => rfl
  | satisfied h => cases h <;> exact (Deck.recovered_leaves { d with reqMode := m }).1

theorem Deck.Driven.slot (h : d.Driven m d') : d'.held = d.held := by
  cases h with
  | stands | waits => rfl
  | satisfied h => cases h <;> exact (Deck.recovered_leaves { d with reqMode := m }).2.1

theorem Deck.Driven.nothing (h : d.Driven m d') (none : d.pending = none) : d'.pending = .none := by
  cases h with
  | stands | waits => exact none
  | satisfied h =>
    cases h with
    | plain => exact (Deck.recovered_leaves { d with reqMode := m }).2.2.trans none
    | ended | rested => rfl

/-- The transport state stands through a request, but where recovery's STOP or a cue waits for it. -/
theorem Deck.Driven.state (h : d.Driven m d') (well : d.recovery ≠ .recoveryWait ∨ d.state = .stopped)
    (idle : m ≠ .still ∨ d.pending ≠ some .cueTo ∧ d.pending ≠ some .jog) : d'.state = d.state := by
  have same : ({ d with reqMode := m } : Deck).recovered.state = d.state := by
    unfold Deck.recovered
    split
    · rename_i waits
      exact (well.resolve_left (fun h => h waits)).symm
    · rfl
  cases h with
  | stands | waits => rfl
  | satisfied h =>
    cases h with
    | plain | ended => exact same
    | rested kind _ still =>
      obtain other | ⟨noCue, noJog⟩ := idle
      · exact absurd still other
      · exact absurd kind (by simp [noCue, noJog])

end

section
variable {s : State}

theorem State.pendingOp_none_iff : s.brief.pending = none ↔ s.tsq.pendingOp = none := by simp [State.brief]

theorem State.slot_none_iff : s.brief.held = false ↔ s.tsq.slot = none := by simp [State.brief]

end

/-! ### The chase and the sense record -/

/-- Of the chase the follow step alone may have changed, no failure has been written and no LOCK_LOST latched. -/
structure State.Paced (s t : State) : Prop where
  csv : t.csv = { s.csv with followStep := t.csv.followStep }
  sense : t.dhd.sense = s.dhd.sense
  lock : t.holdsEvent .lockLost = s.holdsEvent .lockLost

theorem State.Paced.refl (s : State) : s.Paced s := ⟨rfl, rfl, rfl⟩

theorem State.latch_lock {e : Event} (other : e.place ≠ Event.lockLost.place) (s : State) :
    (s.latch e).holdsEvent .lockLost = s.holdsEvent .lockLost := by
  cases e <;> first | exact absurd rfl other | simp [State.latch, State.holdsEvent, Event.mask, Event.place]

theorem State.Paced.trans {s t u : State} (h : s.Paced t) (k : t.Paced u) : s.Paced u :=
  ⟨by rw [k.csv, h.csv], k.sense.trans h.sense, k.lock.trans h.lock⟩

theorem State.Paced.state {s t : State} (h : s.Paced t) : t.csv.state = s.csv.state := by rw [h.csv]

theorem State.tsq_paced (q : Tsq) (s : State) : s.Paced { s with tsq := q } := ⟨rfl, rfl, rfl⟩

theorem State.txJoin_paced (m : TxMsg) (s : State) : s.Paced (s.txJoin m) := by
  unfold State.txJoin
  split
  · exact .refl s
  · split
    · exact ⟨rfl, rfl, State.latch_lock (by decide) s⟩
    · exact ⟨rfl, rfl, rfl⟩

theorem State.rxJoin_paced (b : List Byte) (s : State) : s.Paced (s.rxJoin b) := by
  unfold State.rxJoin
  split
  · exact ⟨rfl, rfl, State.latch_lock (by decide) s⟩
  · exact ⟨rfl, rfl, rfl⟩

theorem State.answer_paced (i : Issuer) (q y : Byte) (c : Code) (r : List Byte) (s : State) : s.Paced (s.answer i q y c r) := by
  cases i with
  | nobody => exact .refl s
  | port => exact State.rxJoin_paced ..
  | station => exact State.txJoin_paced ..

theorem State.reply_paced (i : Issuer) (q y : Byte) (r : Reply) (s : State) : s.Paced (s.reply i q y r) := by
  unfold State.reply
  split
  · exact State.answer_paced ..
  · exact .refl s

theorem State.raiseNotice_paced (n : Nat) (p : List Byte) (s : State) : s.Paced (s.raiseNotice n p) := by
  unfold State.raiseNotice
  dsimp only
  split
  · exact State.rxJoin_paced ..
  · exact State.txJoin_paced ..

theorem State.segmentNotice_paced (g : Segment) (c : Code) (s : State) : s.Paced (s.segmentNotice g c) := by
  unfold State.segmentNotice
  split
  · exact State.raiseNotice_paced ..
  · exact .refl s

theorem State.judgeRest_paced (o : PendingOp) (s : State) : s.Paced (s.judgeRest o) := by
  unfold State.judgeRest
  split
  · split
    · exact (s.tsq_paced _).trans (State.answer_paced ..)
    · exact .refl s
  · exact .refl s

theorem State.matchPending_paced (s : State) : s.Paced s.matchPending := by
  unfold State.matchPending
  split
  · exact .refl s
  · split
    · exact s.tsq_paced _
    · split
      · exact (s.tsq_paced _).trans (State.answer_paced ..)
      · exact .refl s
    all_goals
      split
      · exact State.judgeRest_paced ..
      · exact .refl s

theorem State.matchFollow_paced (s : State) : s.Paced s.matchFollow := by
  unfold State.matchFollow
  repeat' split
  all_goals exact ⟨rfl, rfl, rfl⟩

theorem State.matchRecovery_paced (s : State) : s.Paced s.matchRecovery := by
  unfold State.matchRecovery
  split
  · exact s.tsq_paced _
  · exact .refl s

theorem State.onMatched_paced (s : State) : s.Paced s.onMatched :=
  (((s.tsq_paced _).trans (State.matchRecovery_paced _)).trans (State.matchPending_paced _)).trans (State.matchFollow_paced _)

theorem State.drive_paced (m : ReqMode) (v : Int) (k : BitVec 5) (s : State) : s.Paced (s.drive m v k) := by
  by_cases same : s.tsq.reqMode = m
  · by_cases met : s.tsq.matched = true
    · rw [State.drive_met same met]
      exact (s.tsq_paced _).trans (State.onMatched_paced _)
    · rw [State.drive_again same (Bool.eq_false_iff.mpr met)]
      exact s.tsq_paced _
  · by_cases seen : Tally.mode s.pins.tally = some m
    · rw [State.drive_shown same seen]
      exact (s.tsq_paced _).trans (State.onMatched_paced _)
    · rw [State.drive_asks same seen]
      exact s.tsq_paced _

theorem State.driveStanding_paced (s : State) : s.Paced s.driveStanding := by
  unfold State.driveStanding
  split <;> exact State.drive_paced ..

theorem State.driveEndingMode_paced (s : State) : s.Paced s.driveEndingMode := by
  unfold State.driveEndingMode
  split
  · exact (s.tsq_paced _).trans (State.drive_paced .play 0 0 _)
  · exact State.driveStanding_paced s
  · exact .refl s

theorem State.startWait_paced (s : State) : s.Paced s.startWait := by
  unfold State.startWait
  dsimp only
  split
  · exact (s.tsq_paced _).trans (State.onMatched_paced _)
  · exact s.tsq_paced _

theorem State.tryStop_paced (s : State) : s.Paced s.tryStop := (s.tsq_paced _).trans (State.startWait_paced _)

theorem State.approach_paced (e : Int) (s : State) : s.Paced (s.approach e) := by
  unfold State.approach
  split
  · exact .refl s
  · split <;> exact State.drive_paced ..

theorem State.takeSeek_paced (k : OpKind) (n : Nat) (i : Issuer) (q : Byte) (s : State) : s.Paced (s.takeSeek k n i q) := by
  unfold State.takeSeek
  dsimp only
  split
  · exact (s.tsq_paced _).trans (State.approach_paced _ _)
  · exact s.tsq_paced _

theorem State.takeMode_paced (t : TransportState) (m : ReqMode) (v : Int) (i : Issuer) (q : Byte) (o : Origin) (s : State) :
    s.Paced (s.takeMode t m v i q o) := (s.tsq_paced _).trans (State.drive_paced m v 0 _)

theorem State.takeMotion_paced (m : Motion) (i : Issuer) (q : Byte) (s : State) : s.Paced (s.takeMotion m i q).1 := by
  cases m with
  | still | play | shuttle => exact State.takeMode_paced ..
  | eject => exact (s.tsq_paced _).trans (State.drive_paced .eject 0 0 _)
  | cueTo | jog => exact State.takeSeek_paced ..

theorem State.requestMotion_paced (m : Motion) (i : Issuer) (q : Byte) (s : State) : s.Paced (s.requestMotion m i q).1 := by
  unfold State.requestMotion
  split
  · exact .refl s
  · split
    · exact .refl s
    · exact s.tsq_paced _
  · exact State.takeMotion_paced ..

theorem State.settle_paced (s : State) : s.Paced s.settle := by
  unfold State.settle
  split
  · split
    · exact ((s.tsq_paced _).trans (State.requestMotion_paced ..)).trans (State.reply_paced ..)
    · exact .refl s
  · exact .refl s

theorem State.emptySlot_paced (c : Code) (s : State) : s.Paced (s.emptySlot c) := by
  unfold State.emptySlot
  split
  · exact (s.tsq_paced _).trans (State.answer_paced ..)
  · exact .refl s

theorem State.endPending_paced (a b : Code) (s : State) : s.Paced (s.endPending a b) := by
  unfold State.endPending
  split
  · exact .refl s
  · split
    · exact s.tsq_paced _
    all_goals exact (s.tsq_paced _).trans (State.answer_paced ..)

end Sys2Proof.Machine
end

section
/-! SUPPORT. What the stop event leaves (R34, R98, R120, R137, R148, R170). -/

namespace Sys2Proof.Machine

/-! ### The transport's part -/

section
variable {s : State}

/-- STOP is what a stop event asks of a configured deck with a tape; nothing is pending or held after it (R98). -/
theorem State.stopTransport_rests (fitted : s.dhd.transportFitted = true) (ready : s.dhd.config.isSome = true)
    (tape : s.tsq.state ≠ .unthreaded) :
    s.stopTransport.tsq.pendingOp = none ∧ s.stopTransport.tsq.slot = none ∧
      (s.tsq.state ≠ .faulted → s.stopTransport.tsq.state = .stopped ∧ s.stopTransport.tsq.reqMode = .stop) := by
  have brief : ((s.emptySlot .superseded).endPending .allStopped .allStopped).brief =
      { s.brief with held := false, pending := none } := by rw [State.endPending_brief, State.emptySlot_brief]
  have frame := (s.emptySlot_deck .superseded).trans (State.endPending_deck .allStopped .allStopped _)
  unfold State.stopTransport
  rw [if_neg (by simp [fitted, tape])]
  dsimp only
  generalize (s.emptySlot .superseded).endPending .allStopped .allStopped = u at brief frame
  have state : u.tsq.state = s.tsq.state := congrArg Deck.state brief
  have pending : u.brief.pending = none := congrArg Deck.pending brief
  have held : u.brief.held = false := congrArg Deck.held brief
  rw [if_neg (by simpa [frame.config, Option.isSome_iff_ne_none] using ready)]
  split
  · rename_i faulted
    have driven := State.startWait_brief { u with tsq := { u.tsq with recovery := .recoveryWait } }
    exact ⟨State.pendingOp_none_iff.mp (driven.nothing pending), State.slot_none_iff.mp (driven.slot.trans held),
      fun sound => absurd (state.symm.trans faulted) sound⟩
  · have driven := State.drive_brief .stop 0 0 (u.setTransport .stopped)
    refine ⟨State.pendingOp_none_iff.mp (driven.nothing pending), State.slot_none_iff.mp (driven.slot.trans held), fun _ => ?_⟩
    exact ⟨driven.state (.inr rfl) (.inl nofun), driven.mode⟩

theorem State.stopTransport_paced (s : State) : s.Paced s.stopTransport := by
  have ended : s.Paced ((s.emptySlot .superseded).endPending .allStopped .allStopped) :=
    (State.emptySlot_paced ..).trans (State.endPending_paced ..)
  unfold State.stopTransport
  split
  · exact .refl s
  · dsimp only
    split
    · exact ended
    · split
      · exact ended.trans (State.tryStop_paced _)
      · exact (ended.trans (State.tsq_paced _ _)).trans (State.drive_paced .stop 0 0 _)

theorem State.stopTransport_mute (quiet : s.nothingToReport) : s.Mute s.stopTransport := by
  have idle : s.unhurried := quiet.2
  unfold State.stopTransport
  rw [State.emptySlot_none _ quiet.1, State.endPending_unhurried _ _ idle]
  split
  · exact .refl s
  · dsimp only
    split
    · exact ⟨rfl, rfl, rfl⟩
    · split
      · refine State.Mute.trans ?_ (State.tryStop_mute (by simp [State.unhurried]))
        exact ⟨rfl, rfl, rfl⟩
      · refine State.Mute.trans ?_ (State.drive_mute .stop 0 0 (by simp [State.unhurried]))
        exact ⟨rfl, rfl, rfl⟩

/-! ### The whole event -/

theorem State.recordedTo_congr {t : State} (config : t.dhd.config = s.dhd.config) (psu : t.psu = s.psu) (g : Segment) :
    t.recordedTo g = s.recordedTo g := by
  simp only [State.recordedTo, State.own, config, psu]

theorem State.stopTransition_frame (s : State) : s.stopTransition =
    { s with ten := { s.ten with state := if s.ten.state = .running then .paused else s.ten.state } } := by
  unfold State.stopTransition
  split
  · simp [*, State.setTen]
  · simp [*]

theorem State.stopCues_eq (s : State) : s.stopCues.cul = { s.cul with cues := [], roll := none } :=
  (State.stopNotices_work _ _).cul

theorem State.stopNotices_frame (l : List Cue) (s : State) : s.MessageFrame (State.stopNotices l s) := by
  induction l generalizing s with
  | nil => exact .refl s
  | cons c l ih => exact (s.cueNotice_frame c _).trans (ih _)

end

/-- What a stop event of the state `s` leaves, `t` (R34). -/
def State.Stopped (s t : State) : Prop :=
  t.holdsEvent .allStop = true ∧ t.csv.state = .off ∧ t.csv.record = s.csv.record ∧ t.cul.cues = [] ∧
  t.cul.roll = none ∧ t.cul.pulses = s.cul.pulses ∧ t.rcc.state ≠ .recording ∧ t.rcc.zones = s.rcc.zones ∧
  t.ten = { s.ten with state := if s.ten.state = .running then .paused else s.ten.state } ∧
  (∀ g, s.rcc.state = .recording → s.rcc.record = some g → s.cul.cues = [] → s.nothingToReport →
    s.SegmentNoticed t g .allStopped (s.recordedTo g)) ∧
  (s.dhd.transportFitted = true → s.dhd.config.isSome = true → s.tsq.state ≠ .unthreaded →
    t.tsq.pendingOp = none ∧ t.tsq.slot = none ∧
    (s.tsq.state ≠ .faulted → t.tsq.state = .stopped ∧ t.tsq.reqMode = .stop)) ∧
  t.psu = s.psu ∧ t.ftu = s.ftu ∧ t.ptb = s.ptb ∧ t.pins = s.pins ∧ t.dhd.config = s.dhd.config ∧
  t.lif.listenOnly = s.lif.listenOnly ∧ t.lpt.buffer = s.lpt.buffer ∧ t.order = s.order ∧ t.pending = s.pending

/-- What stands before the blocks act on a stop event: all but the line and the events, with room for messages as before. -/
structure State.Cut (s u : State) : Prop where
  frame : u.csv = s.csv ∧ u.cul = s.cul ∧ u.rcc = s.rcc ∧ u.ten = s.ten ∧ u.tsq = s.tsq ∧ u.psu = s.psu ∧ u.ftu = s.ftu ∧
    u.ptb = s.ptb ∧ u.pins = s.pins ∧ u.lpt = s.lpt ∧ u.order = s.order ∧ u.pending = s.pending
  fitted : u.dhd.transportFitted = s.dhd.transportFitted
  room : s.Room u

theorem State.Stopped.of_cut {s u t : State} (cut : s.Cut u) (h : u.Stopped t) : s.Stopped t := by
  obtain ⟨⟨csv, cul, rcc, ten, tsq, psu, ftu, ptb, pins, lpt, order, pending⟩, fitted, room⟩ := cut
  have recorded := State.recordedTo_congr room.config psu
  unfold State.Stopped at h ⊢
  simp only [csv, cul, rcc, ten, tsq, psu, ftu, ptb, pins, lpt, order, pending, fitted, room.config, room.listenOnly, recorded] at h
  obtain ⟨h1, h2, h3, h4, h5, h6, h7, h8, h9, noticed, rest⟩ := h
  have same : u.nothingToReport ↔ s.nothingToReport := by rw [State.nothingToReport, tsq]
  exact ⟨h1, h2, h3, h4, h5, h6, h7, h8, h9,
    fun g recording held alone quiet => .of_room room (noticed g recording held alone (same.mpr quiet)), rest⟩

theorem State.stopCues_mute {s : State} (alone : s.cul.cues = []) : s.Mute s.stopCues := by
  unfold State.stopCues
  rw [alone]
  exact ⟨rfl, rfl, rfl⟩

theorem State.cul_by (c : Cul) (s : State) : s.Bystanders { s with cul := c } :=
  ⟨rfl, rfl, rfl, rfl, rfl, rfl, rfl, rfl, .refl _, rfl, List.prefix_rfl, rfl, fun _ h => h⟩

theorem State.ten_by (t : Ten) (s : State) : s.Bystanders { s with ten := t } :=
  ⟨rfl, rfl, rfl, rfl, rfl, rfl, rfl, rfl, .refl _, rfl, List.prefix_rfl, rfl, fun _ h => h⟩

theorem State.stopCues_by (s : State) : s.Bystanders s.stopCues :=
  (s.cul_by { s.cul with cues := [], roll := none }).trans (State.stopNotices_work _ _).by

theorem State.stopTransition_by (s : State) : s.Bystanders s.stopTransition := by
  rw [State.stopTransition_frame]
  exact s.ten_by _

theorem State.stopBlocks_by (s : State) : s.Bystanders s.stopBlocks :=
  (((((s.stopTransport_by.trans (State.chaseOff_by _)).trans (State.stopCues_by _)).trans (State.emergencyOut_by ..)).trans
    (State.stopTransition_by _)).trans (State.settle_by _))

theorem State.localStop_by (s : State) : s.Bystanders s.localStop := (s.latch_by _).trans (State.stopBlocks_by _)

/-- The blocks' part of a stop event (R34). -/
theorem State.stopBlocks_stopped {s : State} (holds : s.rcc.state = .recording → s.rcc.record.isSome = true)
    (latched : s.holdsEvent .allStop = true) : s.Stopped s.stopBlocks := by
  have all := s.stopBlocks_by
  have stopped := s.stopTransport_work
  have paced := s.stopTransport_paced
  have rests := s.stopTransport_rests
  have mute := s.stopTransport_mute
  have rcc := s.stopTransport_deck.rcc
  unfold State.stopBlocks at all ⊢
  generalize s.stopTransport = a at *
  have cul := a.chaseOff.stopCues_eq
  have cues : (({ a.chaseOff with cul := { a.cul with cues := [], roll := none } } : State)).MessageFrame a.chaseOff.stopCues :=
    State.stopNotices_frame _ _
  have noCues (alone : a.cul.cues = []) : a.Mute a.chaseOff.stopCues :=
    State.Mute.trans (t := a.chaseOff) ⟨rfl, rfl, rfl⟩ (State.stopCues_mute alone)
  generalize a.chaseOff.stopCues = b at *
  have out := b.emergencyOut_work .allStopped false
  obtain ⟨outTsq, outCsv⟩ := b.emergencyOut_undriven .allStopped
  have ends := b.emergencyOut_ends .allStopped false
  have noticed {g : Segment} := b.emergencyOut_noticed (g := g) (reason := .allStopped) (drives := false)
  generalize b.emergencyOut .allStopped false = c at *
  have ten := c.stopTransition_frame
  have settled := c.stopTransition.settle_work
  have last := c.stopTransition.settle_paced
  have still := c.stopTransition.settle_none
  have rccLast := c.stopTransition.settle_deck.rcc
  generalize c.stopTransition.settle = t at *
  generalize c.stopTransition = d at *
  subst ten
  have csvOff : c.csv = a.chaseOff.csv := outCsv.trans cues.csv
  have tsqSame : c.tsq = a.tsq := outTsq.trans cues.tsq
  have rccSame : b.rcc = s.rcc := cues.rcc.trans rcc
  have culEmpty : t.cul = { s.cul with cues := [], roll := none } :=
    settled.cul.trans (out.cul.trans (cul.trans (by rw [show a.chaseOff.cul = s.cul from stopped.cul])))
  have tenSame : c.ten = s.ten := out.ten.trans (cues.ten.trans stopped.ten)
  have psuSame : b.psu = s.psu := cues.psu.trans stopped.psu
  refine ⟨all.events _ latched, last.state.trans (congrArg Csv.state csvOff),
    settled.chaseRecord.trans ((congrArg Csv.record csvOff).trans stopped.chaseRecord), by rw [culEmpty], by rw [culEmpty],
    by rw [culEmpty], ?ends, ?zones, settled.ten.trans (by rw [tenSame]), ?noticed, ?rests, settled.psu.trans (out.psu.trans psuSame),
    all.ftu, all.ptb, settled.pins.trans (out.pins.trans (cues.pins.trans stopped.pins)), all.config,
    by rw [all.lif], by rw [all.lpt], all.order, all.pending⟩
  case ends =>
    rw [rccLast]
    exact ends (by rw [rccSame]; exact holds)
  case zones => exact settled.zones.trans (out.zones.trans (by rw [rccSame]))
  case noticed =>
    intro g recording held alone quiet
    have room : s.Room b := ((mute quiet).trans (noCues ((congrArg Cul.cues stopped.cul).trans alone))).room
    have sent := noticed (g := g) (by rw [rccSame]; exact recording) (by rw [rccSame]; exact held) nofun
    rw [State.recordedTo_congr room.config psuSame] at sent
    exact (State.SegmentNoticed.of_room room sent).later ((c.ten_by _).trans settled.by)
  case rests =>
    intro fitted ready tape
    obtain ⟨pending, slot, stop⟩ := rests fitted ready tape
    rw [still ((congrArg Tsq.slot tsqSame).trans slot)]
    exact tsqSame ▸ ⟨pending, slot, stop⟩

theorem State.localStop_stopped {s : State} (holds : s.rcc.state = .recording → s.rcc.record.isSome = true) :
    s.Stopped s.localStop := by
  have h := State.stopBlocks_stopped (s := s.latch .allStop) holds (s.holdsEvent_latch _)
  exact .of_cut ⟨⟨rfl, rfl, rfl, rfl, rfl, rfl, rfl, rfl, rfl, rfl, rfl, rfl⟩, rfl, ⟨rfl, rfl, rfl, rfl, le_rfl, fun q => ⟨q, rfl⟩⟩⟩ h

/-! ### A signal that finds something other than an announcement held -/

/-- A report that waits in the counterexample. -/
def waitingReport : TxMsg := { kind := .report, dest := 2, seq := 0, payload := [], age := 0 }

/-- Six reports wait, an announcement is on the line, and a seventh report stands where a new announcement is held: as the
announcement is cut short, the held message joins the queue and fills it. -/
def Lif.crowded : Lif :=
  { Lif.reset 1 false with
    waiting := List.replicate 6 waitingReport, heldAnn := some waitingReport, watch := .steady,
    sending := some
      { msg := { waitingReport with kind := .announce }, leaves := false,
        frame := { cls := 1, source := 1, kind := 1, dest := 0, parity := .even, seq := 0, payload := [], check := 0 } } }

/-- A segment that is to be noticed at station 2. -/
def Segment.noticedAtTwo : Segment :=
  { origin := 1, inFrame := 0, mask := 1, duration := none, remaining := none, lastFrame := 0, guardKind := .lenient,
    lockList := [], notify := some 2 }

/-- A configuration with no turnaround gap. -/
def Settings.gapless : Settings :=
  { standard := .f25, tpf := 1, controlSet := 0, settleLimit := 1, busyLimit := 1, shuttleLimit := 128, dropoutWindow := 1,
    autoRecover := false, offTimeChoice := 0, turnaround := 0 }

/-- A configured station with no transport that records, its transmit queue crowded. -/
def State.crowdedRecorder : State :=
  { State.reset with
    dhd := { Dhd.reset 1 false false with config := some Settings.gapless },
    lif := Lif.crowded,
    rcc := { Rcc.reset with state := .recording, record := some Segment.noticedAtTwo } }

/-- The stop event leaves the crowded queue with reports alone: the notice found no place. -/
theorem State.crowdedRecorder_stopped :
    ∀ m ∈ State.crowdedRecorder.stopRun.lif.waiting, m.kind = .report := by decide

end Sys2Proof.Machine

open Sys2Proof Sys2Proof.Machine

/-- Refutes O26: it speaks of every state, also of one that holds a message other than an announcement while an announcement is on the
line. The signal cuts the announcement short, the held message takes the seventh place, and the segment's notice, for which the
state before had a place, is dropped. -/
theorem not_stopEventStopsTheStation : ¬ Obligations.StopEventStopsTheStation := by
  unfold Obligations.StopEventStopsTheStation
  intro h
  obtain ⟨t, eq, -, -, -, stopped⟩ := (h State.crowdedRecorder fun _ => rfl).1 (.inl rfl)
  obtain rfl : State.crowdedRecorder.stopRun = t := by
    injection eq
  obtain ⟨-, -, -, -, -, -, -, -, -, noticed, -⟩ := stopped
  obtain ⟨-, -, sends⟩ := noticed Segment.noticedAtTwo rfl rfl rfl ⟨rfl, nofun⟩ _ 2 rfl rfl
  have notice := (sends rfl rfl).1 (by decide)
  exact absurd (State.crowdedRecorder_stopped _ notice) nofun

end

section
/-! SUPPORT. ALL_STOP from the port and from the line (R33, R38, R68, R174). -/

namespace Sys2Proof.Machine

theorem State.obeys_port {s : State} (ready : s.dhd.config.isSome = true) (seq : Byte) (n : Nat) :
    s.obeys (.port seq) n = true := by
  simp [State.obeys, State.hears, State.controlledBy, ready]

/-- An own frame cut short changes the line and the latched events alone. -/
theorem State.cutShort_rest (s : State) : ∃ l d, s.cutShort = { s with lif := l, dhd := d } := by
  unfold State.cutShort
  split
  · exact ⟨s.lif, s.dhd, rfl⟩
  · dsimp only
    split
    · exact ⟨_, s.dhd, rfl⟩
    · split
      · split <;> exact ⟨_, s.dhd, rfl⟩
      · split <;> exact ⟨_, _, rfl⟩

section
variable {via : Via} {s : State}

theorem parseParams_allStop {own : Option (BitVec 5)} {std : Standard} {fromLine : Bool} :
    parseParams own (some std) fromLine [0x14] = if fromLine then .bad .badParameter else .ok .allStop :=
  (parseParams_configured (by decide) (by decide)).trans (parseConfigured_allStop rfl)

theorem exec_allStop_port {seq : Byte} (ready : s.dhd.config.isSome = true) :
    exec (.allStop (.port seq) []) s = .next (s.answer .port seq 0x14 .done []).requestStop := by
  have hobeys := State.obeys_port ready seq 1
  obtain ⟨std, hstd⟩ := State.standard_of_obeys hobeys
  exact exec_obeyed (via := .port seq) (type := 0x14) (q := []) (d := .allStop) rfl rfl hobeys rfl nofun nofun (by rw [hstd]; exact parseParams_allStop)

theorem exec_allStop_line {source dest : BitVec 5} {seq : Byte} {parity : Parity}
    (hobeys : s.obeys (.line source dest seq parity) 1 = true) :
    exec (.allStop (.line source dest seq parity) []) s =
      .next (s.lineBusy.report (.line source dest seq parity) 0x14 .badParameter []) := by
  obtain ⟨std, hstd⟩ := State.standard_of_obeys hobeys
  exact exec_unobeyed (via := .line source dest seq parity) (type := 0x14) (q := []) rfl rfl hobeys rfl nofun nofun (by rw [hstd]; exact parseParams_allStop)

end

end Sys2Proof.Machine

open Sys2Proof Sys2Proof.Machine

/-- Settles O58: the answer joins the port's queue first; then the station drives the signal, or stops alone. -/
theorem allStopEmitsTheSignal : Obligations.AllStopEmitsTheSignal := by
  unfold Obligations.AllStopEmitsTheSignal
  intro s ready
  refine ⟨fun seq hears => ⟨_, exec_allStop_port ready, ?_⟩, fun seq silent holds => ⟨_, exec_allStop_port ready, ?_⟩,
    fun source dest seq parity hobeys => exec_allStop_line hobeys⟩
  · have answered := s.answer_frame .port seq 0x14 .done []
    have queue : s.lpt.rxQueue.length < 8 → (s.answer .port seq 0x14 .done []).lpt = { s.lpt with rxQueue := s.lpt.rxQueue ++
        [{ bytes := [s.sourceNumber.setWidth 8, 2, seq, 2, 0x14, 0x00], place := 0 }] } := fun room =>
      congrArg State.lpt (State.rxJoin_room room)
    revert answered queue
    generalize s.answer .port seq 0x14 .done [] = u
    intro answered queue
    have emits : u.requestStop = u.emitStop := if_neg (by simp [answered.listenOnly, hears])
    obtain ⟨l, d, rest⟩ := u.cutShort_rest
    have cut := u.cutShort_frame
    rw [emits]
    refine ⟨rfl, u.cutShort_sending, fun steady => if_pos (cut.watch.trans (answered.watch.trans steady)),
      cut.tsq.trans answered.tsq, cut.csv.trans answered.csv, cut.cul.trans answered.cul, cut.rcc.trans answered.rcc,
      cut.ten.trans answered.ten, cut.psu.trans answered.psu, fun room => Eq.trans ?_ (queue room)⟩
    show u.cutShort.lpt = u.lpt
    rw [rest]
  · have answered := s.answer_frame .port seq 0x14 .done []
    generalize s.answer .port seq 0x14 .done [] = u at answered ⊢
    have stops : u.requestStop = u.localStop := if_pos (answered.listenOnly.trans silent)
    rw [stops]
    have emitting : u.localStop.lif.emitting = u.lif.emitting := by rw [u.localStop_by.lif]
    obtain ⟨event, off, -, cues, roll, -, ends, -, ten, -⟩ := State.localStop_stopped (s := u) (by rw [answered.rcc]; exact holds)
    refine ⟨event, off, cues, roll, ends, ?_, emitting.trans answered.emitting⟩
    rw [ten]
    dsimp only
    split <;> simp_all

end

section
/-! SUPPORT. Directives to a station with a transport, and messages beside the transport's own record (R65, R69). -/

namespace Sys2Proof.Machine

section
variable {via : Via} {s : State}

/-- A transport directive comes to its owner with the parameters its bytes spell. -/
theorem exec_tape {i : Instr} {type : Byte} {q : List Byte} {n : Nat} {d : Directive} (row : directiveOf i = some (via, type :: q))
    (hn : n = q.length + 1) (hobeys : s.obeysTape via n = true) (known : typeUnknown (type :: q) = false)
    (channel : needsChannel (type :: q) = false)
    (parsed : ∀ c, s.dhd.config = some c → parseParams s.ownNumber (some c.standard) (Via.fromLine via) (type :: q) = .ok d) :
    exec i s = .next (((s.heard via).runOwner d via).1.reply (Via.issuer via) (Via.seq via) type ((s.heard via).runOwner d via).2) := by
  obtain ⟨obeys, fitted⟩ := (State.obeysTape_iff ..).mp hobeys
  obtain ⟨c, hc⟩ := State.config_of_obeys obeys
  exact exec_obeyed row hn obeys known (fun _ => fitted) (fun needs => absurd (needs.symm.trans channel) (by simp))
    (State.standard_of_config hc ▸ parsed c hc)

/-- A transport directive with a bad parameter is only reported. -/
theorem exec_tape_bad {i : Instr} {type : Byte} {q : List Byte} {n : Nat} {code : Code}
    (row : directiveOf i = some (via, type :: q)) (hn : n = q.length + 1) (hobeys : s.obeysTape via n = true)
    (known : typeUnknown (type :: q) = false) (channel : needsChannel (type :: q) = false)
    (parsed : ∀ c, s.dhd.config = some c → parseParams s.ownNumber (some c.standard) (Via.fromLine via) (type :: q) = .bad code) :
    exec i s = .next ((s.heard via).report via type code []) := by
  obtain ⟨obeys, fitted⟩ := (State.obeysTape_iff ..).mp hobeys
  obtain ⟨c, hc⟩ := State.config_of_obeys obeys
  exact exec_unobeyed row hn obeys known (fun _ => fitted) (fun needs => absurd (needs.symm.trans channel) (by simp))
    (State.standard_of_config hc ▸ parsed c hc)

/-- A report is the same whatever the transport's own record is. -/
theorem State.answer_tsq (i : Issuer) (q y : Byte) (c : Code) (r : List Byte) (t : Tsq) (s : State) :
    ({ s with tsq := t } : State).answer i q y c r = { s.answer i q y c r with tsq := t } := by
  cases i with
  | nobody => rfl
  | port =>
    simp only [State.answer, State.rxJoin]
    split <;> rfl
  | station n =>
    simp only [State.answer, State.txJoin]
    split
    · rfl
    · split <;> rfl

end

/-! ### ROLL (R135, R136) -/

section
variable {via : Via} {delay mode : Byte} {s : State}

/-- The least delay a ROLL may have, by the way it comes (R68). -/
def leastDelay (via : Via) : Nat := if Via.fromLine via then 1 else 2

theorem parseParams_roll {own : Option (BitVec 5)} {std : Standard} (range : mode.toNat ≤ 1) :
    parseParams own (some std) (Via.fromLine via) [0x0B, delay, mode] =
      if delay.toNat < leastDelay via then .bad .badParameter else .ok (.roll delay.toNat (mode == 1)) := by
  refine (parseParams_configured (p := [0x0B, delay, mode]) (Nat.le_refl 3) (show 5 ≤ (0x0B : Byte).toNat by decide)).trans ((parseConfigured_roll rfl).trans ?_)
  have inRange : ¬ 1 < mode.toNat := by omega
  by_cases short : delay.toNat < leastDelay via
  · rw [if_pos short]
    exact if_pos (.inl short)
  · rw [if_neg short]
    exact if_neg (not_or.mpr ⟨short, inRange⟩)

theorem exec_roll_bad (hobeys : s.obeysTape via 3 = true) (range : mode.toNat ≤ 1) (short : delay.toNat < leastDelay via) :
    exec (.roll via [delay, mode]) s = .next ((s.heard via).report via 0x0B .badParameter []) :=
  exec_tape_bad (type := 0x0B) (q := [delay, mode]) rfl rfl hobeys rfl rfl fun _ _ =>
    (parseParams_roll range).trans (if_pos short)

theorem exec_roll (hobeys : s.obeysTape via 3 = true) (range : mode.toNat ≤ 1) (long : leastDelay via ≤ delay.toNat) :
    exec (.roll via [delay, mode]) s =
      .next ((((s.heard via).setRoll (some
        { start := s.rollStamp via + delay.setWidth 32, engage := mode == 1, seq := Via.seq via })).rollDue s.ftu.counter).report via 0x0B
          .done []) := by
  have stamp : (s.heard via).rollStamp via = s.rollStamp via := by cases via <;> rfl
  rw [exec_tape (type := 0x0B) (q := [delay, mode]) (d := .roll delay.toNat (mode == 1)) rfl rfl hobeys rfl rfl fun _ _ =>
    (parseParams_roll range).trans (if_neg (by omega))]
  simp only [State.runOwner, State.setRollStart, stamp, BitVec.ofNat_toNat, State.heard_ftu]
  rfl

/-- A roll of another count than the present one waits (R136). -/
theorem State.rollDue_waits {r : RollSlot} {n : Count32} (later : r.start ≠ n) : (s.setRoll (some r)).rollDue n = s.setRoll (some r) :=
  if_neg later

/-- PLAY is requested of a deck in STILL or STOPPED, awaited, and its MODE record stands; a directive held goes on waiting (R136). -/
theorem State.carryRoll_play {r : RollSlot} (plays : r.engage = false) (still : s.tsq.state = .still ∨ s.tsq.state = .stopped)
    (new : s.tsq.reqMode ≠ .play) (unseen : s.pins.tally ≠ .play) :
    s.carryRoll r = { s with tsq := { s.tsq with
      state := .playing, reqMode := .play, reqSpeed := 0, reqTrack := 0, matched := false,
      wait := some { settle := 0, busy := 0 }, pendingOp := some (pendingOf .mode .nobody r.seq (.directive 0x0B) 0) } } := by
  have rolls : s.rollPlay r.seq = (s.takeMode .playing .play 0 .nobody r.seq (.directive 0x0B), none) := by
    unfold State.rollPlay
    obtain h | h := still <;> rw [h]
  have shows : Tally.mode s.pins.tally ≠ some .play := by
    cases h : s.pins.tally <;> simp_all [Tally.mode]
  unfold State.carryRoll
  rw [if_neg (by simp [plays]), rolls]
  dsimp only
  rw [State.takeMode, State.drive_asks (by exact new) (by exact shows), State.settle_unsettled (by rfl)]
  rfl

end

end Sys2Proof.Machine

open Sys2Proof Sys2Proof.Machine

/-- Settles O52: the bytes spell the delay and the mode; the roll then waits in its slot or is due at once. -/
theorem rollWaitsForItsStart : Obligations.RollWaitsForItsStart := by
  unfold Obligations.RollWaitsForItsStart
  intro via delay mode s hobeys range stamp start least
  have stampEq : stamp = s.rollStamp via := by cases via <;> rfl
  have leastEq : least = leastDelay via := by cases via <;> rfl
  refine ⟨fun short => exec_roll_bad hobeys range (leastEq ▸ short), fun long later => ?_,
    fun long now plays still new unseen => ?_⟩
  · rw [exec_roll hobeys range (leastEq ▸ long), State.rollDue_waits (by rw [← stampEq]; exact later), ← stampEq]
    cases via <;> rfl
  · subst plays
    rw [exec_roll hobeys range (leastEq ▸ long), ← stampEq]
    have due : ((s.heard via).setRoll (some { start := stamp + delay.setWidth 32, engage := (0 : Byte) == 1, seq := Via.seq via })).rollDue
        s.ftu.counter = _ := if_pos now
    rw [due, State.carryRoll_play (by rfl) (by simpa using still) (by simpa using new) (by simpa using unseen)]
    cases via <;> rfl

end

section
/-! SUPPORT. ABORT of the transport operation and of the segment (R96, R97, R147, R148). -/

namespace Sys2Proof.Machine

section
variable {s : State} {o : PendingOp}

theorem Tally.mode_ne {t u : Tally} {m : ReqMode} (shows : Tally.mode u = some m) (other : t ≠ u) : Tally.mode t ≠ some m := by
  cases t <;> cases u <;> simp_all [Tally.mode]
  all_goals rintro rfl; contradiction

/-! ### The transport operation -/

theorem State.endPending_cue (a b : Code) (pending : s.tsq.pendingOp = some o) (kind : o.kind = .cueTo ∨ o.kind = .jog) :
    s.endPending a b = (s.setPending none).answer o.issuer o.seq o.kind.typeByte a [] := by
  obtain is | is := kind <;> simp [State.endPending, pending, is]

theorem State.endPending_eject (a b : Code) (pending : s.tsq.pendingOp = some o) (kind : o.kind = .eject) :
    s.endPending a b = (s.setPending none).answer o.issuer o.seq o.kind.typeByte b [] := by
  simp [State.endPending, pending, kind]

theorem State.abortOp_cue (pending : s.tsq.pendingOp = some o) (kind : o.kind = .cueTo ∨ o.kind = .jog) (empty : s.tsq.slot = none) :
    s.abortOp = (((s.setPending none).answer o.issuer o.seq o.kind.typeByte .cueAborted []).setTransport .still).drive .still 0 0 := by
  have slot : ((((s.setPending none).answer o.issuer o.seq o.kind.typeByte .cueAborted []).setTransport .still).drive .still 0 0).tsq.slot =
      none := by
    have driven := State.drive_brief .still 0 0
      (((s.setPending none).answer o.issuer o.seq o.kind.typeByte .cueAborted []).setTransport .still)
    refine State.slot_none_iff.mp (driven.slot.trans ?_)
    rw [State.setTransport_brief, State.answer_brief]
    exact State.slot_none_iff.mpr empty
  have first : s.abortOp = ((((s.endPending .cueAborted .aborted).setTransport .still).drive .still 0 0).emptySlot .superseded).settle := by
    unfold State.abortOp
    rw [pending]
    obtain is | is := kind <;> simp only [is]
  rw [first, State.endPending_cue _ _ pending kind, State.emptySlot_none _ slot, State.settle_none slot]

theorem State.abortOp_eject (pending : s.tsq.pendingOp = some o) (kind : o.kind = .eject) (empty : s.tsq.slot = none) :
    s.abortOp = (((s.setPending none).answer o.issuer o.seq o.kind.typeByte .aborted []).setTransport .stopped).drive .stop 0 0 := by
  have slot : ((((s.setPending none).answer o.issuer o.seq o.kind.typeByte .aborted []).setTransport .stopped).drive .stop 0 0).tsq.slot =
      none := by
    have driven := State.drive_brief .stop 0 0
      (((s.setPending none).answer o.issuer o.seq o.kind.typeByte .aborted []).setTransport .stopped)
    refine State.slot_none_iff.mp (driven.slot.trans ?_)
    rw [State.setTransport_brief, State.answer_brief]
    exact State.slot_none_iff.mpr empty
  have first : s.abortOp = ((((s.endPending .cueAborted .aborted).setTransport .stopped).drive .stop 0 0).emptySlot .superseded).settle := by
    unfold State.abortOp
    rw [pending]
    simp only [kind]
  rw [first, State.endPending_eject _ _ pending kind, State.emptySlot_none _ slot, State.settle_none slot]

theorem State.abortOp_idle (clear : s.tsq.pendingOp = none) (empty : s.tsq.slot = none) : s.abortOp = s := by
  unfold State.abortOp
  rw [clear]
  dsimp only
  rw [State.emptySlot_none _ empty, State.settle_none empty]

theorem State.abortOp_held {h : Held} (clear : s.tsq.pendingOp = none) (held : s.tsq.slot = some h) :
    s.abortOp = ({ s with tsq := { s.tsq with slot := none } } : State).answer h.issuer h.seq h.motion.typeByte .superseded [] := by
  unfold State.abortOp
  rw [clear]
  dsimp only
  have emptied : s.emptySlot .superseded =
      ({ s with tsq := { s.tsq with slot := none } } : State).answer h.issuer h.seq h.motion.typeByte .superseded [] := by
    simp [State.emptySlot, held]
  rw [emptied, State.settle_none]
  rw [(State.answer_frame ..).tsq]

/-- A request asked anew after an answer: what the answer leaves, with the request's own record (R81, R83). -/
theorem State.drive_answered {i : Issuer} {q y : Byte} {c : Code} {t : TransportState} {m : ReqMode} (plain : m ≠ .var ∧ m ≠ .record)
    (new : s.tsq.reqMode ≠ m) (unseen : Tally.mode s.pins.tally ≠ some m) :
    (((s.setPending none).answer i q y c []).setTransport t).drive m 0 0 =
      (let u := ({ s with tsq := { s.tsq with pendingOp := none } } : State).answer i q y c []
       { u with tsq := { u.tsq with
          state := t, reqMode := m, reqSpeed := 0, reqTrack := 0, matched := false, wait := some { settle := 0, busy := 0 } } }) := by
  have frame := (s.setPending none).answer_frame i q y c []
  have mode : (((s.setPending none).answer i q y c []).setTransport t).tsq.reqMode = s.tsq.reqMode := by
    rw [State.setTransport_tsq, frame.tsq]
    rfl
  rw [State.drive_asks (mode ▸ new) (by rw [State.setTransport_pins, frame.pins]; exact unseen)]
  simp only [State.asked, State.askedSpeed, plain.1, plain.2, or_self, if_false]
  rfl

end

section
variable {via : Via} {s : State}

theorem exec_abortTransportOp (hobeys : s.obeysTape via 2 = true) :
    exec (.abortTransportOp via []) s = .next ((s.heard via).abortOp.report via 0x13 .done []) :=
  exec_tape (type := 0x13) (q := [0]) (d := .abortTransportOp) rfl rfl hobeys rfl rfl fun _ _ =>
    (parseParams_configured (p := [0x13, 0]) (Nat.le_refl 2) (show 5 ≤ (0x13 : Byte).toNat by decide)).trans
      ((parseConfigured_abort rfl).trans rfl)

theorem exec_abortSegment (hobeys : s.obeysTape via 2 = true) :
    exec (.abortSegment via []) s = .next ((s.heard via).abortSegment.report via 0x13 .done []) :=
  exec_tape (type := 0x13) (q := [1]) (d := .abortSegment) rfl rfl hobeys rfl rfl fun _ _ =>
    (parseParams_configured (p := [0x13, 1]) (Nat.le_refl 2) (show 5 ≤ (0x13 : Byte).toNat by decide)).trans
      ((parseConfigured_abort rfl).trans rfl)

end

/-! ### A STILL asked for that is requested already (R91) -/

section
variable {s : State}

/-- STILL asked again, with nothing waiting for it: its wait goes on, or it stands matched. -/
theorem State.drive_still_again (same : s.tsq.reqMode = .still) (well : s.tsq.recovery = .idle) (clear : s.tsq.pendingOp = none)
    (other : s.tsq.state ≠ .chasing) :
    s.drive .still 0 0 = { s with tsq := { s.tsq with reqSpeed := 0, wait := if s.tsq.matched then none else s.tsq.wait } } := by
  by_cases met : s.tsq.matched = true
  · have idle : s.unhurried := by simp [State.unhurried, clear]
    have still : s.tsq.recovery ≠ .recoveryWait := by simp [well]
    rw [State.drive_met same met, State.onMatched_unhurried (by exact still) (by exact idle) (.inl (by exact other))]
    simp [State.askedSpeed, met, clear]
  · rw [State.drive_again same (Bool.eq_false_iff.mpr met)]
    simp [State.askedSpeed, met]

/-! ### What a segment's end leaves -/

theorem State.driveEndingMode_rcc (s : State) : s.driveEndingMode.rcc = s.rcc := by
  unfold State.driveEndingMode
  split
  · exact (State.drive_deck ..).rcc
  · unfold State.driveStanding
    split <;> exact (State.drive_deck ..).rcc
  · rfl

theorem State.emergencyOut_recording {g : Segment} (recording : s.rcc.state = .recording) (held : s.rcc.record = some g)
    (reason : Code) (drives : Bool) :
    s.emergencyOut reason drives = s.abortSegmentAt (s.atOwnFrame g) reason drives := by
  simp [State.emergencyOut, recording, held]

/-- After an emergency out the segment is in its gap, or IDLE where that is 0 (R150). -/
theorem State.emergencyOut_rcc {g : Segment} (recording : s.rcc.state = .recording) (held : s.rcc.record = some g)
    (reason : Code) (drives : Bool) :
    (s.emergencyOut reason drives).rcc = { s.rcc with
      state := if s.gapFields = 0 then .idle else .gap, record := none, gapCount := s.gapFields, fresh := true } := by
  rw [State.emergencyOut_recording recording held]
  have fields (t : State) (config : t.dhd.config = s.dhd.config) : t.gapFields = s.gapFields := by simp [State.gapFields, config]
  unfold State.abortSegmentAt
  generalize hs : (if drives = true then s.driveEndingMode else s) = u
  have driven : u.rcc = s.rcc ∧ u.dhd.config = s.dhd.config := by
    subst hs
    split
    · exact ⟨s.driveEndingMode_rcc, s.driveEndingMode_by.config⟩
    · exact ⟨rfl, rfl⟩
  have noticed := ((u.writeSense ((s.atOwnFrame g).senseRecord s.dayFrames reason)).latch .segmentAborted).segmentNotice_frame
    (s.atOwnFrame g) reason
  simp only [State.enterGap, fields _ (noticed.config.trans driven.2), noticed.rcc]
  simp [driven.1]

/-- An emergency out leaves its cause and the segment's continuation in the sense record, and SEGMENT_ABORTED latched (R148). -/
theorem State.emergencyOut_records {g : Segment} (recording : s.rcc.state = .recording) (held : s.rcc.record = some g)
    (reason : Code) (drives : Bool) :
    (s.emergencyOut reason drives).dhd.sense = some ((s.atOwnFrame g).senseRecord s.dayFrames reason) ∧
      (s.emergencyOut reason drives).holdsEvent .segmentAborted = true := by
  rw [State.emergencyOut_recording recording held]
  unfold State.abortSegmentAt
  generalize (if drives = true then s.driveEndingMode else s) = u
  have noticed := ((u.writeSense ((s.atOwnFrame g).senseRecord s.dayFrames reason)).latch .segmentAborted).segmentNotice_frame
    (s.atOwnFrame g) reason
  exact ⟨(State.segmentNotice_paced ..).sense, noticed.events _ (State.holdsEvent_latch ..)⟩

/-- Of the chase an emergency out may change the follow step alone. -/
theorem State.emergencyOut_chase (reason : Code) (drives : Bool) (s : State) :
    (s.emergencyOut reason drives).csv = { s.csv with followStep := (s.emergencyOut reason drives).csv.followStep } := by
  unfold State.emergencyOut
  split
  · rename_i g _ _
    unfold State.abortSegmentAt
    have driven : s.Paced (if drives = true then s.driveEndingMode else s) := by
      split
      · exact State.driveEndingMode_paced s
      · exact .refl s
    generalize (if drives = true then s.driveEndingMode else s) = u at driven
    have same : ((((u.writeSense ((s.atOwnFrame g).senseRecord s.dayFrames reason)).latch .segmentAborted).segmentNotice
        (s.atOwnFrame g) reason).enterGap).csv = u.csv := (State.segmentNotice_frame ..).csv
    exact same ▸ driven.csv
  · rfl

theorem State.emergencyOut_tsq {g : Segment} (recording : s.rcc.state = .recording) (held : s.rcc.record = some g)
    (reason : Code) (drives : Bool) :
    (s.emergencyOut reason drives).tsq = (if drives = true then s.driveEndingMode else s).tsq := by
  rw [State.emergencyOut_recording recording held]
  exact (State.segmentNotice_frame ..).tsq

theorem frameAdd_one (w x : Nat) : frameAdd w x 1 = (x + 1) % w := by
  unfold frameAdd
  exact congrArg Int.toNat (by push_cast; rfl : ((x : Int) + 1) % (w : Int) = (((x + 1) % w : Nat) : Int))

/-- What the sense record gives of a segment that ends where the tape stands (R148). -/
theorem State.senseRecord_at {g : Segment} {c : Settings} {x : Nat} (hc : s.dhd.config = some c) (hx : s.own = some x) (reason : Code) :
    (s.atOwnFrame g).senseRecord s.dayFrames reason =
      { code := reason, origin := .cue g.origin, address := some (x / 256),
        nextFrame := some ((x / 256 + 1) % c.standard.framesPerDay),
        remaining := g.duration.map fun d =>
          d - (((x / 256 : Nat) + 1 - g.inFrame : Int) % (c.standard.framesPerDay : Int)).toNat } := by
  have recorded := s.atOwnFrame_recorded g
  have days : s.dayFrames = c.standard.framesPerDay := by simp [State.dayFrames, State.standard_of_config hc]
  have origin : (s.atOwnFrame g).origin = g.origin := by
    unfold State.atOwnFrame
    split <;> rfl
  simp only [State.recordedTo, hc, hx, Prod.mk.injEq] at recorded
  simp only [Segment.senseRecord, recorded.1, recorded.2, days, origin, frameAdd_one]

end

end Sys2Proof.Machine

open Sys2Proof Sys2Proof.Machine

/-- Settles O57: the operation's report, the request it leaves, and the directive's own report, or the emergency out. -/
theorem abortEndsOperationAndSegment : Obligations.AbortEndsOperationAndSegment := by
  unfold Obligations.AbortEndsOperationAndSegment
  intro via s hobeys
  rw [exec_abortTransportOp hobeys]
  have tsq : (s.heard via).tsq = s.tsq := State.heard_tsq ..
  refine ⟨?cue, ?again, ?eject, ?nothing, ?held, ?noSegment, ?segment⟩
  case cue =>
    intro o pending kind empty new unseen
    rw [State.abortOp_cue (tsq ▸ pending) kind (tsq ▸ empty),
      State.drive_answered (m := .still) ⟨nofun, nofun⟩ (tsq ▸ new) (by rw [State.heard_pins]; exact Tally.mode_ne (by rfl) unseen), tsq]
  case again =>
    intro o pending kind empty same well
    rw [State.abortOp_cue (tsq ▸ pending) kind (tsq ▸ empty)]
    have freed : (s.heard via).setPending none = { s.heard via with tsq := { s.tsq with pendingOp := none } } := by
      rw [← tsq]
      rfl
    rw [freed, State.answer_tsq (t := { s.tsq with pendingOp := none }), State.answer_tsq (t := { s.tsq with
      state := .still, pendingOp := none, reqSpeed := 0, wait := if s.tsq.matched then none else s.tsq.wait }), State.setTransport,
      State.drive_still_again (by exact same) (by exact well) (by rfl) (by nofun)]
  case eject =>
    intro o pending kind empty new unseen
    rw [State.abortOp_eject (tsq ▸ pending) kind (tsq ▸ empty),
      State.drive_answered (m := .stop) ⟨nofun, nofun⟩ (tsq ▸ new) (by rw [State.heard_pins]; exact Tally.mode_ne (by rfl) unseen), tsq, kind]
    rfl
  case nothing =>
    intro clear empty
    rw [State.abortOp_idle (tsq ▸ clear) (tsq ▸ empty)]
  case held =>
    intro h clear held
    rw [State.abortOp_held (tsq ▸ clear) (tsq ▸ held), tsq]
  case noSegment =>
    intro none empty
    rw [exec_abortSegment hobeys]
    have same : (s.heard via).emergencyOut .aborted true = s.heard via := by
      unfold State.emergencyOut
      split
      · rename_i recording _
        exact absurd ((congrArg Rcc.state (State.heard_rcc ..).symm).trans recording) none
      · rfl
    rw [State.abortSegment, same, State.settle_none (tsq ▸ empty)]
  case segment =>
    intro g own c recording held hown hc
    refine ⟨_, exec_abortSegment hobeys, ?_⟩
    have config : (s.heard via).dhd.config = some c := by rw [State.heard_dhd]; exact hc
    have own' : (s.heard via).own = some own := by
      rw [← hown]
      simp only [State.own, State.heard_psu, State.heard_dhd]
    have room : s.Room (s.heard via) :=
      ⟨by rw [State.heard_dhd], by rw [State.heard_dhd], by simp, by rw [State.heard_lpt],
        by simp [Lif.nonAnnouncements], fun quiet => by simp [Lif.nonAnnouncements, quiet]⟩
    have rcc : (s.heard via).rcc = s.rcc := State.heard_rcc ..
    have recorded := State.recordedTo_congr room.config (State.heard_psu via s) g
    have psu : (s.heard via).psu = s.psu := State.heard_psu ..
    have ten : (s.heard via).ten = s.ten := State.heard_ten ..
    have cul : (s.heard via).cul = s.cul := State.heard_cul ..
    have pins : (s.heard via).pins = s.pins := State.heard_pins ..
    have csv : (s.heard via).csv = s.csv := State.heard_csv ..
    rw [← rcc] at recording held
    generalize s.heard via = u at *
    have rests := State.emergencyOut_rcc recording held .aborted true
    obtain ⟨sense, aborted⟩ := State.emergencyOut_records recording held .aborted true
    have gap : u.gapFields = 2 * c.turnaround := by simp [State.gapFields, config]
    have work := (u.emergencyOut_work .aborted true).trans (State.settle_work _)
    have settled := (u.emergencyOut .aborted true).settle_deck
    have paced := (u.emergencyOut .aborted true).settle_paced
    unfold State.abortSegment
    refine ⟨?_, ?_, ?_, ?_, settled.events _ aborted, ?_, ?_, ?_, work.psu.trans psu, work.ten.trans ten, work.cul.trans cul,
      work.pins.trans pins, ?_, work.by⟩
    · rw [settled.rcc, rests]
    · rw [settled.rcc, rests, gap]
      simp
    · rw [settled.rcc, rests, gap]
    · rw [settled.rcc, rests, rcc]
    · rw [paced.sense, sense, State.senseRecord_at config own']
    · intro quiet
      have idle : u.unhurried := by
        rw [State.unhurried, tsq]
        exact quiet.2
      exact .later (.of_room room (recorded ▸ State.emergencyOut_noticed recording held true fun _ => idle)) (State.settle_by _)
    · intro state empty record well
      have driven := State.drive_brief .play 0 0 (u.setTransport .playing)
      have out : (u.emergencyOut .aborted true).tsq = ((u.setTransport .playing).drive .play 0 0).tsq := by
        rw [State.emergencyOut_tsq recording held, if_pos rfl, State.driveEndingMode, tsq, state]
      have slot : (u.emergencyOut .aborted true).tsq.slot = none := by
        rw [out]
        exact State.slot_none_iff.mp (driven.slot.trans (State.slot_none_iff.mpr ((congrArg Tsq.slot tsq).trans empty)))
      rw [State.settle_none slot, out]
      have calm : u.tsq.recovery ≠ .recoveryWait := by simp [tsq, well]
      exact ⟨driven.state (.inl calm) (.inl nofun), driven.mode⟩
    · rw [paced.state, State.emergencyOut_chase, csv]

end

section
/-! SUPPORT. TRANSPORT STOP (R87, R92, R98). -/

namespace Sys2Proof.Machine

section
variable {s : State}

theorem State.endPending_tsq (a b : Code) (s : State) : (s.endPending a b).tsq = { s.tsq with pendingOp := none } := by
  unfold State.endPending
  split
  · rename_i clear
    rw [← clear]
  · split
    · rfl
    all_goals exact (State.answer_frame ..).tsq

theorem State.emptySlot_tsq (c : Code) (s : State) : (s.emptySlot c).tsq = { s.tsq with slot := none } := by
  unfold State.emptySlot
  split
  · exact (State.answer_frame ..).tsq
  · rename_i empty
    rw [← empty]

theorem State.onMatched_pendingOp (idle : s.unhurried) : s.onMatched.tsq.pendingOp = none := by
  have follow (t : State) : t.matchFollow.tsq = t.tsq := by
    unfold State.matchFollow
    repeat' split
    all_goals rfl
  have recovered := State.matchRecovery_pendingOp { s with tsq := { s.tsq with matched := true, wait := none } }
  unfold State.onMatched
  rw [follow, State.matchPending_unhurried (by unfold State.unhurried; rw [recovered]; exact idle)]
  rfl

/-- A MODE record stands through a request, or its wait is over at once (R91, R95). -/
theorem State.drive_pendingOp (m : ReqMode) (v : Int) (k : BitVec 5) (idle : s.unhurried) :
    (s.drive m v k).tsq.pendingOp = none ∨ (s.drive m v k).tsq.pendingOp = s.tsq.pendingOp := by
  by_cases same : s.tsq.reqMode = m
  · by_cases met : s.tsq.matched = true
    · rw [State.drive_met same met]
      exact .inl (State.onMatched_pendingOp (by exact idle))
    · rw [State.drive_again same (Bool.eq_false_iff.mpr met)]
      exact .inr rfl
  · by_cases seen : Tally.mode s.pins.tally = some m
    · rw [State.drive_shown same seen]
      exact .inl (State.onMatched_pendingOp (by exact idle))
    · rw [State.drive_asks same seen]
      exact .inr rfl

/-! ### The operation, the slot, the chase and the segment are over -/

/-- What TRANSPORT STOP leaves before STOP is asked for (R92). -/
def State.halted (s : State) : State :=
  ((s.endPending .cueAborted .aborted).emptySlot .superseded).chaseOff.emergencyOut .aborted false

theorem State.halted_tsq (s : State) : s.halted.tsq = { s.tsq with pendingOp := none, slot := none } := by
  unfold State.halted
  rw [(State.emergencyOut_undriven ..).1]
  exact (State.emptySlot_tsq ..).trans (by rw [State.endPending_tsq])

theorem State.halted_work (s : State) : s.Work s.halted :=
  (((s.endPending_work ..).trans (State.emptySlot_work ..)).trans (State.chaseOff_work _)).trans (State.emergencyOut_work ..)

theorem State.halted_csv (s : State) : s.halted.csv.state = .off := by
  unfold State.halted
  rw [(State.emergencyOut_undriven ..).2]
  rfl

/-- What stands before the segment ends: the segment itself. -/
theorem State.halting_rcc (s : State) : (((s.endPending .cueAborted .aborted).emptySlot .superseded).chaseOff).rcc = s.rcc :=
  ((s.endPending_deck ..).trans (State.emptySlot_deck ..)).rcc

theorem State.halted_ends (holds : s.rcc.state = .recording → s.rcc.record.isSome = true) : s.halted.rcc.state ≠ .recording :=
  State.emergencyOut_ends _ _ _ (by rw [State.halting_rcc]; exact holds)

theorem State.halted_records {g : Segment} (recording : s.rcc.state = .recording) (held : s.rcc.record = some g) :
    s.halted.holdsEvent .segmentAborted = true ∧ s.halted.dhd.sense.map (·.code) = some .aborted := by
  obtain ⟨sense, aborted⟩ := State.emergencyOut_records (s := ((s.endPending .cueAborted .aborted).emptySlot .superseded).chaseOff)
    (g := g) (by rw [State.halting_rcc]; exact recording) (by rw [State.halting_rcc]; exact held) .aborted false
  exact ⟨aborted, congrArg (Option.map (·.code)) sense⟩

theorem State.halted_noticed {g : Segment} (recording : s.rcc.state = .recording) (held : s.rcc.record = some g)
    (quiet : s.nothingToReport) : s.SegmentNoticed s.halted g .aborted (s.recordedTo g) := by
  have idle : s.unhurried := quiet.2
  have ended : ((s.endPending .cueAborted .aborted).emptySlot .superseded) = s.setPending none := by
    rw [State.endPending_unhurried _ _ idle, State.emptySlot_none _ (by exact quiet.1)]
  unfold State.halted
  rw [ended]
  have room : s.Room (s.setPending none).chaseOff := State.Mute.room ⟨rfl, rfl, rfl⟩
  exact .of_room room (State.emergencyOut_noticed (s := (s.setPending none).chaseOff) recording held false nofun)

/-! ### STOP asked for, or tried -/

/-- STOP as TRANSPORT STOP leaves it: tried in FAULTED, asked for elsewhere (R92). -/
def State.askStop (o : PendingOp) (s : State) : State :=
  if s.tsq.state = .faulted then s.tryStop else ((s.setTransport .stopped).setPending (some o)).drive .stop 0 0

theorem State.askStop_work (o : PendingOp) (s : State) : s.Work (s.askStop o) :=
  .ite (State.tryStop_work _) (((s.tsq_work _ (by rfl)).trans (State.tsq_work _ _ (by rfl))).trans (State.drive_work ..))

theorem State.askStop_paced (o : PendingOp) (s : State) : s.Paced (s.askStop o) := by
  unfold State.askStop
  split
  · exact State.tryStop_paced s
  · exact ((s.tsq_paced _).trans (State.tsq_paced _ _)).trans (State.drive_paced .stop 0 0 _)

theorem State.askStop_rcc (o : PendingOp) (s : State) : (s.askStop o).rcc = s.rcc := by
  unfold State.askStop
  split
  · exact (State.tryStop_deck _).rcc
  · exact (State.drive_deck ..).rcc

theorem State.askStop_slot (o : PendingOp) (empty : s.tsq.slot = none) : (s.askStop o).tsq.slot = none := by
  unfold State.askStop
  refine State.slot_none_iff.mp ?_
  have held : s.brief.held = false := State.slot_none_iff.mpr empty
  split
  · exact (State.startWait_brief _).slot.trans held
  · exact (State.drive_brief ..).slot.trans held

theorem State.transportStop_taken (seq : Byte) (origin : Origin) (tape : s.tsq.state ≠ .unthreaded) :
    s.transportStop seq origin = (s.halted.askStop (pendingOf .mode .nobody seq origin 0), replyOf .done) := by
  have slot := State.askStop_slot (s := s.halted) (pendingOf .mode .nobody seq origin 0) (by rw [State.halted_tsq])
  unfold State.transportStop
  rw [if_neg tape]
  exact Prod.ext (State.settle_none slot) rfl

theorem State.askStop_asks {o : PendingOp} (sound : s.tsq.state ≠ .faulted) (kind : o.kind = .mode) :
    (s.askStop o).tsq.state = .stopped ∧ (s.askStop o).tsq.reqMode = .stop ∧
      ((s.askStop o).tsq.pendingOp = none ∨ (s.askStop o).tsq.pendingOp = some o) ∧
      (s.tsq.reqMode ≠ .stop → s.pins.tally ≠ .stop →
        (s.askStop o).tsq.pendingOp = some o ∧ (s.askStop o).tsq.wait = some { settle := 0, busy := 0 }) := by
  have driven := State.drive_brief .stop 0 0 ((s.setTransport .stopped).setPending (some o))
  have mode : ((s.setTransport .stopped).setPending (some o)).unhurried := by
    rintro o' ⟨⟩
    exact kind
  unfold State.askStop
  rw [if_neg sound]
  refine ⟨driven.state (.inr rfl) (.inl nofun), driven.mode, State.drive_pendingOp _ _ _ mode, fun new unseen => ?_⟩
  rw [State.drive_asks (by exact new) (by exact Tally.mode_ne (by rfl) unseen)]
  exact ⟨rfl, rfl⟩

theorem State.askStop_tries {o : PendingOp} (faulted : s.tsq.state = .faulted) (stop : s.tsq.reqMode = .stop)
    (unseen : s.pins.tally ≠ .stop) :
    (s.askStop o).tsq.state = .faulted ∧ (s.askStop o).tsq.recovery = .recoveryWait ∧
      (s.askStop o).tsq.wait = some { settle := 0, busy := 0 } := by
  unfold State.askStop
  rw [if_pos faulted, State.tryStop, State.startWait_asks (by rw [stop]; exact Tally.mode_ne (by rfl) unseen)]
  exact ⟨faulted, rfl, rfl⟩

end

theorem exec_transportStop {via : Via} {s : State} (hobeys : s.obeysTape via 2 = true) :
    exec (.transportStop via []) s =
      .next (((s.heard via).transportStop (Via.seq via) (.directive 0x05)).1.reply (Via.issuer via) (Via.seq via) 0x05
        ((s.heard via).transportStop (Via.seq via) (.directive 0x05)).2) :=
  exec_tape (type := 0x05) (q := [0]) (d := .transportStop) rfl rfl hobeys rfl rfl fun _ _ =>
    (parseParams_configured (p := [0x05, 0]) (Nat.le_refl 2) (show 5 ≤ (0x05 : Byte).toNat by decide)).trans
      ((parseConfigured_transport rfl).trans rfl)

/-- Hearing a directive leaves the room for messages as it is. -/
theorem State.heard_room (via : Via) (s : State) : s.Room (s.heard via) :=
  ⟨by rw [State.heard_dhd], by rw [State.heard_dhd], by simp, by rw [State.heard_lpt],
    by simp [Lif.nonAnnouncements], fun quiet => by simp [Lif.nonAnnouncements, quiet]⟩

end Sys2Proof.Machine

open Sys2Proof Sys2Proof.Machine

/-- Settles O45: first all work ends, then STOP is asked for, or tried in FAULTED; the slot is empty by then. -/
theorem transportStopStopsTheDeck : Obligations.TransportStopStopsTheDeck := by
  unfold Obligations.TransportStopStopsTheDeck
  intro via s hobeys holds record
  have tsq : (s.heard via).tsq = s.tsq := State.heard_tsq ..
  have rcc : (s.heard via).rcc = s.rcc := State.heard_rcc ..
  have room := s.heard_room via
  have recorded (g : Segment) := State.recordedTo_congr room.config (State.heard_psu via s) g
  have pins : (s.heard via).pins = s.pins := State.heard_pins ..
  have csv : (s.heard via).csv = s.csv := State.heard_csv ..
  have stands : (s.heard via).psu = s.psu ∧ (s.heard via).ten = s.ten ∧ (s.heard via).cul = s.cul := by simp
  rw [exec_transportStop hobeys]
  generalize s.heard via = u at *
  refine ⟨fun noTape => ?_, fun tape => ?_⟩
  · have refused : u.transportStop (Via.seq via) (.directive 0x05) = (u, replyOf .noTape) := if_pos (tsq ▸ noTape)
    rw [refused]
    rfl
  · rw [State.transportStop_taken _ _ (tsq ▸ tape)]
    refine ⟨u.halted.askStop record, rfl, ?_⟩
    have work := u.halted_work.trans (u.halted.askStop_work record)
    have paced := u.halted.askStop_paced record
    have halted := u.halted_tsq
    have out := u.halted.askStop_rcc record
    have asks := u.halted.askStop_work record |>.by
    refine ⟨paced.state.trans u.halted_csv, work.chaseRecord.trans (by rw [csv]), ?_, work.zones.trans (by rw [rcc]),
      State.askStop_slot _ (by rw [halted]), fun recording => ?_, fun g recording held quiet => ?_, fun sound => ?_,
      fun faulted stop unseen => ?_, work.psu.trans stands.1, work.ten.trans stands.2.1, work.cul.trans stands.2.2,
      work.pins.trans pins, work.by⟩
    · rw [out]
      exact State.halted_ends (by rw [rcc]; exact holds)
    · obtain ⟨g, held⟩ := Option.isSome_iff_exists.mp (holds recording)
      obtain ⟨aborted, sense⟩ := State.halted_records (s := u) (by rw [rcc]; exact recording) (by rw [rcc]; exact held)
      exact ⟨asks.events _ aborted, by rw [paced.sense]; exact sense⟩
    · have noticed := State.halted_noticed (s := u) (g := g) (by rw [rcc]; exact recording) (by rw [rcc]; exact held)
        (by rw [State.nothingToReport, tsq]; exact quiet)
      rw [recorded g] at noticed
      exact .later (.of_room room noticed) asks
    · have asked := State.askStop_asks (s := u.halted) (o := record) (by rw [halted, tsq]; exact sound) rfl
      rw [halted, u.halted_work.pins, tsq, pins] at asked
      exact asked
    · have tried := State.askStop_tries (s := u.halted) (o := record)
      rw [halted, u.halted_work.pins, tsq, pins] at tried
      exact tried faulted stop unseen

end

section
/-! SUPPORT. TRANSPORT STILL, PLAY, SHUTTLE and EJECT (R91, R97). -/

namespace Sys2Proof.Machine

section
variable {s : State} {m : Motion} {issuer : Issuer} {seq : Byte}

/-! ### The verdict (R91, R93) -/

/-- The transport takes a motion, now or later: a tape, no chase, no recording and no fault (R91). -/
def State.takesMotions (s : State) : Prop :=
  s.tsq.state ≠ .unthreaded ∧ s.csv.state = .off ∧ s.tsq.state ≠ .recording ∧ (s.tsq.state = .faulted → s.tsq.recovery ≠ .idle)

theorem State.motionVerdict_free (free : s.takesMotions) (known : m.isSeek = true → s.psu.source ≠ .noSource) :
    s.motionVerdict m = if s.settled then .take else .hold := by
  obtain ⟨tape, off, alone, sound⟩ := free
  unfold State.motionVerdict
  rw [if_neg tape, if_neg (not_not.mpr off), if_neg alone, if_neg (fun h => sound h.1 h.2), if_neg (fun h => known h.1 h.2)]

theorem State.requestMotion_held (free : s.takesMotions) (known : m.isSeek = true → s.psu.source ≠ .noSource)
    (busy : s.settled = false) (empty : s.tsq.slot = none) :
    s.requestMotion m issuer seq =
      ({ s with tsq := { s.tsq with slot := some { motion := m, issuer := issuer, seq := seq, age := 0 } } }, none) := by
  unfold State.requestMotion
  rw [State.motionVerdict_free free known, busy]
  simp [empty]

theorem State.requestMotion_busy (free : s.takesMotions) (known : m.isSeek = true → s.psu.source ≠ .noSource)
    (busy : s.settled = false) (full : s.tsq.slot ≠ none) : s.requestMotion m issuer seq = (s, replyOf .busy) := by
  unfold State.requestMotion
  rw [State.motionVerdict_free free known, busy]
  simp [Option.isSome_iff_ne_none.mpr full]

theorem State.requestMotion_taken (free : s.takesMotions) (known : m.isSeek = true → s.psu.source ≠ .noSource)
    (settled : s.settled = true) : s.requestMotion m issuer seq = s.takeMotion m issuer seq := by
  unfold State.requestMotion
  rw [State.motionVerdict_free free known, settled]
  rfl

theorem State.requestMotion_refused {c : Code} (verdict : s.motionVerdict m = .refuse c) :
    s.requestMotion m issuer seq = (s, replyOf c) := by
  unfold State.requestMotion
  rw [verdict]

theorem State.motionVerdict_noTape (gone : s.tsq.state = .unthreaded) : s.motionVerdict m = .refuse .noTape := if_pos gone

theorem State.motionVerdict_chased (tape : s.tsq.state ≠ .unthreaded) (active : s.csv.state ≠ .off) :
    s.motionVerdict m = .refuse .chaseActive := by
  unfold State.motionVerdict
  rw [if_neg tape, if_pos active]

theorem State.motionVerdict_notReady (off : s.csv.state = .off)
    (busy : s.tsq.state = .recording ∨ (s.tsq.state = .faulted ∧ s.tsq.recovery = .idle)) :
    s.motionVerdict m = .refuse .transportNotReady := by
  have tape : s.tsq.state ≠ .unthreaded := by
    obtain h | ⟨h, -⟩ := busy <;> simp [h]
  unfold State.motionVerdict
  rw [if_neg tape, if_neg (not_not.mpr off)]
  split
  · rfl
  · rename_i alone
    rw [if_pos (busy.resolve_left alone)]

theorem State.motionVerdict_lost (free : s.takesMotions) (seek : m.isSeek = true) (source : s.psu.source = .noSource) :
    s.motionVerdict m = .refuse .positionUnknown := by
  obtain ⟨tape, off, alone, sound⟩ := free
  unfold State.motionVerdict
  rw [if_neg tape, if_neg (not_not.mpr off), if_neg alone, if_neg (fun h => sound h.1 h.2), if_pos ⟨seek, source⟩]

end

/-! ### The directives -/

section
variable {via : Via} {hi lo : Byte} {s : State}

theorem intAt16_eq_append (p : List Byte) (i : Nat) : intAt16 p i = (byteAt p i ++ byteAt p (i + 1) : BitVec 16).toInt := by
  rw [intAt16, natAt16_eq_append, BitVec.ofNat_toNat, BitVec.setWidth_eq]

/-- A motion directive is handed to the transport, and answered at once where it is judged at once (R69, R70). -/
theorem exec_motion {i : Instr} {q : List Byte} {m : Motion} {n : Nat} (row : directiveOf i = some (via, 0x05 :: q))
    (hn : n = q.length + 1) (hobeys : s.obeysTape via n = true)
    (long : requiredLength (0x05 :: q) ≤ q.length + 1) (parsed : parseTransport (0x05 :: q) = .ok (.motion m)) :
    exec i s = .next (((s.heard via).requestMotion m (Via.issuer via) (Via.seq via)).1.reply (Via.issuer via) (Via.seq via) 0x05
      ((s.heard via).requestMotion m (Via.issuer via) (Via.seq via)).2) :=
  exec_tape (d := .motion m) row hn hobeys rfl rfl fun _ _ =>
    (parseParams_configured (p := 0x05 :: q) long (show 5 ≤ (0x05 : Byte).toNat by decide)).trans
      ((parseConfigured_transport rfl).trans parsed)

/-- The answer to a motion, as the owner gives it (R69). -/
abbrev State.motionAnswered (via : Via) (m : Motion) (s : State) : State :=
  ((s.heard via).requestMotion m (Via.issuer via) (Via.seq via)).1.reply (Via.issuer via) (Via.seq via) 0x05
    ((s.heard via).requestMotion m (Via.issuer via) (Via.seq via)).2

theorem exec_transportStill (hobeys : s.obeysTape via 2 = true) :
    exec (.transportStill via []) s = .next (s.motionAnswered via .still) :=
  exec_motion (q := [1]) rfl rfl hobeys (Nat.le_refl 2) rfl

theorem exec_transportPlay (hobeys : s.obeysTape via 2 = true) :
    exec (.transportPlay via []) s = .next (s.motionAnswered via .play) :=
  exec_motion (q := [2]) rfl rfl hobeys (Nat.le_refl 2) rfl

theorem exec_transportEject (hobeys : s.obeysTape via 2 = true) :
    exec (.transportEject via []) s = .next (s.motionAnswered via .eject) :=
  exec_motion (q := [4]) rfl rfl hobeys (Nat.le_refl 2) rfl

theorem exec_transportShuttle (hobeys : s.obeysTape via 4 = true) (range : (hi ++ lo : BitVec 16) ≠ 0x8000#16) :
    exec (.transportShuttle via [hi, lo]) s = .next (s.motionAnswered via (.shuttle (hi ++ lo : BitVec 16).toInt)) := by
  have word : intAt16 [0x05, 3, hi, lo] 2 = (hi ++ lo : BitVec 16).toInt := intAt16_eq_append [0x05, 3, hi, lo] 2
  have inside : (hi ++ lo : BitVec 16).toInt ≠ -32768 := fun least => range (BitVec.eq_of_toInt_eq (least.trans (by decide)))
  refine exec_motion (q := [3, hi, lo]) rfl rfl hobeys (Nat.le_refl 4) ?_
  exact (if_neg (by rw [word]; exact inside)).trans (by rw [word])

theorem State.obeysTape_mono {n k : Nat} (h : s.obeysTape via n = true) (few : k ≤ n) : s.obeysTape via k = true := by
  obtain ⟨obeys, fitted⟩ := (State.obeysTape_iff ..).mp h
  exact (State.obeysTape_iff ..).mpr ⟨State.obeys_mono obeys few, fitted⟩

end

end Sys2Proof.Machine

open Sys2Proof Sys2Proof.Machine

/-- Settles O46: the four bytes spell the motion, R91's verdict on it is one of its lines, and a motion taken asks for its mode. -/
theorem transportModesAreRequested : Obligations.TransportModesAreRequested := by
  unfold Obligations.TransportModesAreRequested
  intro via hi lo s c hc hobeys range pendingAs asked free settled v
  have short : s.obeysTape via 2 = true := State.obeysTape_mono hobeys (by decide)
  have tsq : (s.heard via).tsq = s.tsq := State.heard_tsq ..
  have pins : (s.heard via).pins = s.pins := State.heard_pins ..
  have csv : (s.heard via).csv = s.csv := State.heard_csv ..
  have limit : (s.heard via).shuttleLimit = c.shuttleLimit := by simp [State.shuttleLimit, hc]
  have takes (h : free) : (s.heard via).takesMotions := by
    unfold State.takesMotions
    rw [tsq, csv]
    exact h
  have settles : (s.heard via).settled = true ↔ settled := by rw [State.settled_iff, tsq]
  refine ⟨fun hfree hsettled => ?_, fun i m given => ?_⟩
  · have taken {m : Motion} (plain : m.isSeek = false) :
        s.motionAnswered via m = ((s.heard via).takeMotion m (Via.issuer via) (Via.seq via)).1.reply (Via.issuer via) (Via.seq via)
          0x05 ((s.heard via).takeMotion m (Via.issuer via) (Via.seq via)).2 := by
      rw [State.motionAnswered, State.requestMotion_taken (takes hfree) (by simp [plain]) (settles.mpr hsettled)]
    have mode {t : TransportState} {r : ReqMode} {speed : Int} (new : s.tsq.reqMode ≠ r)
        (unseen : Tally.mode s.pins.tally ≠ some r) (plain : r ≠ .record) :
        (s.heard via).takeMode t r speed (Via.issuer via) (Via.seq via) (.directive 0x05) =
          asked t r ((s.heard via).askedSpeed r speed) .mode := by
      rw [State.takeMode, State.drive_asks (by rw [← tsq] at new; exact new) (by rw [← pins] at unseen; exact unseen)]
      simp only [State.asked, plain, if_false, asked, ← tsq]
      rfl
    refine ⟨fun new unseen => ?_, fun new unseen => ?_, fun new unseen => ?_, fun new unseen => ?_⟩
    · rw [exec_transportStill short, taken rfl, State.takeMotion, mode new (Tally.mode_ne (by rfl) unseen) nofun]
      rfl
    · rw [exec_transportPlay short, taken rfl, State.takeMotion, mode new (Tally.mode_ne (by rfl) unseen) nofun]
      rfl
    · rw [exec_transportShuttle hobeys range, taken rfl, State.takeMotion, mode new (Tally.mode_ne (by rfl) unseen) nofun,
        ← limit]
      rfl
    · rw [exec_transportEject short, taken rfl, State.takeMotion]
      dsimp only
      rw [State.drive_asks (by rw [← tsq] at new; exact new) (by rw [← pins] at unseen; exact Tally.mode_ne (by rfl) unseen)]
      simp only [State.reply, State.asked, asked, ← tsq]
      rfl
  · have answered : exec i s = .next (s.motionAnswered via m) ∧ m.isSeek = false := by
      obtain ⟨rfl, rfl⟩ | ⟨rfl, rfl⟩ | ⟨rfl, rfl⟩ | ⟨rfl, rfl⟩ := given
      · exact ⟨exec_transportStill short, rfl⟩
      · exact ⟨exec_transportPlay short, rfl⟩
      · exact ⟨exec_transportShuttle hobeys range, rfl⟩
      · exact ⟨exec_transportEject short, rfl⟩
    obtain ⟨row, plain⟩ := answered
    have known : m.isSeek = true → (s.heard via).psu.source ≠ .noSource := by simp [plain]
    have busy (h : ¬ settled) : (s.heard via).settled = false := Bool.eq_false_iff.mpr (settles.not.mpr h)
    have refused {code : Code} (verdict : (s.heard via).motionVerdict m = .refuse code) :
        exec i s = .next ((s.heard via).report via 0x05 code []) := by
      rw [row, State.motionAnswered, State.requestMotion_refused verdict]
      rfl
    rw [← tsq, ← csv]
    refine ⟨fun hfree unsettled empty => ?_, fun hfree unsettled full => ?_, fun gone => refused (State.motionVerdict_noTape gone),
      fun tape active => refused (State.motionVerdict_chased tape active),
      fun off busy => refused (State.motionVerdict_notReady off busy)⟩
    · rw [row, State.motionAnswered, State.requestMotion_held (takes hfree) known (busy unsettled) empty]
      rfl
    · rw [row, State.motionAnswered, State.requestMotion_busy (takes hfree) known (busy unsettled) full]
      rfl

end

section
/-! SUPPORT. What ends chase and segment at once, and the tape's coming and going (R89, R90, R120, R147). -/

namespace Sys2Proof.Machine

/-! ### Chase and segment cut off -/

/-- The chase OFF and the segment ended with a cause, the request being the transport's own (R120, R147). -/
def State.cutOff (c : Code) (s : State) : State := s.chaseOff.emergencyOut c false

section
variable {s : State} {c : Code} {g : Segment}

theorem State.cutOff_tsq (c : Code) (s : State) : (s.cutOff c).tsq = s.tsq := (State.emergencyOut_undriven ..).1

theorem State.cutOff_csv (c : Code) (s : State) : (s.cutOff c).csv = s.chaseOff.csv := (State.emergencyOut_undriven ..).2

theorem State.cutOff_work (c : Code) (s : State) : s.Work (s.cutOff c) := (s.chaseOff_work).trans (State.emergencyOut_work ..)

theorem State.cutOff_ends (c : Code) (holds : s.rcc.state = .recording → s.rcc.record.isSome = true) :
    (s.cutOff c).rcc.state ≠ .recording := State.emergencyOut_ends _ _ _ holds

theorem State.cutOff_records (recording : s.rcc.state = .recording) (held : s.rcc.record = some g) :
    (s.cutOff c).holdsEvent .segmentAborted = true ∧ (s.cutOff c).dhd.sense.map (·.code) = some c := by
  obtain ⟨sense, aborted⟩ := State.emergencyOut_records (s := s.chaseOff) recording held c false
  exact ⟨aborted, congrArg (Option.map (·.code)) sense⟩

theorem State.cutOff_idle (idle : s.rcc.state ≠ .recording) : s.cutOff c = s.chaseOff := by
  unfold State.cutOff State.emergencyOut
  split
  · rename_i recording _
    exact absurd recording idle
  · rfl

theorem State.cutOff_noticed (recording : s.rcc.state = .recording) (held : s.rcc.record = some g) :
    s.SegmentNoticed (s.cutOff c) g c (s.recordedTo g) :=
  .of_room (State.Mute.room ⟨rfl, rfl, rfl⟩) (State.emergencyOut_noticed (s := s.chaseOff) recording held false nofun)

/-! ### A directive released and refused (R97) -/

theorem State.settle_refused {h : Held} {code : Code} (held : s.tsq.slot = some h) (settled : s.settled = true)
    (verdict : ({ s with tsq := { s.tsq with slot := none } } : State).motionVerdict h.motion = .refuse code) :
    s.settle = ({ s with tsq := { s.tsq with slot := none } } : State).answer h.issuer h.seq h.motion.typeByte code [] := by
  unfold State.settle
  rw [held]
  dsimp only
  rw [if_pos settled, State.requestMotion_refused verdict]
  rfl

/-- With no tape, what is held is released and refused: nothing else comes of a settling. -/
theorem State.settle_unthreaded (gone : s.tsq.state = .unthreaded) (settled : s.settled = true) :
    s.settle.tsq = { s.tsq with slot := none } := by
  cases held : s.tsq.slot with
  | none => rw [State.settle_none held, ← held]
  | some h =>
    rw [State.settle_refused held settled (State.motionVerdict_noTape (by exact gone))]
    exact (State.answer_frame ..).tsq

/-! ### The tape goes (R89) -/

theorem State.loseTape_tsq (s : State) : s.loseTape.tsq = { s.tsq with pendingOp := none } := by
  unfold State.loseTape
  split
  · split <;> exact State.endPending_tsq ..
  · rename_i clear
    rw [← clear]

theorem State.loseTape_unhurried (idle : s.unhurried) : s.loseTape = s.setPending none := by
  unfold State.loseTape
  split
  · rename_i o pending
    simp only [idle o pending]
    exact State.endPending_unhurried _ _ idle
  · rename_i clear
    exact (State.setPending_same clear).symm

theorem State.untaped_by (s : State) : s.Bystanders s.untaped :=
  ⟨rfl, rfl, rfl, rfl, rfl, rfl, rfl, rfl, .refl _, rfl, List.prefix_rfl, rfl, fun _ h => h⟩

/-- The deck after the tape has gone. -/
theorem State.unthread_tsq (threaded : s.pins.threaded = true) (fitted : s.dhd.transportFitted = true) :
    s.unthread.tsq = { s.untaped.tsq with pendingOp := none, slot := none } := by
  have gone : (s.untaped.loseTape.cutOff .noTape).tsq = { s.untaped.tsq with pendingOp := none } := by
    rw [State.cutOff_tsq, State.loseTape_tsq]
  have settled : (s.untaped.loseTape.cutOff .noTape).settled = true := by
    rw [State.settled_iff, gone]
    exact ⟨nofun, nofun, rfl, rfl⟩
  rw [State.unthread_eq threaded fitted]
  exact (State.settle_unthreaded (s := s.untaped.loseTape.cutOff .noTape) (by rw [gone]; rfl) settled).trans (by rw [gone])

theorem State.unthread_work (threaded : s.pins.threaded = true) (fitted : s.dhd.transportFitted = true) :
    s.untaped.Work s.unthread := by
  rw [State.unthread_eq threaded fitted]
  exact (s.untaped.loseTape_work.trans (State.cutOff_work .noTape _)).trans (State.settle_work _)

theorem State.unthread_noticed (threaded : s.pins.threaded = true) (fitted : s.dhd.transportFitted = true)
    (recording : s.rcc.state = .recording) (held : s.rcc.record = some g) (quiet : s.nothingToReport) :
    s.SegmentNoticed s.unthread g .noTape (g.lastFrame, g.remaining) := by
  have idle : s.untaped.unhurried := quiet.2
  have room : s.Room (s.untaped.setPending none) := State.Mute.room ⟨rfl, rfl, rfl⟩
  have lost : (s.untaped.setPending none).recordedTo g = (g.lastFrame, g.remaining) := by
    unfold State.recordedTo
    rw [State.own_of_noSource (s := s.untaped.setPending none) rfl]
    cases (s.untaped.setPending none).dhd.config <;> rfl
  rw [State.unthread_eq threaded fitted, State.loseTape_unhurried idle, ← lost]
  exact .later (.of_room room (State.cutOff_noticed (c := .noTape) (s := s.untaped.setPending none) recording held))
    (State.settle_by _)

theorem State.unthread_ends (threaded : s.pins.threaded = true) (fitted : s.dhd.transportFitted = true)
    (holds : s.rcc.state = .recording → s.rcc.record.isSome = true) :
    s.unthread.rcc.state ≠ .recording ∧ s.unthread.csv.state = .off := by
  have same : s.untaped.loseTape.rcc = s.rcc := by
    unfold State.loseTape
    split
    · split
      all_goals exact (State.endPending_deck ..).rcc
    · rfl
  have off := congrArg Csv.state (State.cutOff_csv .noTape s.untaped.loseTape)
  rw [State.unthread_eq threaded fitted]
  refine ⟨?_, (State.settle_paced _).state.trans off⟩
  rw [(State.settle_deck _).rcc]
  exact State.cutOff_ends .noTape (by rw [same]; exact holds)

end

end Sys2Proof.Machine

open Sys2Proof Sys2Proof.Machine

/-- Settles O34: the fall ends operation, chase and segment one after the other; the rise asks afresh for what stood requested. -/
theorem threadingChangesTheTransport : Obligations.ThreadingChangesTheTransport := by
  unfold Obligations.ThreadingChangesTheTransport
  intro s fitted
  refine ⟨fun threaded holds => ⟨s.unthread, rfl, ?_⟩, fun bare ready unseen => ?_, fun bare fresh => ?_,
    fun bare => congrArg Host.Outcome.next (if_neg (by simp [bare])), fun threaded => congrArg Host.Outcome.next (if_pos threaded)⟩
  · have work := State.unthread_work threaded fitted
    have tsq := State.unthread_tsq threaded fitted
    obtain ⟨ends, off⟩ := State.unthread_ends threaded fitted holds
    refine ⟨work.pins, work.psu, State.own_of_noSource (by rw [work.psu]; rfl), by rw [tsq]; rfl, by rw [tsq]; rfl, by rw [tsq]; rfl,
      by rw [tsq]; rfl, by rw [tsq]; rfl, by rw [tsq]; rfl, by rw [tsq], by rw [tsq], off, work.chaseRecord, ends, work.zones, work.ten, work.cul,
      s.untaped_by.trans work.by, fun g recording held quiet => State.unthread_noticed threaded fitted recording held quiet⟩
  · refine congrArg Host.Outcome.next ?_
    unfold State.thread
    rw [if_neg (by simp [bare])]
    dsimp only
    rw [if_pos (by exact fitted), if_pos (by exact ready), State.startWait_asks (by exact unseen), State.settle_unsettled (by simp [State.settled])]
    rfl
  · refine congrArg Host.Outcome.next ?_
    unfold State.thread
    rw [if_neg (by simp [bare])]
    dsimp only
    rw [if_pos (by exact fitted), if_neg (by simp [State.setTransport, fresh])]
    rfl

end

section
/-! SUPPORT. A field start as the blocks find it, and a deck at work by itself (R42, R84, R86, R87, R97). -/

namespace Sys2Proof.Machine

/-! ### The field begun -/

/-- What the blocks' work at a field start begins with, beside the state before it (R42). -/
structure State.Begun (s u : State) (pins : FieldPins) : Prop where
  tsq : u.tsq = s.tsq
  csv : u.csv = s.csv
  cul : u.cul = s.cul
  rcc : u.rcc = { s.rcc with fresh := false }
  ten : u.ten = { s.ten with fresh := false }
  lpt : u.lpt = s.lpt
  pins : u.pins = { s.pins with field := pins }
  order : u.order = s.order
  config : u.dhd.config = s.dhd.config
  sense : u.dhd.sense = s.dhd.sense
  stn : u.dhd.stn = s.dhd.stn
  transportFitted : u.dhd.transportFitted = s.dhd.transportFitted
  channelFitted : u.dhd.channelFitted = s.dhd.channelFitted
  source : u.psu.source = s.psu.source
  own : u.own = s.own
  counter : u.ftu.counter = s.ftu.counter + 1
  listenOnly : u.lif.listenOnly = s.lif.listenOnly
  few : u.lif.nonAnnouncements ≤ s.lif.nonAnnouncements
  events : ∀ e, s.holdsEvent e = true → u.holdsEvent e = true

/-- Messages grow no more in number as a field ages them (R30). -/
theorem State.ageTxq_few (s : State) : s.ageTxq.lif.nonAnnouncements ≤ s.lif.nonAnnouncements := by
  have waiting : otherCount s.ageTxq.lif.waiting ≤ otherCount s.lif.waiting := by
    rw [s.ageTxq_waiting, ← otherCount_older s.lif.waiting]
    exact otherCount_sublist List.filter_sublist
  have sending : s.ageTxq.lif.otherSent = s.lif.otherSent := by
    unfold Lif.otherSent
    rw [s.ageTxq_sending]
    cases s.lif.sending <;> simp [TxMsg.older_isAnn]
  rw [Lif.nonAnnouncements_eq, Lif.nonAnnouncements_eq, sending]
  omega

theorem State.ageTxq_listenOnly (s : State) : s.ageTxq.lif.listenOnly = s.lif.listenOnly := by
  unfold State.ageTxq
  dsimp only
  split <;> rfl

theorem State.begun_of_timed {s r : State} (timed : s.Timed r) (p : Parity) (m : Nat) (x : FieldSource) (pins : FieldPins) :
    s.Begun (r.fieldBegun p m x pins) pins := by
  obtain ⟨counter, frame, lif, lpt, sense⟩ := timed
  have own : (r.fieldBegun p m x pins).own = r.own := by
    have same : ((r.markField p m x pins).measureSpeed.agePeers).own = r.own := rfl
    obtain h | h := r.fieldBegun_shape p m x pins <;> rw [h] <;> exact same
  have frameOwn : r.own = s.own := by
    unfold State.own
    rw [frame.psu, frame.config]
    rfl
  have source : r.psu.source = s.psu.source := congrArg Psu.source frame.psu
  have rest : s.Begun (r.markField p m x pins).measureSpeed.agePeers pins :=
    ⟨frame.tsq, frame.csv, frame.cul, congrArg (fun k : Rcc => { k with fresh := false }) frame.rcc,
      congrArg (fun k : Ten => { k with fresh := false }) frame.ten, lpt,
      congrArg (fun k : Pins => { k with field := pins }) frame.pins, frame.order, frame.config, sense, frame.stn, frame.transportFitted,
      frame.channelFitted, source, frameOwn, congrArg (· + 1) counter, congrArg Lif.listenOnly lif,
      le_of_eq (congrArg Lif.nonAnnouncements lif), fun e h => frame.events e h⟩
  have aged : (r.fieldBegun p m x pins).lif.listenOnly = s.lif.listenOnly ∧
      (r.fieldBegun p m x pins).lif.nonAnnouncements ≤ s.lif.nonAnnouncements :=
    ⟨(State.ageTxq_listenOnly _).trans rest.listenOnly, (State.ageTxq_few _).trans rest.few⟩
  have shape := r.fieldBegun_shape p m x pins
  obtain ⟨h1, h2, h3, h4, h5, h6, h7, h8, h9, h10, h11, h12, h13, h14, h15, h16, -, -, h19⟩ := rest
  have events (e : Event) (h : s.holdsEvent e = true) : (r.fieldBegun p m x pins).holdsEvent e = true := shape.events (h19 e h)
  obtain h | h := shape <;>
    exact ⟨by rw [h]; exact h1, by rw [h]; exact h2, by rw [h]; exact h3, by rw [h]; exact h4, by rw [h]; exact h5,
      by rw [h]; exact h6, by rw [h]; exact h7, by rw [h]; exact h8, by rw [h]; exact h9, by rw [h]; exact h10,
      by rw [h]; exact h11, by rw [h]; exact h12, by rw [h]; exact h13, by rw [h]; exact h14, own.trans frameOwn,
      by rw [h]; exact h16, aged.1, aged.2, events⟩

/-! ### Chase and segment at rest through the transport's work -/

/-- A chase that is OFF stays so, and the record of a segment that is not RECORDING stands. -/
structure State.Rests (s t : State) : Prop where
  rcc : s.rcc.state ≠ .recording → t.rcc = s.rcc
  off : s.csv.state = .off → t.csv.state = .off

theorem State.Rests.refl (s : State) : s.Rests s := ⟨fun _ => rfl, id⟩

theorem State.Rests.trans {s t u : State} (h : s.Rests t) (k : t.Rests u) : s.Rests u :=
  ⟨fun idle => (k.rcc (by rw [h.rcc idle]; exact idle)).trans (h.rcc idle), fun off => k.off (h.off off)⟩

theorem State.Rests.ite {s a b : State} {p : Prop} [Decidable p] (h : s.Rests a) (k : s.Rests b) :
    s.Rests (if p then a else b) := by split <;> assumption

theorem State.rests_of_paced {s t : State} (deck : s.DeckFrame t) (paced : s.Paced t) : s.Rests t :=
  ⟨fun _ => deck.rcc, fun off => paced.state.trans off⟩

theorem State.tsq_rests (q : Tsq) (s : State) : s.Rests { s with tsq := q } := ⟨fun _ => rfl, id⟩

theorem State.latch_rests (e : Event) (s : State) : s.Rests (s.latch e) := ⟨fun _ => rfl, id⟩

theorem State.writeSense_rests (r : Sense) (s : State) : s.Rests (s.writeSense r) := ⟨fun _ => rfl, id⟩

theorem State.settle_rests (s : State) : s.Rests s.settle := State.rests_of_paced s.settle_deck s.settle_paced

theorem State.cutOff_rests (c : Code) (s : State) : s.Rests (s.cutOff c) :=
  ⟨fun idle => by rw [State.cutOff_idle idle]; rfl, fun _ => by rw [State.cutOff_csv]; rfl⟩

/-- FAULTED, before recovery's count begins (R85, R86). -/
def State.stricken (cause : Code) (s : State) : State :=
  ((((s.setTransport .faulted).setRequest .stop).latch .transportFault).writeSense
    { code := cause, origin := s.opOrigin, address := none, nextFrame := none, remaining := none })

theorem State.enterFaulted_eq (cause : Code) (s : State) :
    s.enterFaulted cause =
      (let u := ((s.stricken cause).endPending cause cause).cutOff cause
       { u with tsq := { u.tsq with
          recovery := if (s.dhd.config.map (·.autoRecover)).getD false then .offTime 0 else .idle } }) := rfl

theorem State.enterFaulted_rests (cause : Code) (s : State) : s.Rests (s.enterFaulted cause) := by
  have stricken : s.Rests (s.stricken cause) := ⟨fun _ => rfl, id⟩
  exact ((stricken.trans (State.rests_of_paced (State.endPending_deck ..) (State.endPending_paced ..))).trans
    (State.cutOff_rests ..)).trans (State.tsq_rests _ _)

theorem State.waitRunsOut_rests (s : State) : s.Rests s.waitRunsOut :=
  .ite ((((s.tsq_rests _).trans (State.latch_rests ..)).trans (State.writeSense_rests ..)).trans (State.settle_rests _))
    ((s.enterFaulted_rests _).trans (State.settle_rests _))

theorem State.faultStep_rests (s : State) : s.Rests s.faultStep :=
  .ite (.refl s) (.ite (.ite (((s.tsq_rests _).trans (State.enterFaulted_rests ..)).trans (State.settle_rests _)) (s.tsq_rests _))
    (s.tsq_rests _))

theorem State.waitStep_rests (c : Settings) (s : State) : s.Rests (s.waitStep c) := by
  unfold State.waitStep
  split
  · exact .refl s
  · exact .ite (s.tsq_rests _) (.ite s.waitRunsOut_rests (s.tsq_rests _))

theorem State.tryStop_rests (s : State) : s.Rests s.tryStop := State.rests_of_paced s.tryStop_deck s.tryStop_paced

theorem State.recoveryStep_rests (c : Settings) (s : State) : s.Rests (s.recoveryStep c) := by
  unfold State.recoveryStep
  split
  · exact .ite (.ite (s.tsq_rests _) (s.tryStop_rests.trans (State.settle_rests _))) (s.tsq_rests _)
  · exact s.waitStep_rests c

theorem State.drive_rests (m : ReqMode) (v : Int) (k : BitVec 5) (s : State) : s.Rests (s.drive m v k) :=
  State.rests_of_paced (State.drive_deck ..) (State.drive_paced ..)

theorem State.answer_rests (i : Issuer) (q y : Byte) (c : Code) (r : List Byte) (s : State) : s.Rests (s.answer i q y c r) :=
  State.rests_of_paced (State.answer_frame ..).deck (State.answer_paced ..)

theorem State.failSeek_rests (o : PendingOp) (s : State) : s.Rests (s.failSeek o) :=
  (((((s.tsq_rests _).trans (State.tsq_rests _ _)).trans (State.writeSense_rests ..)).trans (State.answer_rests ..)).trans
    (State.drive_rests ..)).trans (State.settle_rests _)

theorem State.approach_rests (e : Int) (s : State) : s.Rests (s.approach e) :=
  .ite (.refl s) (.ite (State.drive_rests ..) (State.drive_rests ..))

theorem State.cueStep_rests (s : State) : s.Rests s.cueStep := by
  unfold State.cueStep
  split
  · split
    · dsimp only
      exact .ite ((s.tsq_rests _).trans (State.failSeek_rests ..))
        (((s.tsq_rests _).trans (State.approach_rests _ _)).trans (State.settle_rests _))
    · exact .refl s
  · exact .refl s

theorem State.slotStep_rests (c : Settings) (s : State) : s.Rests (s.slotStep c) := by
  unfold State.slotStep
  split
  · exact .ite ((s.writeSense_rests _).trans (State.rests_of_paced (State.emptySlot_deck ..) (State.emptySlot_paced ..)))
      (s.tsq_rests _)
  · exact .refl s

theorem State.transportFieldStart_rests (s : State) : s.Rests s.transportFieldStart := by
  unfold State.transportFieldStart
  split
  · rename_i c _
    refine .ite ?_ (.refl s)
    have recovered := State.Rests.ite (p := s.faultStep.tsq.state = .faulted ∧ s.tsq.state ≠ .faulted) s.faultStep_rests
      (s.faultStep_rests.trans (State.recoveryStep_rests c _))
    exact (State.Rests.ite (recovered.trans (State.cueStep_rests _)) recovered).trans (State.slotStep_rests c _)
  · exact .refl s

/-! ### The blocks after a transport at work by itself -/

section
variable {s : State}

theorem State.chaseFieldStart_off (off : s.csv.state = .off) : s.chaseFieldStart = s := by
  unfold State.chaseFieldStart
  rw [off]

theorem State.recordFieldStart_idle (idle : s.rcc.state ≠ .recording) :
    ∃ k : Rcc, s.recordFieldStart = { s with rcc := k } ∧ k.state ≠ .recording := by
  unfold State.recordFieldStart
  split
  · exact ⟨s.rcc, rfl, idle⟩
  · split
    · rename_i recording _
      exact absurd recording idle
    · rename_i gap
      split
      · exact ⟨_, rfl, nofun⟩
      · exact ⟨_, rfl, by simp [gap]⟩
    · exact ⟨s.rcc, rfl, idle⟩

theorem State.transitionFieldStart_eq (s : State) : ∃ n : Ten, s.transitionFieldStart = { s with ten := n } := by
  unfold State.transitionFieldStart
  split
  · exact ⟨_, rfl⟩
  · exact ⟨s.ten, rfl⟩

theorem State.cueFieldStart_alone (noCues : s.cul.cues = []) (noRoll : s.cul.roll = none) :
    s.cueFieldStart = { s with cul := { s.cul with pulses := 0 } } := by
  have still : ({ s with cul := { s.cul with pulses := 0 } } : State).rollDue s.ftu.counter =
      { s with cul := { s.cul with pulses := 0 } } := by
    unfold State.rollDue
    dsimp only
    rw [noRoll]
  unfold State.cueFieldStart
  dsimp only
  rw [still, noCues]
  simp only [State.judgeCues, State.setCues, ← noCues]

/-- With no segment RECORDING, no cue and no roll the other blocks' work leaves the deck, the chase, the messages and the records. -/
theorem State.recordCueTransition_alone (idle : s.rcc.state ≠ .recording) (noCues : s.cul.cues = []) (noRoll : s.cul.roll = none) :
    ∃ (c : Cul) (k : Rcc) (n : Ten), s.recordCueTransition = { s with cul := c, rcc := k, ten := n } ∧ k.state ≠ .recording := by
  have record (t : State) (h : t.rcc.state ≠ .recording) : ∃ k : Rcc, t.recordFieldStart = { t with rcc := k } ∧ k.state ≠ .recording :=
    State.recordFieldStart_idle h
  have cues (t : State) (h : t.cul = s.cul) : t.cueFieldStart = { t with cul := { t.cul with pulses := 0 } } :=
    State.cueFieldStart_alone (h ▸ noCues) (h ▸ noRoll)
  unfold State.recordCueTransition
  dsimp only
  cases s.order.rccFirst <;> cases s.order.tenFirst <;> simp only [if_true, Bool.false_eq_true, if_false]
  · rw [cues s rfl]
    obtain ⟨k, hk, rests⟩ := record { s with cul := { s.cul with pulses := 0 } } idle
    rw [hk]
    obtain ⟨n, hn⟩ := State.transitionFieldStart_eq { s with cul := { s.cul with pulses := 0 }, rcc := k }
    exact ⟨_, _, _, hn, rests⟩
  · obtain ⟨n, hn⟩ := s.transitionFieldStart_eq
    rw [hn, cues { s with ten := n } rfl]
    obtain ⟨k, hk, rests⟩ := record { s with cul := { s.cul with pulses := 0 }, ten := n } idle
    exact ⟨_, _, _, hk, rests⟩
  · obtain ⟨k, hk, rests⟩ := record s idle
    rw [hk, cues { s with rcc := k } rfl]
    obtain ⟨n, hn⟩ := State.transitionFieldStart_eq { s with cul := { s.cul with pulses := 0 }, rcc := k }
    exact ⟨_, _, _, hn, rests⟩
  · obtain ⟨k, hk, rests⟩ := record s idle
    rw [hk]
    obtain ⟨n, hn⟩ := State.transitionFieldStart_eq { s with rcc := k }
    rw [hn, cues { s with rcc := k, ten := n } rfl]
    exact ⟨_, _, _, rfl, rests⟩

end

/-- What a field start of a deck at work by itself leaves: what the transport's own work has left of it (R42). -/
structure State.Alone (v t : State) : Prop where
  tsq : t.tsq = v.tsq
  csv : t.csv = v.csv
  dhd : t.dhd = v.dhd
  lpt : t.lpt = v.lpt
  pins : t.pins = v.pins
  idle : t.rcc.state ≠ .recording
  off : v.csv.state = .off
  waiting : ∀ m ∈ v.lif.waiting, m.isAnn = false → m ∈ t.lif.waiting

/-- A field start at a deck at work by itself is the transport's work on the field begun. -/
theorem exec_alone {i : Instr} {pins : FieldPins} {s t : State} (gives : givesFieldStart i pins s) (e : exec i s = .next t)
    (counted : t.ftu.counter = s.ftu.counter + 1) (alone : s.deckAlone) :
    ∃ u, s.Begun u pins ∧ u.transportFieldStart.Alone t := by
  obtain ⟨r, p, m, x, timed, rfl⟩ := exec_givesField gives e counted
  obtain ⟨-, chaseOff, idle, noCues, noRoll⟩ := alone
  have begun := State.begun_of_timed timed p m x pins
  refine ⟨_, begun, ?_⟩
  have rests := (r.fieldBegun p m x pins).transportFieldStart_rests
  have cul := (r.fieldBegun p m x pins).transportFieldStart_work.cul
  rw [State.fieldStart_eq, State.fieldWorked]
  generalize r.fieldBegun p m x pins = u at begun rests cul
  have off := rests.off (by rw [begun.csv]; exact chaseOff)
  have rcc := rests.rcc (by rw [begun.rcc]; exact idle)
  rw [State.chaseFieldStart_off off]
  obtain ⟨c, k, n, eq, ends⟩ := State.recordCueTransition_alone (s := u.transportFieldStart) (by rw [rcc, begun.rcc]; exact idle)
    (by rw [cul, begun.cul]; exact noCues) (by rw [cul, begun.cul]; exact noRoll)
  rw [eq, State.announceField_eq]
  refine ⟨rfl, rfl, rfl, rfl, rfl, ends, off, fun m mem other => ?_⟩
  exact (State.txAnnounce_others _ _).1.subset (List.mem_filter.mpr ⟨mem, by simp [other]⟩)

end Sys2Proof.Machine
end

section
/-! SUPPORT. Faults: what FAULTED leaves, and the transport's work at a field start up to it (R84 to R87, R97). -/

namespace Sys2Proof.Machine

section
variable {s : State} {c : Settings} {cause : Code}

/-! ### FAULTED (R85, R86) -/

theorem State.enterFaulted_tsq (cause : Code) (hc : s.dhd.config = some c) :
    (s.enterFaulted cause).tsq = { s.tsq with
      state := .faulted, reqMode := .stop, reqSpeed := 0, reqTrack := 0, matched := false, wait := none, pendingOp := none,
      recovery := if c.autoRecover then .offTime 0 else .idle } := by
  rw [State.enterFaulted_eq]
  dsimp only
  rw [State.cutOff_tsq, State.endPending_tsq, hc]
  rfl

/-- FAULTED with auto-recover off releases the held directive, and refuses it. -/
theorem State.faulted_tsq (cause : Code) (hc : s.dhd.config = some c) :
    (s.enterFaulted cause).settle.tsq = { s.tsq with
      state := .faulted, reqMode := .stop, reqSpeed := 0, reqTrack := 0, matched := false, wait := none, pendingOp := none,
      recovery := if c.autoRecover then .offTime 0 else .idle, slot := if c.autoRecover then s.tsq.slot else none } := by
  have tsq := State.enterFaulted_tsq cause hc
  have off : (s.enterFaulted cause).csv.state = .off := congrArg Csv.state (State.cutOff_csv cause _)
  cases auto : c.autoRecover with
  | true =>
    rw [State.settle_unsettled (by rw [State.settled, tsq, auto]; rfl), tsq, auto]
    rfl
  | false =>
    rw [auto] at tsq
    obtain held | ⟨h, held⟩ := Option.eq_none_or_eq_some s.tsq.slot
    · rw [State.settle_none (by rw [tsq]; exact held), tsq]
      simp [held]
    · rw [State.settle_refused (s := s.enterFaulted cause) (by rw [tsq]; exact held) (by rw [State.settled, tsq]; rfl)
        (State.motionVerdict_notReady (by exact off) (.inr (by simp [tsq]))), (State.answer_frame ..).tsq, tsq]
      rfl

theorem State.stricken_ends (s : State) (cause : Code) :
    ((s.stricken cause).endPending cause cause).rcc = s.rcc := (State.endPending_deck ..).rcc

/-- What a fault leaves of the station, beside the transport's own record. -/
theorem State.faulted_rest (cause : Code) (holds : s.rcc.state = .recording → s.rcc.record.isSome = true) :
    (s.enterFaulted cause).settle.csv.state = .off ∧ (s.enterFaulted cause).settle.rcc.state ≠ .recording ∧
      (s.enterFaulted cause).settle.holdsEvent .transportFault = true ∧
      (s.rcc.state ≠ .recording → (s.enterFaulted cause).settle.dhd.sense =
        some { code := cause, origin := s.opOrigin, address := none, nextFrame := none, remaining := none }) := by
  have off : (s.enterFaulted cause).csv.state = .off := congrArg Csv.state (State.cutOff_csv cause _)
  have latched : (s.stricken cause).holdsEvent .transportFault = true := State.holdsEvent_latch ..
  have later : (s.stricken cause).Bystanders (s.enterFaulted cause).settle :=
    (((State.endPending_by ..).trans (State.cutOff_work cause _).by).trans (State.tsq_by _ _)).trans (State.settle_by _)
  have same := s.stricken_ends cause
  refine ⟨(State.settle_paced _).state.trans off, ?_, later.events _ latched, fun idle => ?_⟩
  · rw [(State.settle_deck _).rcc, State.enterFaulted_eq]
    exact State.cutOff_ends (s := (s.stricken cause).endPending cause cause) cause (by rw [same]; exact holds)
  · rw [(State.settle_paced _).sense, State.enterFaulted_eq]
    dsimp only
    rw [State.cutOff_idle (by rw [same]; exact idle)]
    exact (State.endPending_paced ..).sense.trans rfl

theorem State.faulted_records {g : Segment} (cause : Code) (recording : s.rcc.state = .recording) (held : s.rcc.record = some g) :
    (s.enterFaulted cause).settle.holdsEvent .segmentAborted = true := by
  have same := s.stricken_ends cause
  obtain ⟨aborted, -⟩ := State.cutOff_records (c := cause) (s := (s.stricken cause).endPending cause cause) (g := g)
    (by rw [same]; exact recording) (by rw [same]; exact held)
  exact (State.settle_by _).events _ aborted

theorem State.faulted_noticed {g : Segment} (cause : Code) (recording : s.rcc.state = .recording) (held : s.rcc.record = some g)
    (idle : s.unhurried) : s.SegmentNoticed (s.enterFaulted cause).settle g cause (s.recordedTo g) := by
  have ended : (s.stricken cause).endPending cause cause = (s.stricken cause).setPending none :=
    State.endPending_unhurried (s := s.stricken cause) _ _ idle
  have room : s.Room ((s.stricken cause).setPending none) := ⟨rfl, rfl, rfl, rfl, le_rfl, fun quiet => ⟨quiet, rfl⟩⟩
  have noticed := State.cutOff_noticed (c := cause) (s := (s.stricken cause).setPending none) (g := g) recording held
  rw [← ended] at room noticed
  rw [State.recordedTo_congr room.config (show ((s.stricken cause).endPending cause cause).psu = s.psu from
    (State.endPending_deck ..).psu)] at noticed
  exact ((State.SegmentNoticed.of_room room noticed).later (State.tsq_by _ _)).later (State.settle_by _)

theorem State.faulted_work (cause : Code) (s : State) : s.Work (s.enterFaulted cause).settle :=
  (s.enterFaulted_work cause).trans (State.settle_work _)

/-! ### The deck fault and the tally wait at a field start (R84, R86, R87) -/

/-- The transport after the deck fault has been read and the wait, or the off-time, counted (R84, R86, R87). -/
def State.afterWait (c : Settings) (s : State) : State :=
  if s.faultStep.tsq.state = .faulted ∧ s.tsq.state ≠ .faulted then s.faultStep else s.faultStep.recoveryStep c

theorem State.transportFieldStart_eq (hc : s.dhd.config = some c) (fitted : s.dhd.transportFitted = true) :
    s.transportFieldStart =
      (if s.tsq.state = .cueing ∧ (s.afterWait c).tsq.state = .cueing then (s.afterWait c).cueStep else s.afterWait c).slotStep c := by
  unfold State.transportFieldStart
  rw [hc]
  exact if_pos fitted

theorem State.transportFieldStart_plain (hc : s.dhd.config = some c) (fitted : s.dhd.transportFitted = true)
    (plain : s.tsq.state ≠ .cueing ∨ (s.afterWait c).tsq.state ≠ .cueing) : s.transportFieldStart = (s.afterWait c).slotStep c := by
  rw [State.transportFieldStart_eq hc fitted, if_neg fun ⟨before, after⟩ => plain.elim (fun h => h before) fun h => h after]

/-- The deck fault count after a field start that qualifies no fault (R86). -/
def State.counted (n : Nat) (s : State) : State := { s with tsq := { s.tsq with faultCount := n } }

/-- Where the deck fault is read (R86). -/
abbrev State.readsFault (s : State) : Prop := s.tsq.state ≠ .unthreaded ∧ s.tsq.state ≠ .faulted

theorem State.faultStep_unread (unread : ¬ s.readsFault) : s.faultStep = s.counted s.tsq.faultCount := by
  unfold State.faultStep
  rw [if_pos (by by_contra h; exact unread (not_or.mp h))]
  rfl

theorem State.faultStep_clear (read : s.readsFault) (clear : s.pins.field.deckFault = false) : s.faultStep = s.counted 0 := by
  unfold State.faultStep
  rw [if_neg (not_or.mpr read), if_neg (by simp [clear])]
  rfl

theorem State.faultStep_first (read : s.readsFault) (fault : s.pins.field.deckFault = true) (first : s.tsq.faultCount = 0) :
    s.faultStep = s.counted 1 := by
  unfold State.faultStep
  rw [if_neg (not_or.mpr read), if_pos fault, if_neg (by omega), first]
  rfl

theorem State.faultStep_qualified (read : s.readsFault) (fault : s.pins.field.deckFault = true) (again : 1 ≤ s.tsq.faultCount) :
    s.faultStep = ((s.counted 0).enterFaulted .deckFault).settle := by
  unfold State.faultStep
  rw [if_neg (not_or.mpr read), if_pos fault, if_pos again]
  rfl

theorem State.afterWait_counted {n : Nat} (step : s.faultStep = s.counted n) : s.afterWait c = (s.counted n).recoveryStep c := by
  unfold State.afterWait
  rw [step]
  exact if_neg fun h => h.2 h.1

theorem State.afterWait_qualified (hc : s.dhd.config = some c) (read : s.readsFault) (fault : s.pins.field.deckFault = true)
    (again : 1 ≤ s.tsq.faultCount) : s.afterWait c = ((s.counted 0).enterFaulted .deckFault).settle := by
  unfold State.afterWait
  rw [State.faultStep_qualified read fault again]
  exact if_pos ⟨by rw [State.faulted_tsq (s := s.counted 0) _ hc], read.2⟩

theorem State.recoveryStep_waits (well : ∀ n, s.tsq.recovery ≠ .offTime n) : s.recoveryStep c = s.waitStep c := by
  unfold State.recoveryStep
  split
  · rename_i n off
    exact absurd off (well n)
  · rfl

theorem State.waitStep_none (none : s.tsq.wait = none) : s.waitStep c = s := by
  unfold State.waitStep
  rw [none]

section
variable {w : TallyWait}

theorem State.waitStep_busy (waits : s.tsq.wait = some w) (busy : s.pins.field.deckBusy = true ∧ w.busy < c.busyLimit) :
    s.waitStep c = { s with tsq := { s.tsq with wait := some { w with busy := w.busy + 1 } } } := by
  unfold State.waitStep
  rw [waits]
  exact if_pos busy

theorem State.waitStep_settles (waits : s.tsq.wait = some w) (free : s.pins.field.deckBusy = false ∨ c.busyLimit ≤ w.busy)
    (early : w.settle + 1 < c.settleLimit) :
    s.waitStep c = { s with tsq := { s.tsq with wait := some { w with settle := w.settle + 1 } } } := by
  have still : ¬ (s.pins.field.deckBusy = true ∧ w.busy < c.busyLimit) := by
    rintro ⟨busy, few⟩
    obtain h | h := free
    · simp [h] at busy
    · omega
  unfold State.waitStep
  rw [waits]
  exact (if_neg still).trans (if_neg (by omega))

theorem State.waitStep_out (waits : s.tsq.wait = some w) (free : s.pins.field.deckBusy = false ∨ c.busyLimit ≤ w.busy)
    (late : c.settleLimit ≤ w.settle + 1) : s.waitStep c = s.waitRunsOut := by
  have still : ¬ (s.pins.field.deckBusy = true ∧ w.busy < c.busyLimit) := by
    rintro ⟨busy, few⟩
    obtain h | h := free
    · simp [h] at busy
    · omega
  unfold State.waitStep
  rw [waits]
  exact (if_neg still).trans (if_pos late)

end

theorem State.waitRunsOut_faults (well : s.tsq.recovery ≠ .recoveryWait) :
    s.waitRunsOut = (s.enterFaulted .transportTimeout).settle := if_neg well

/-! ### The slot (R97) -/

theorem Standard.deferralLimit_eq (std : Standard) : std.deferralLimit = if std = .f25 then 250 else 300 := by
  cases std <;> rfl

/-- A held directive a field older. -/
def olderHeld (h : Option Held) : Option Held := h.map fun h => { h with age := h.age + 1 }

theorem State.slotStep_older (young : ∀ h, s.tsq.slot = some h → h.age + 1 < c.standard.deferralLimit) :
    s.slotStep c = { s with tsq := { s.tsq with slot := olderHeld s.tsq.slot } } := by
  unfold State.slotStep
  split
  · rename_i h held
    rw [if_neg (Nat.not_le.mpr (young h held)), held]
    rfl
  · rename_i empty
    rw [show olderHeld s.tsq.slot = s.tsq.slot by rw [empty]; rfl]

end

/-! ### A faulted deck, and one that goes on waiting, after a field start -/

/-- The deck stopped by a fault, and what records it (R85). -/
def State.StoppedBy (c : Settings) (s : State) (cause : Code) (t : State) : Prop :=
  t.tsq.state = .faulted ∧ t.tsq.reqMode = .stop ∧ t.tsq.reqSpeed = 0 ∧ t.tsq.wait = none ∧
    t.tsq.matched = false ∧ t.tsq.pendingOp = none ∧
    t.tsq.recovery = (if c.autoRecover then .offTime 0 else .idle) ∧ t.csv.state = .off ∧
    t.rcc.state ≠ .recording ∧ t.holdsEvent .transportFault = true ∧
    (s.rcc.state ≠ .recording → t.dhd.sense =
      some { code := cause, origin := s.opOrigin, address := none, nextFrame := none, remaining := none })

/-- A field start with no fault: the fault count as it is then, the held directive a field older and the wait counted (R84, R86, R97). -/
def State.GoesOn (c : Settings) (pins : FieldPins) (s t : State) (n : Nat) : Prop :=
  (s.tsq.wait = none → s.tsq.state ≠ .cueing → t.tsq = { s.tsq with faultCount := n, slot := olderHeld s.tsq.slot }) ∧
    ∀ w, s.tsq.wait = some w →
      (pins.deckBusy = true ∧ w.busy < c.busyLimit → s.tsq.state ≠ .cueing → t.tsq = { s.tsq with
        faultCount := n, slot := olderHeld s.tsq.slot, wait := some { w with busy := w.busy + 1 } }) ∧
      (pins.deckBusy = false ∨ c.busyLimit ≤ w.busy →
        (w.settle + 1 < c.settleLimit → s.tsq.state ≠ .cueing → t.tsq = { s.tsq with
          faultCount := n, slot := olderHeld s.tsq.slot, wait := some { w with settle := w.settle + 1 } }) ∧
        (c.settleLimit ≤ w.settle + 1 → s.StoppedBy c .transportTimeout t ∧ t.tsq.faultCount = n ∧
          t.tsq.slot = if c.autoRecover then olderHeld s.tsq.slot else none))

section
variable {s u t : State} {c : Settings} {cause : Code} {n : Nat} {pins : FieldPins}

theorem State.faulted_stopped (cause : Code) (hc : s.dhd.config = some c)
    (holds : s.rcc.state = .recording → s.rcc.record.isSome = true) : s.StoppedBy c cause (s.enterFaulted cause).settle := by
  obtain ⟨off, ends, latched, sense⟩ := State.faulted_rest (s := s) cause holds
  rw [State.StoppedBy, State.faulted_tsq cause hc]
  exact ⟨rfl, rfl, rfl, rfl, rfl, rfl, rfl, off, ends, latched, sense⟩

theorem State.Alone.holdsEvent (alone : u.Alone t) (e : Event) : t.holdsEvent e = u.holdsEvent e :=
  congrArg (fun d : Dhd => ({ t with dhd := d } : State).holdsEvent e) alone.dhd

/-- A field start that ends in the fault. -/
theorem State.Begun.stopped (begun : s.Begun u pins) (hc : s.dhd.config = some c) (idle : s.rcc.state ≠ .recording)
    (young : ∀ h, s.tsq.slot = some h → h.age + 1 < c.standard.deferralLimit)
    (faults : u.transportFieldStart = (((u.counted n).enterFaulted cause).settle).slotStep c)
    (alone : u.transportFieldStart.Alone t) :
    s.StoppedBy c cause t ∧ t.tsq.faultCount = n ∧ t.tsq.slot = if c.autoRecover then olderHeld s.tsq.slot else none := by
  have config : (u.counted n).dhd.config = some c := begun.config.trans hc
  have tsq := State.faulted_tsq cause config
  have rests : (u.counted n).rcc.state ≠ .recording := by
    show u.rcc.state ≠ .recording
    rw [begun.rcc]
    exact idle
  obtain ⟨-, -, latched, sense⟩ := State.faulted_rest (s := u.counted n) cause fun recording => absurd recording rests
  have off := (State.faulted_rest (s := u.counted n) cause fun recording => absurd recording rests).1
  have slot : (((u.counted n).enterFaulted cause).settle).tsq.slot = if c.autoRecover then s.tsq.slot else none := by
    rw [tsq, ← begun.tsq]
    rfl
  have older := State.slotStep_older (c := c) (s := ((u.counted n).enterFaulted cause).settle) fun h held => by
    rw [slot] at held
    split at held
    · exact young h held
    · cases held
  rw [older] at faults
  have csv : t.csv.state = .off := by rw [alone.csv, faults]; exact off
  have origin : (u.counted n).opOrigin = s.opOrigin := by
    show u.opOrigin = _
    unfold State.opOrigin
    rw [begun.tsq]
  refine ⟨?_, ?_, ?_⟩
  · rw [State.StoppedBy, alone.tsq, faults]
    dsimp only
    rw [tsq]
    refine ⟨rfl, rfl, rfl, rfl, rfl, rfl, rfl, csv, alone.idle, ?_, fun _ => ?_⟩
    · rw [alone.holdsEvent, faults]
      exact latched
    · rw [alone.dhd, faults, ← origin]
      exact sense rests
  · rw [alone.tsq, faults]
    dsimp only
    rw [tsq]
    rfl
  · rw [alone.tsq, faults]
    dsimp only
    rw [slot]
    split <;> rfl

/-- A field start that qualifies no fault. -/
theorem State.Begun.goesOn (begun : s.Begun u pins) (hc : s.dhd.config = some c) (fitted : s.dhd.transportFitted = true)
    (idle : s.rcc.state ≠ .recording) (well : s.tsq.recovery = .idle)
    (young : ∀ h, s.tsq.slot = some h → h.age + 1 < c.standard.deferralLimit)
    (step : u.faultStep = u.counted n) (alone : u.transportFieldStart.Alone t) : s.GoesOn c pins t n := by
  have config := begun.config.trans hc
  have fits := begun.transportFitted.trans fitted
  have waited : u.afterWait c = (u.counted n).waitStep c :=
    (State.afterWait_counted step).trans (State.recoveryStep_waits fun k => by
      show u.tsq.recovery ≠ _
      rw [begun.tsq, well]
      nofun)
  have plain (steady : s.tsq.state ≠ .cueing) (q : Tsq) (eq : (u.counted n).waitStep c = { u with tsq := q })
      (slot : q.slot = s.tsq.slot) : t.tsq = { q with slot := olderHeld s.tsq.slot } := by
    rw [alone.tsq, State.transportFieldStart_plain config fits (.inl (by rw [begun.tsq]; exact steady)), waited, eq,
      State.slotStep_older (s := { u with tsq := q }) fun h held => young h (slot ▸ held)]
    dsimp only
    rw [slot]
  have field : (u.counted n).pins.field = pins := congrArg Pins.field begun.pins
  have wait : (u.counted n).tsq.wait = s.tsq.wait := by
    show u.tsq.wait = _
    rw [begun.tsq]
  have held : u.tsq.slot = s.tsq.slot := congrArg Tsq.slot begun.tsq
  refine ⟨fun still steady => ?_, fun w waits => ⟨fun busy steady => ?_, fun free => ⟨fun early steady => ?_, fun late => ?_⟩⟩⟩
  · rw [plain steady _ (State.waitStep_none (wait.trans still)) (by exact held), ← begun.tsq]
  · rw [plain steady _ (State.waitStep_busy (wait.trans waits) (by rw [field]; exact busy)) (by exact held), ← begun.tsq]
    rfl
  · rw [plain steady _ (State.waitStep_settles (wait.trans waits) (by rw [field]; exact free) early) (by exact held),
      ← begun.tsq]
    rfl
  · have out : u.afterWait c = ((u.counted n).enterFaulted .transportTimeout).settle := by
      rw [waited, State.waitStep_out (wait.trans waits) (by rw [field]; exact free) late, State.waitRunsOut_faults]
      show u.tsq.recovery ≠ _
      rw [begun.tsq, well]
      nofun
    have faults := State.transportFieldStart_plain config fits (.inr (by
      rw [out, State.faulted_tsq (s := u.counted n) _ config]
      nofun))
    rw [out] at faults
    exact begun.stopped hc idle young faults alone

end

end Sys2Proof.Machine

open Sys2Proof Sys2Proof.Machine

/-- Settles O35: both causes lead to one FAULTED, by a command of their own or by the field start's count. -/
theorem faultsStopTheTransport : Obligations.FaultsStopTheTransport := by
  unfold Obligations.FaultsStopTheTransport
  intro s c hc holds
  refine ⟨fun w waits well late => ?_, fun tape sound again => ?_, fun i pins t gives e counted alone well young => ?_⟩
  · refine ⟨(s.enterFaulted .transportTimeout).settle, ?_, State.faulted_stopped _ hc holds, fun recording => ?_,
      fun g recording held quiet => State.faulted_noticed _ recording held quiet.2, ?_⟩
    · show execTallyWaitRunsOut s = _
      unfold execTallyWaitRunsOut
      rw [hc, waits]
      dsimp only
      rw [if_pos ⟨well, late⟩, State.waitRunsOut_faults well]
    · obtain ⟨g, held⟩ := Option.isSome_iff_exists.mp (holds recording)
      exact State.faulted_records _ recording held
    · have work := State.faulted_work .transportTimeout s
      exact ⟨work.psu, work.ten, work.cul, work.pins, work.zones, work.by⟩
  · have clear : s.Bystanders (s.counted 0) := State.tsq_by _ _
    refine ⟨((s.counted 0).enterFaulted .deckFault).settle, ?_, ⟨State.faulted_stopped (s := s.counted 0) _ hc holds, fun recording => ?_,
      fun g recording held quiet => State.faulted_noticed (s := s.counted 0) _ recording held quiet.2, ?_⟩, ?_⟩
    · show execDeckFaultQualified s = _
      unfold execDeckFaultQualified
      rw [if_pos ⟨by simp [hc], tape, sound, again⟩]
      rfl
    · obtain ⟨g, held⟩ := Option.isSome_iff_exists.mp (holds recording)
      exact State.faulted_records (s := s.counted 0) _ recording held
    · have work := State.faulted_work .deckFault (s.counted 0)
      exact ⟨work.psu, work.ten, work.cul, work.pins, work.zones, clear.trans work.by⟩
    · rw [State.faulted_tsq (s := s.counted 0) _ hc]
      rfl
  · obtain ⟨u, begun, after⟩ := exec_alone gives e counted alone
    obtain ⟨fitted, -, idle, -, -⟩ := alone
    rw [← Standard.deferralLimit_eq] at young
    have reads : u.readsFault ↔ s.readsFault := by rw [State.readsFault, begun.tsq]
    have fault : u.pins.field.deckFault = pins.deckFault := congrArg (fun p : Pins => p.field.deckFault) begun.pins
    have count : u.tsq.faultCount = s.tsq.faultCount := congrArg Tsq.faultCount begun.tsq
    refine ⟨fun unread => ?_, fun read clear => ?_, fun read faulty first => ?_, fun read faulty again => ?_⟩
    · exact begun.goesOn hc fitted idle well young (by rw [State.faultStep_unread (mt reads.mp unread), count]) after
    · exact begun.goesOn hc fitted idle well young (State.faultStep_clear (reads.mpr read) (fault.trans clear)) after
    · exact begun.goesOn hc fitted idle well young
        (State.faultStep_first (reads.mpr read) (fault.trans faulty) (count.trans first)) after
    · have config := begun.config.trans hc
      have out := State.afterWait_qualified config (reads.mpr read) (fault.trans faulty) (by rw [count]; exact again)
      have faults := State.transportFieldStart_plain config (begun.transportFitted.trans fitted) (.inr (by
        rw [out, State.faulted_tsq (s := u.counted 0) _ config]
        nofun))
      rw [out] at faults
      exact begun.stopped hc idle young faults after

end

section
/-! SUPPORT. Recovery: its off-time, its wait for STOP and its failure (R87). -/

namespace Sys2Proof.Machine

theorem Settings.recoveryOffTime_eq {c : Settings} (choice : c.offTimeChoice ≤ 3) :
    c.recoveryOffTime = if c.offTimeChoice = 3 then 250 else 25 * 2 ^ c.offTimeChoice := by
  unfold Settings.recoveryOffTime
  generalize c.offTimeChoice = n at choice
  interval_cases n <;> rfl

section
variable {s u t : State} {c : Settings} {n : Nat} {w : TallyWait}

/-- The off-time over: it begins again under a deck fault. -/
theorem State.offTimeEnds_again (fault : s.pins.field.deckFault = true) :
    s.offTimeEnds = { s with tsq := { s.tsq with recovery := .offTime 0 } } := if_pos fault

theorem State.offTimeEnds_tries (clear : s.pins.field.deckFault = false) : s.offTimeEnds = s.tryStop.settle :=
  if_neg (by simp [clear])

/-- Recovery waits for a STOP the deck does not show. -/
theorem State.tryStop_waits (stop : s.tsq.reqMode = .stop) (unseen : s.pins.tally ≠ .stop) :
    s.tryStop.settle = { s with tsq := { s.tsq with
      recovery := .recoveryWait, matched := false, wait := some { settle := 0, busy := 0 } } } := by
  unfold State.tryStop
  rw [State.startWait_asks (by simpa [stop, Tally.mode_iff] using unseen)]
  exact State.settle_unsettled (by simp [State.settled])

/-- A STOP shown already ends recovery. -/
theorem State.tryStop_stands (stop : s.tsq.reqMode = .stop) (seen : s.pins.tally = .stop) (clear : s.tsq.pendingOp = none)
    (empty : s.tsq.slot = none) :
    s.tryStop.settle = { s with tsq := { s.tsq with recovery := .idle, state := .stopped, matched := true, wait := none } } := by
  unfold State.tryStop
  rw [State.startWait_shown (by simpa [stop, Tally.mode_iff] using seen), State.onMatched_recovery (by rfl) (by exact clear)]
  exact State.settle_none (by exact empty)

theorem State.waitRunsOut_recovery (waits : s.tsq.recovery = .recoveryWait) (empty : s.tsq.slot = none) :
    s.waitRunsOut = s.recoveryFails := (if_pos waits).trans (State.settle_none empty)

theorem State.recoveryStep_offTime (off : s.tsq.recovery = .offTime n) :
    s.recoveryStep c = if c.recoveryOffTime ≤ n + 1 then s.offTimeEnds
      else { s with tsq := { s.tsq with recovery := .offTime (n + 1) } } := by
  unfold State.recoveryStep
  rw [off]

/-- In FAULTED, with nothing held, a field start's work on the deck is recovery's count. -/
theorem State.transportFieldStart_faulted (hc : s.dhd.config = some c) (fitted : s.dhd.transportFitted = true)
    (faulted : s.tsq.state = .faulted) (empty : (s.recoveryStep c).tsq.slot = none) :
    s.transportFieldStart = s.recoveryStep c := by
  have waited : s.afterWait c = s.recoveryStep c := State.afterWait_counted (State.faultStep_unread fun read => read.2 faulted)
  rw [State.transportFieldStart_plain hc fitted (.inl (by simp [faulted])), waited]
  unfold State.slotStep
  rw [empty]

end

end Sys2Proof.Machine

open Sys2Proof Sys2Proof.Machine

/-- Settles O36: recovery's count ends in another off-time, in a wait for STOP or in STOPPED, its wait in FAULTED for good. -/
theorem recoveryTriesStop : Obligations.RecoveryTriesStop := by
  unfold Obligations.RecoveryTriesStop
  intro s c hc faulted stop
  refine ⟨fun n off late choice => ?_, fun w recovers waits late empty => ?_, fun i pins t gives e counted alone empty =>
    ⟨fun n off choice => ?_, fun w recovers waits => ?_⟩⟩
  · rw [← Settings.recoveryOffTime_eq choice] at late
    have ends : exec .recoveryOffTimeEnds s = .next s.offTimeEnds := by
      show execRecoveryOffTimeEnds s = _
      unfold execRecoveryOffTimeEnds
      rw [hc, off]
      exact if_pos late
    rw [ends]
    refine ⟨fun fault => ?_, fun clear unseen => ?_, fun clear seen nothing empty => ?_⟩
    · rw [State.offTimeEnds_again fault]
    · rw [State.offTimeEnds_tries clear, State.tryStop_waits stop unseen]
    · rw [State.offTimeEnds_tries clear, State.tryStop_stands stop seen nothing empty]
  · show execRecoveryWaitRunsOut s = _
    unfold execRecoveryWaitRunsOut
    rw [hc, waits]
    dsimp only
    rw [if_pos ⟨recovers, late⟩, State.waitRunsOut_recovery recovers empty]
    rfl
  all_goals
    obtain ⟨u, begun, after⟩ := exec_alone gives e counted alone
    have config := begun.config.trans hc
    have fits := begun.transportFitted.trans alone.1
    have tsq := begun.tsq
    have field : u.pins.field = pins := congrArg Pins.field begun.pins
    have lines : u.pins.tally = s.pins.tally := by rw [begun.pins]
    have work (v : State) (eq : u.recoveryStep c = v) (clear : v.tsq.slot = none) : v.Alone t := by
      rw [State.transportFieldStart_faulted config fits (by rw [tsq]; exact faulted) (by rw [eq]; exact clear), eq] at after
      exact after
  · have step := State.recoveryStep_offTime (c := c) (s := u) (n := n) (by rw [tsq]; exact off)
    rw [Settings.recoveryOffTime_eq choice] at step
    refine ⟨fun early => ?_, fun late => ⟨fun fault => ?_, fun clear unseen => ?_, fun clear seen nothing => ?_⟩⟩
    · rw [if_neg (Nat.not_le.mpr early)] at step
      rw [(work _ step (by rw [tsq]; exact empty)).tsq, tsq]
    all_goals rw [if_pos late] at step
    · rw [State.offTimeEnds_again (by rw [field]; exact fault)] at step
      rw [(work _ step (by rw [tsq]; exact empty)).tsq, tsq]
    · rw [State.offTimeEnds_tries (by rw [field]; exact clear),
        State.tryStop_waits (by rw [tsq]; exact stop) (by rw [lines]; exact unseen)] at step
      rw [(work _ step (by rw [tsq]; exact empty)).tsq, tsq]
    · rw [State.offTimeEnds_tries (by rw [field]; exact clear),
        State.tryStop_stands (by rw [tsq]; exact stop) (by rw [lines]; exact seen) (by rw [tsq]; exact nothing)
          (by rw [tsq]; exact empty)] at step
      rw [(work _ step (by rw [tsq]; exact empty)).tsq, tsq]
  · have step : u.recoveryStep c = u.waitStep c := State.recoveryStep_waits fun n => by simp [tsq, recovers]
    have waits' : u.tsq.wait = some w := by rw [tsq]; exact waits
    refine ⟨fun busy => ?_, fun free => ⟨fun early => ?_, fun late => ?_⟩⟩
    · rw [State.waitStep_busy waits' (by rw [field]; exact busy)] at step
      rw [(work _ step (by rw [tsq]; exact empty)).tsq, tsq]
    · rw [State.waitStep_settles waits' (by rw [field]; exact free) early] at step
      rw [(work _ step (by rw [tsq]; exact empty)).tsq, tsq]
    · rw [State.waitStep_out waits' (by rw [field]; exact free) late,
        State.waitRunsOut_recovery (by rw [tsq]; exact recovers) (by rw [tsq]; exact empty)] at step
      have alone' := work _ step (by rw [← empty, ← tsq]; rfl)
      refine ⟨alone'.tsq.trans (by rw [← tsq]; rfl), ?_, by rw [alone'.dhd]; rfl⟩
      rw [alone'.holdsEvent]
      exact State.holdsEvent_latch ..

end

section
/-! SUPPORT. A held directive that expires and a cue past its reversals (R94, R96, R97). -/

namespace Sys2Proof.Machine

/-! ### A report sent -/

/-- A report without a result goes to a station by the TXQ, or into the port's receive queue, where there is a place (R69, R70). -/
def State.Reported (s : State) (issuer : Issuer) (seq type : Byte) (code : Code) (t : State) : Prop :=
  (∀ n, issuer = .station n → s.lif.listenOnly = false → s.lif.nonAnnouncements < 7 →
      { kind := .report, dest := BitVec.ofNat 5 n, seq := seq, payload := [type, code.value], age := 0 } ∈ t.lif.waiting) ∧
    (issuer = .port → s.lpt.rxQueue.length < 8 → t.lpt.rxQueue = s.lpt.rxQueue ++
      [{ bytes := [s.sourceNumber.setWidth 8, 2, seq, 2, type, code.value], place := 0 }])

section
variable {s u v t : State} {issuer : Issuer} {seq type : Byte} {code : Code}

theorem State.answer_reported (s : State) (issuer : Issuer) (seq type : Byte) (code : Code) :
    s.Reported issuer seq type code (s.answer issuer seq type code []) := by
  refine ⟨?_, ?_⟩
  · rintro n rfl hears few
    have room : s.lif.full = false := by simpa [Lif.full] using few
    simp only [State.answer, State.txJoin, hears, room]
    exact joinBehind_mem.mpr (.inl rfl)
  · rintro rfl room
    simp only [State.answer, State.rxJoin_room room]
    rfl

theorem State.Reported.of_same (lif : u.lif = s.lif) (lpt : u.lpt = s.lpt) (stn : u.dhd.stn = s.dhd.stn)
    (sent : u.Reported issuer seq type code t) : s.Reported issuer seq type code t := by
  unfold State.Reported at sent
  rw [lif, lpt, State.sourceNumber_of_stn stn] at sent
  exact sent

/-- A report sent while a field was begun and aged leaves the deck at work by itself with it. -/
theorem State.Begun.reported {pins : FieldPins} (begun : s.Begun u pins) (sent : u.Reported issuer seq type code v) (alone : v.Alone t) :
    s.Reported issuer seq type code t := by
  obtain ⟨sends, joins⟩ := sent
  refine ⟨fun n dest hears few => ?_, fun port room => ?_⟩
  · exact alone.waiting _ (sends n dest (begun.listenOnly.trans hears) (Nat.lt_of_le_of_lt begun.few few)) rfl
  · rw [alone.lpt, joins port (by rw [begun.lpt]; exact room), begun.lpt, State.sourceNumber_of_stn begun.stn]

end

/-! ### A request with nothing waiting for it -/

section
variable {s : State} {m : ReqMode} {speed : Int} {track : BitVec 5}

/-- A request of a deck with no operation, no recovery and no chase waiting changes the transport's own record alone. -/
theorem State.drive_bare (clear : s.tsq.pendingOp = none) (well : s.tsq.recovery ≠ .recoveryWait) (free : s.tsq.state ≠ .chasing) :
    ∃ q : Tsq, s.drive m speed track = { s with tsq := q } ∧ q.state = s.tsq.state ∧ q.reqMode = m ∧ q.pendingOp = none ∧
      q.slot = s.tsq.slot ∧ q.recovery = s.tsq.recovery := by
  have idle : ∀ o, s.tsq.pendingOp = some o → o.kind = .mode := by simp [clear]
  by_cases same : s.tsq.reqMode = m
  · by_cases met : s.tsq.matched = true
    · rw [State.drive_met same met, State.onMatched_unhurried (by exact well) (by exact idle) (.inl (by exact free))]
      exact ⟨_, rfl, rfl, same, rfl, rfl, rfl⟩
    · rw [State.drive_again same (Bool.eq_false_iff.mpr met)]
      exact ⟨_, rfl, rfl, same, clear, rfl, rfl⟩
  · by_cases seen : Tally.mode s.pins.tally = some m
    · rw [State.drive_shown same seen, State.onMatched_unhurried (by exact well) (by exact idle) (.inl (by exact free))]
      exact ⟨_, rfl, rfl, rfl, rfl, rfl, rfl⟩
    · rw [State.drive_asks same seen]
      exact ⟨_, rfl, rfl, rfl, clear, rfl, rfl⟩

end

/-! ### The two failures -/

section
variable {s : State} {c : Settings} {h : Held} {o : PendingOp}

/-- The failure a held directive leaves the slot with (R97). -/
def Held.expiry (h : Held) : Sense :=
  { code := .deferralExpired, origin := .directive h.motion.typeByte, address := none, nextFrame := none, remaining := none }

theorem State.emptySlot_held (code : Code) (held : s.tsq.slot = some h) :
    s.emptySlot code = ({ s with tsq := { s.tsq with slot := none } } : State).answer h.issuer h.seq h.motion.typeByte code [] := by
  simp [State.emptySlot, held]

theorem State.expireSlot_eq (held : s.tsq.slot = some h) :
    s.expireSlot h = ({ s with tsq := { s.tsq with slot := none }, dhd := { s.dhd with sense := some h.expiry } } : State).answer
      h.issuer h.seq h.motion.typeByte .deferralExpired [] :=
  State.emptySlot_held (s := s.writeSense h.expiry) .deferralExpired held

/-- What a directive that leaves the slot unrun leaves behind. -/
theorem State.expireSlot_rest (held : s.tsq.slot = some h) :
    (s.expireSlot h).tsq = { s.tsq with slot := none } ∧ (s.expireSlot h).dhd.sense = some h.expiry ∧
      s.Reported h.issuer h.seq h.motion.typeByte .deferralExpired (s.expireSlot h) := by
  rw [State.expireSlot_eq held]
  exact ⟨(State.answer_frame ..).tsq, (State.answer_paced ..).sense, .of_same (by rfl) (by rfl) (by rfl) (State.answer_reported ..)⟩

/-- The failure a cue past its reversals ends with (R94). -/
def State.unfound (o : PendingOp) (s : State) : Sense :=
  { code := .seekFailed, origin := o.origin, address := s.ownFrame, nextFrame := none, remaining := none }

/-- A cue that failed, its STILL not yet requested. -/
def State.seekLost (o : PendingOp) (s : State) : State :=
  ({ s with tsq := { s.tsq with state := .still, pendingOp := none }, dhd := { s.dhd with sense := some (s.unfound o) } } : State).answer
    o.issuer o.seq o.kind.typeByte .seekFailed []

theorem State.seekLost_tsq (s : State) : (s.seekLost o).tsq = { s.tsq with state := .still, pendingOp := none } :=
  (State.answer_frame ..).tsq

theorem State.seekLost_rest (o : PendingOp) (s : State) :
    (s.seekLost o).dhd.sense = some (s.unfound o) ∧ (s.seekLost o).csv = s.csv ∧ (s.seekLost o).rcc = s.rcc ∧
      s.Reported o.issuer o.seq o.kind.typeByte .seekFailed (s.seekLost o) :=
  ⟨(State.answer_paced ..).sense, (State.answer_frame ..).csv, (State.answer_frame ..).rcc,
    .of_same (by rfl) (by rfl) (by rfl) (State.answer_reported ..)⟩

theorem State.failSeek_drives (well : s.tsq.recovery ≠ .recoveryWait) (empty : s.tsq.slot = none) :
    ∃ q : Tsq, s.failSeek o = { s.seekLost o with tsq := q } ∧ q.state = .still ∧ q.reqMode = .still ∧ q.pendingOp = none ∧
      q.slot = none := by
  have tsq := s.seekLost_tsq (o := o)
  obtain ⟨q, drives, state, mode, clear, slot, -⟩ := State.drive_bare (s := s.seekLost o) (m := .still) (speed := 0) (track := 0)
    (by rw [tsq]) (by rw [tsq]; exact well) (by rw [tsq]; nofun)
  have gone : q.slot = none := by rw [slot, tsq]; exact empty
  refine ⟨q, ?_, by rw [state, tsq], mode, clear, gone⟩
  have first : s.failSeek o = ((s.seekLost o).drive .still 0 0).settle := rfl
  rw [first, drives]
  exact State.settle_none gone

theorem State.failSeek_again (empty : s.tsq.slot = none) (still : s.tsq.reqMode = .still) (waits : s.tsq.matched = false) :
    s.failSeek o = ({ s with
      tsq := { s.tsq with state := .still, pendingOp := none, reqSpeed := 0 },
      dhd := { s.dhd with sense := some (s.unfound o) } } : State).answer o.issuer o.seq o.kind.typeByte .seekFailed [] := by
  have tsq := s.seekLost_tsq (o := o)
  have first : s.failSeek o = ((s.seekLost o).drive .still 0 0).settle := rfl
  have base := State.answer_tsq o.issuer o.seq o.kind.typeByte .seekFailed [] { s.tsq with state := .still, pendingOp := none }
    { s with dhd := { s.dhd with sense := some (s.unfound o) } }
  rw [first, State.drive_again (by rw [tsq]; exact still) (by rw [tsq]; exact waits), State.settle_none (by rw [tsq]; exact empty), tsq,
    show s.seekLost o = _ from base]
  exact (State.answer_tsq o.issuer o.seq o.kind.typeByte .seekFailed [] { s.tsq with state := .still, pendingOp := none, reqSpeed := 0 }
    { s with dhd := { s.dhd with sense := some (s.unfound o) } }).symm

end

/-! ### The deck at a field start with no fault and a wait that does not end (R84, R86, R94, R97) -/

section
variable {s u t : State} {c : Settings} {h : Held} {o : PendingOp} {pins : FieldPins} {x : Nat} {e : Int}

/-- The fault count and the wait as a field start without a fault leaves them. -/
def State.waitedTo (n : Nat) (w : Option TallyWait) (s : State) : State := { s with tsq := { s.tsq with faultCount := n, wait := w } }

/-- With no fault, no recovery and no wait at its end, the fault count and the wait alone change before the cue law. -/
theorem State.afterWait_counts (well : s.tsq.recovery = .idle) (clear : s.pins.field.deckFault = false)
    (early : ∀ w, s.tsq.wait = some w → w.settle + 1 < c.settleLimit) :
    ∃ (n : Nat) (w : Option TallyWait), s.afterWait c = s.waitedTo n w := by
  obtain ⟨n, step⟩ : ∃ n, s.faultStep = s.counted n := by
    by_cases read : s.readsFault
    · exact ⟨0, State.faultStep_clear read clear⟩
    · exact ⟨_, State.faultStep_unread read⟩
  have waited : s.afterWait c = (s.counted n).waitStep c :=
    (State.afterWait_counted step).trans (State.recoveryStep_waits fun k => by
      show s.tsq.recovery ≠ _
      rw [well]
      nofun)
  rw [waited]
  cases wait : s.tsq.wait with
  | none => exact ⟨n, s.tsq.wait, State.waitStep_none wait⟩
  | some w =>
    by_cases busy : s.pins.field.deckBusy = true ∧ w.busy < c.busyLimit
    · exact ⟨n, _, State.waitStep_busy (s := s.counted n) wait busy⟩
    · have free : s.pins.field.deckBusy = false ∨ c.busyLimit ≤ w.busy := by
        by_contra h
        obtain ⟨on, few⟩ := not_or.mp h
        exact busy ⟨by simpa using on, by omega⟩
      exact ⟨n, _, State.waitStep_settles (s := s.counted n) wait free (early w wait)⟩

theorem State.slotStep_expires (held : s.tsq.slot = some h) (late : c.standard.deferralLimit ≤ h.age + 1) :
    s.slotStep c = s.expireSlot h := by
  unfold State.slotStep
  rw [held]
  exact if_pos late

theorem State.slotStep_empty (empty : s.tsq.slot = none) : s.slotStep c = s := by
  unfold State.slotStep
  rw [empty]

/-- A sign of the error other than the one before it (R94). -/
abbrev PendingOp.turned (o : PendingOp) (e : Int) : Prop := e ≠ 0 ∧ ∃ last, o.lastSign = some last ∧ last ≠ signOf e

theorem PendingOp.countReversal_reversals (o : PendingOp) (e : Int) [Decidable (o.turned e)] :
    (o.countReversal e).reversals = if o.turned e then o.reversals + 1 else o.reversals := by
  unfold PendingOp.countReversal
  by_cases zero : e = 0
  · rw [if_pos zero, if_neg fun turned => turned.1 zero]
  · rw [if_neg zero]
    cases last : o.lastSign with
    | none => simp [PendingOp.turned, last]
    | some k => simp [PendingOp.turned, last, zero]

theorem PendingOp.countReversal_same (o : PendingOp) (e : Int) :
    (o.countReversal e).issuer = o.issuer ∧ (o.countReversal e).seq = o.seq ∧ (o.countReversal e).kind = o.kind ∧
      (o.countReversal e).origin = o.origin ∧ (o.countReversal e).target = o.target := by
  unfold PendingOp.countReversal
  split <;> exact ⟨rfl, rfl, rfl, rfl, rfl⟩

theorem State.cueError_eq (hc : s.dhd.config = some c) (own : s.own = some x) :
    s.cueError o = some (diff c.standard.day (o.target * 256) x) := by
  simp only [State.cueError, State.standard_of_config hc, own]

theorem State.cueStep_fails (pending : s.tsq.pendingOp = some o) (error : s.cueError o = some e) (past : 8 < (o.countReversal e).reversals) :
    s.cueStep = (s.setPending (some (o.countReversal e))).failSeek (o.countReversal e) := by
  unfold State.cueStep
  rw [pending]
  dsimp only
  rw [error]
  exact if_pos past

theorem State.cueStep_approaches (pending : s.tsq.pendingOp = some o) (error : s.cueError o = some e)
    (within : (o.countReversal e).reversals ≤ 8) :
    s.cueStep = ((s.setPending (some (o.countReversal e))).approach e).settle := by
  unfold State.cueStep
  rw [pending]
  dsimp only
  rw [error]
  exact if_neg (Nat.not_lt.mpr within)

theorem State.approach_slot (e : Int) (s : State) (empty : s.tsq.slot = none) : (s.approach e).tsq.slot = none := by
  unfold State.approach
  split
  · exact empty
  · split
    · exact State.slot_none_iff.mp ((State.drive_brief .still 0 0 s).slot.trans (State.slot_none_iff.mpr empty))
    · exact State.slot_none_iff.mp ((State.drive_brief .var _ 0 s).slot.trans (State.slot_none_iff.mpr empty))

end

end Sys2Proof.Machine

open Sys2Proof Sys2Proof.Machine

/-- Settles O37: the slot's age and the cue's reversals at a field start lead to the two failures the commands name. -/
theorem heldAndSeekingOperationsFail : Obligations.HeldAndSeekingOperationsFail := by
  unfold Obligations.HeldAndSeekingOperationsFail
  intro s
  refine ⟨fun c h hc held late => ?_, fun o pending cueing well many empty => ?_, fun i pins t c gives e counted hc alone sound well early => ?_⟩
  · show execDeferralExpired s = _
    unfold execDeferralExpired
    rw [hc, held]
    dsimp only
    rw [if_pos (by rw [Standard.deferralLimit_eq]; exact late), State.expireSlot_eq held]
    rfl
  · refine ⟨s.failSeek o, ?_, ?_⟩
    · show execSeekFailed s = _
      unfold execSeekFailed
      rw [pending]
      exact if_pos ⟨cueing, many⟩
    · obtain ⟨q, fails, state, mode, clear, -⟩ := State.failSeek_drives (s := s) (o := o) (by simp [well]) empty
      have work := s.failSeek_work o
      obtain ⟨sense, csv, rcc, -⟩ := s.seekLost_rest o
      exact ⟨by rw [fails]; exact state, by rw [fails]; exact mode, by rw [fails]; exact clear, by rw [fails]; exact sense, work.psu,
        by rw [fails]; exact csv, by rw [fails]; exact rcc, work.ten, work.cul, work.pins, work.by,
        fun still waits => State.failSeek_again empty still waits⟩
  · obtain ⟨u, begun, after⟩ := exec_alone gives e counted alone
    have config := begun.config.trans hc
    have eq := State.transportFieldStart_eq config (begun.transportFitted.trans alone.1)
    obtain ⟨n, w, waited⟩ := State.afterWait_counts (s := u) (c := c) (by rw [begun.tsq]; exact well)
      (by rw [begun.pins]; exact sound) (by rw [begun.tsq]; exact early)
    rw [waited] at eq
    refine ⟨fun h held waits steady => ?_, fun o x cueing pending own empty kind => ?_⟩
    · rw [if_neg (by rw [begun.tsq]; exact fun k => steady k.1)] at eq
      have slot : u.tsq.slot = some h := by rw [begun.tsq]; exact held
      rw [← Standard.deferralLimit_eq]
      refine ⟨fun young => ?_, fun late => ?_⟩
      · rw [State.slotStep_older (by rintro h' held'; cases slot.symm.trans held'; exact young)] at eq
        rw [eq] at after
        exact ⟨after.tsq ▸ congrArg olderHeld slot, (congrArg Dhd.sense after.dhd).trans begun.sense⟩
      · rw [State.slotStep_expires (by exact slot) late] at eq
        rw [eq] at after
        obtain ⟨tsq, sense, sent⟩ := State.expireSlot_rest (s := u.waitedTo n w) (h := h) slot
        refine ⟨by rw [after.tsq, tsq], ?_, by rw [after.dhd]; exact sense, begun.reported (u := u) sent after⟩
        rw [after.tsq, tsq, ← begun.tsq]
        rfl
    · have own' : u.own = some x := begun.own.trans own
      rw [if_pos (by rw [begun.tsq]; exact ⟨cueing, by rw [State.waitedTo, begun.tsq]; exact cueing⟩)] at eq
      obtain ⟨issuer, seq, is, origin, -⟩ := o.countReversal_same (diff c.standard.day (o.target * 256) x)
      have counts := o.countReversal_reversals (diff c.standard.day (o.target * 256) x)
      have error : (u.waitedTo n w).cueError o = some (diff c.standard.day (o.target * 256) x) := State.cueError_eq config own'
      generalize diff c.standard.day (o.target * 256) x = e at issuer seq is origin counts error
      have pending' : (u.waitedTo n w).tsq.pendingOp = some o := by rw [State.waitedTo, begun.tsq]; exact pending
      have slot : (u.waitedTo n w).tsq.slot = none := by rw [State.waitedTo, begun.tsq]; exact empty
      have still : (u.waitedTo n w).tsq.recovery ≠ .recoveryWait := by simp [State.waitedTo, begun.tsq, well]
      refine ⟨fun turned many => ?_, fun within => ?_⟩
      · rw [State.cueStep_fails pending' error (by rw [counts, if_pos turned]; omega)] at eq
        obtain ⟨q, fails, state, mode, clear, gone⟩ := State.failSeek_drives
          (s := (u.waitedTo n w).setPending (some (o.countReversal e))) (o := o.countReversal e) still slot
        obtain ⟨sense, -, -, sent⟩ := State.seekLost_rest (o.countReversal e) ((u.waitedTo n w).setPending (some (o.countReversal e)))
        rw [fails, State.slotStep_empty (by exact gone)] at eq
        rw [eq] at after
        rw [issuer, seq, is] at sent
        have frame : ((u.waitedTo n w).setPending (some (o.countReversal e))).ownFrame = s.ownFrame := by
          show u.ownFrame = _
          rw [State.ownFrame, begun.own]
          rfl
        have reported := begun.reported (u := u) (by exact sent) after
        refine ⟨by rw [after.tsq]; exact state, by rw [after.tsq]; exact mode, by rw [after.tsq]; exact clear, ?_, ?_⟩
        · rw [after.dhd]
          refine sense.trans ?_
          rw [State.unfound, origin, frame]
        · exact reported
      · have few : (o.countReversal e).reversals ≤ 8 := by
          rw [counts]
          obtain few | ⟨calm, eight⟩ := within
          · split <;> omega
          · rw [if_neg calm]
            exact eight.le
        rw [State.cueStep_approaches pending' error few, State.settle_none (State.approach_slot _ _ (by exact slot)),
          State.slotStep_empty (State.approach_slot _ _ (by exact slot))] at eq
        rw [eq] at after
        rw [after.dhd]
        exact (State.approach_paced ..).sense.trans begun.sense

end

section
/-! SUPPORT. CUE_TO and JOG: the approach law, the request it makes and the arrival (R91, R94, R96). -/

namespace Sys2Proof.Machine

section
variable {s : State} {c : Settings} {o : PendingOp} {x : Nat} {e : Int}

/-! ### What a matched request does for a cue -/

abbrev PendingOp.seeks (o : PendingOp) : Prop := o.kind = .cueTo ∨ o.kind = .jog

theorem State.matchPending_moving (pending : s.tsq.pendingOp = some o) (cue : o.seeks) (moves : s.tsq.reqMode ≠ .still) :
    s.matchPending = s := by
  unfold State.matchPending
  rw [pending]
  obtain is | is := cue <;> simp [is, moves]

theorem State.matchPending_rests (pending : s.tsq.pendingOp = some o) (cue : o.seeks) (cueing : s.tsq.state = .cueing)
    (still : s.tsq.reqMode = .still) : s.matchPending = s.judgeRest o := by
  unfold State.matchPending
  rw [pending]
  obtain is | is := cue <;> simp [is, cueing, still]

theorem State.judgeRest_arrives (hc : s.dhd.config = some c) (own : s.own = some x)
    (near : (diff c.standard.day (o.target * 256) x).natAbs ≤ 256) :
    s.judgeRest o = ((s.setPending none).setTransport .still).answer o.issuer o.seq o.kind.typeByte .done (positionBytes c.standard x) := by
  simp only [State.judgeRest, State.ownBytes, State.standard_of_config hc, own, if_pos near]

theorem State.judgeRest_goesOn (hc : s.dhd.config = some c) (own : s.own = some x)
    (far : 256 < (diff c.standard.day (o.target * 256) x).natAbs) : s.judgeRest o = s := by
  simp only [State.judgeRest, State.standard_of_config hc, own, if_neg (Nat.not_le.mpr far)]

theorem State.onMatched_moving (well : s.tsq.recovery ≠ .recoveryWait) (pending : s.tsq.pendingOp = some o) (cue : o.seeks)
    (moves : s.tsq.reqMode ≠ .still) : s.onMatched = { s with tsq := { s.tsq with matched := true, wait := none } } := by
  unfold State.onMatched
  rw [State.matchRecovery_other (by exact well), State.matchPending_moving (by exact pending) cue (by exact moves),
    State.matchFollow_other (.inr (.inl (by exact moves)))]

/-- A cue that has arrived: what is left of the station before its answer (R94). -/
def State.arrived (s : State) : State :=
  { s with tsq := { s.tsq with state := .still, matched := true, wait := none, pendingOp := none } }

theorem State.onMatched_arrived (well : s.tsq.recovery ≠ .recoveryWait) (pending : s.tsq.pendingOp = some o) (cue : o.seeks)
    (cueing : s.tsq.state = .cueing) (still : s.tsq.reqMode = .still) (hc : s.dhd.config = some c) (own : s.own = some x)
    (near : (diff c.standard.day (o.target * 256) x).natAbs ≤ 256) :
    s.onMatched = s.arrived.answer o.issuer o.seq o.kind.typeByte .done (positionBytes c.standard x) := by
  unfold State.onMatched
  rw [State.matchRecovery_other (by exact well), State.matchPending_rests (by exact pending) cue (by exact cueing) (by exact still),
    State.judgeRest_arrives (by exact hc) (by exact own) near]
  refine (State.matchFollow_other (.inl ?_)).trans rfl
  rw [(State.answer_frame ..).tsq]
  nofun

/-! ### The approach law -/

/-- The speed a cue asks for from an error (R94). -/
def approachSpeed (c : Settings) (e : Int) : Int := signOf e * clampInt 128 c.shuttleLimit ((e.natAbs / 8 : Nat) : Int)

theorem clampInt_approach (least : 128 ≤ c.shuttleLimit) (e : Int) :
    clampInt (-(c.shuttleLimit : Int)) c.shuttleLimit (approachSpeed c e) = approachSpeed c e := by
  have bound : 0 ≤ clampInt 128 c.shuttleLimit ((e.natAbs / 8 : Nat) : Int) ∧
      clampInt 128 c.shuttleLimit ((e.natAbs / 8 : Nat) : Int) ≤ c.shuttleLimit := by
    unfold clampInt
    split
    · omega
    · split <;> omega
  unfold approachSpeed
  generalize clampInt 128 c.shuttleLimit ((e.natAbs / 8 : Nat) : Int) = v at bound
  have range : -(c.shuttleLimit : Int) ≤ signOf e * v ∧ signOf e * v ≤ c.shuttleLimit := by
    unfold signOf
    split
    · omega
    · split <;> omega
  unfold clampInt
  rw [if_neg (by omega), if_neg (by omega)]

theorem State.askedSpeed_approach (hc : s.dhd.config = some c) (least : 128 ≤ c.shuttleLimit) (e : Int) :
    s.askedSpeed .var (approachSpeed c e) = approachSpeed c e := by
  have limit : s.shuttleLimit = c.shuttleLimit := by simp [State.shuttleLimit, hc]
  rw [State.askedSpeed, if_pos (.inl rfl), State.clampSpeed, limit, clampInt_approach least]

theorem State.approach_holds (still : s.tsq.reqMode = .still) (waits : s.tsq.matched = false) : s.approach e = s := if_pos ⟨still, waits⟩

theorem State.approach_near (ready : s.tsq.reqMode = .still → s.tsq.matched = true) (near : e.natAbs ≤ 128) :
    s.approach e = s.drive .still 0 0 := by
  unfold State.approach
  rw [if_neg fun h => by simp [ready h.1] at h, if_pos near]

theorem State.approach_far (hc : s.dhd.config = some c) (ready : s.tsq.reqMode = .still → s.tsq.matched = true)
    (far : 128 < e.natAbs) : s.approach e = s.drive .var (approachSpeed c e) 0 := by
  have limit : s.shuttleLimit = c.shuttleLimit := by simp [State.shuttleLimit, hc]
  unfold State.approach
  rw [if_neg fun h => by simp [ready h.1] at h, if_neg (Nat.not_le.mpr far), limit]
  rfl

/-- What the approach law leaves of the transport of a cue under way (R94). -/
structure State.Approached (c : Settings) (o : PendingOp) (e : Int) (s : State) (q : Tsq) : Prop where
  holds : s.tsq.reqMode = .still → s.tsq.matched = false → q = s.tsq
  varies : (s.tsq.reqMode = .still → s.tsq.matched = true) → 128 < e.natAbs →
    q.state = .cueing ∧ q.reqMode = .var ∧ q.reqSpeed = approachSpeed c e ∧ q.pendingOp = some o ∧
      (s.tsq.reqMode ≠ .var → s.pins.tally ≠ .var → q.matched = false ∧ q.wait = some { settle := 0, busy := 0 })
  stills : e.natAbs ≤ 128 → s.tsq.reqMode ≠ .still → s.pins.tally ≠ .still →
    q.state = .cueing ∧ q.reqMode = .still ∧ q.matched = false ∧ q.wait = some { settle := 0, busy := 0 } ∧ q.pendingOp = some o
  arrives : (s.tsq.reqMode = .still → s.tsq.matched = true) → e.natAbs ≤ 128 → s.tsq.reqMode = .still ∨ s.pins.tally = .still →
    q.state = .still ∧ q.reqMode = .still ∧ q.matched = true ∧ q.pendingOp = none

theorem Tally.mode_still {t : Tally} : Tally.mode t = some .still ↔ t = .still := by cases t <;> simp [Tally.mode]

theorem Tally.mode_var {t : Tally} : Tally.mode t = some .var ↔ t = .var := by cases t <;> simp [Tally.mode]

theorem State.approach_approached (hc : s.dhd.config = some c) (least : 128 ≤ c.shuttleLimit) (own : s.own = some x)
    (well : s.tsq.recovery ≠ .recoveryWait) (cueing : s.tsq.state = .cueing) (pending : s.tsq.pendingOp = some o) (cue : o.seeks) :
    s.Approached c o (diff c.standard.day (o.target * 256) x) (s.approach (diff c.standard.day (o.target * 256) x)).tsq := by
  generalize he : diff c.standard.day (o.target * 256) x = e
  refine ⟨fun still waits => by rw [State.approach_holds still waits], fun ready far => ?_, fun near new unseen => ?_,
    fun ready near shown => ?_⟩
  · have speed := State.askedSpeed_approach hc least e
    rw [State.approach_far hc ready far]
    by_cases same : s.tsq.reqMode = .var
    · by_cases met : s.tsq.matched = true
      · rw [State.drive_met same met, State.onMatched_moving (by exact well) (by exact pending) cue (by simp [same])]
        exact ⟨cueing, same, speed, pending, fun new => absurd same new⟩
      · rw [State.drive_again same (Bool.eq_false_iff.mpr met)]
        exact ⟨cueing, same, speed, pending, fun new => absurd same new⟩
    · by_cases seen : s.pins.tally = .var
      · rw [State.drive_shown same (Tally.mode_var.mpr seen), State.onMatched_moving (by exact well) (by exact pending) cue (by nofun)]
        exact ⟨cueing, rfl, speed, pending, fun _ unseen => absurd seen unseen⟩
      · rw [State.drive_asks same (Tally.mode_var.not.mpr seen)]
        exact ⟨cueing, rfl, speed, pending, fun _ _ => ⟨rfl, rfl⟩⟩
  · rw [State.approach_near (fun h => absurd h new) near, State.drive_asks new (Tally.mode_still.not.mpr unseen)]
    exact ⟨cueing, rfl, rfl, rfl, pending⟩
  · have within : (diff c.standard.day (o.target * 256) x).natAbs ≤ 256 := by omega
    rw [State.approach_near ready near]
    by_cases same : s.tsq.reqMode = .still
    · rw [State.drive_met same (ready same), State.onMatched_arrived (by exact well) (by exact pending) cue (by exact cueing)
        (by exact same) (by exact hc) (by exact own) within, (State.answer_frame ..).tsq]
      exact ⟨rfl, same, rfl, rfl⟩
    · rw [State.drive_shown same (Tally.mode_still.mpr (shown.resolve_left same)), State.onMatched_arrived (by exact well)
        (by exact pending) cue (by exact cueing) rfl (by exact hc) (by exact own) within, (State.answer_frame ..).tsq]
      exact ⟨rfl, rfl, rfl, rfl⟩

/-! ### A cue taken -/

/-- A cue taken, before its first request. -/
def State.sought (kind : OpKind) (target : Nat) (issuer : Issuer) (seq : Byte) (s : State) : State :=
  (s.setTransport .cueing).setPending (some (pendingOf kind issuer seq (.directive kind.typeByte) target))

theorem State.takeSeek_eq {kind : OpKind} {target : Nat} {issuer : Issuer} {seq : Byte} (hc : s.dhd.config = some c)
    (own : s.own = some x) :
    s.takeSeek kind target issuer seq = (s.sought kind target issuer seq).approach (diff c.standard.day (target * 256) x) := by
  have error : (s.sought kind target issuer seq).cueError (pendingOf kind issuer seq (.directive kind.typeByte) target) =
      some (diff c.standard.day (target * 256) x) := State.cueError_eq hc own
  unfold State.takeSeek
  dsimp only
  rw [show ((s.setTransport .cueing).setPending (some (pendingOf kind issuer seq (.directive kind.typeByte) target))).cueError _ = _
    from error]
  rfl

end

/-! ### The directives -/

section
variable {via : Via} {s : State} {c : Settings}

theorem exec_cueTo {h m sec f : Byte} {target : Nat} (hc : s.dhd.config = some c) (hobeys : s.obeysTape via 5 = true)
    (label : labelCount c.standard { hours := h, minutes := m, seconds := sec, frames := f } = some target) :
    exec (.cueTo via [h, m, sec, f]) s = .next
      (((s.heard via).requestMotion (.cueTo target) (Via.issuer via) (Via.seq via)).1.reply (Via.issuer via) (Via.seq via) 0x06
        ((s.heard via).requestMotion (.cueTo target) (Via.issuer via) (Via.seq via)).2) :=
  exec_tape (type := 0x06) (q := [h, m, sec, f]) (d := .motion (.cueTo target)) rfl rfl hobeys rfl rfl fun c' hc' => by
    cases hc.symm.trans hc'
    have frame : frameAt c.standard [0x06, h, m, sec, f] 1 = some target := label
    rw [parseParams_configured (p := [0x06, h, m, sec, f]) (Nat.le_refl 5) (show 5 ≤ (0x06 : Byte).toNat by decide),
      parseConfigured_cueTo rfl, frame]

theorem exec_jog {n : Byte} (hobeys : s.obeysTape via 2 = true) (moves : n.toInt ≠ 0) (low : -99 ≤ n.toInt) (high : n.toInt ≤ 99) :
    exec (.jog via [n]) s = .next
      (((s.heard via).requestMotion (.jog n.toInt) (Via.issuer via) (Via.seq via)).1.reply (Via.issuer via) (Via.seq via) 0x07
        ((s.heard via).requestMotion (.jog n.toInt) (Via.issuer via) (Via.seq via)).2) :=
  exec_tape (type := 0x07) (q := [n]) (d := .motion (.jog n.toInt)) rfl rfl hobeys rfl rfl fun _ _ => by
    have word : intAt8 [0x07, n] 1 = n.toInt := rfl
    rw [parseParams_configured (p := [0x07, n]) (Nat.le_refl 2) (show 5 ≤ (0x07 : Byte).toNat by decide), parseConfigured_jog rfl]
    unfold parseJog
    rw [word]
    exact if_neg (by omega)

end

end Sys2Proof.Machine

open Sys2Proof Sys2Proof.Machine

/-- Settles O47: both directives take a cue, whose first request and whose judgement at a field start are the approach law's. -/
theorem cuesApproachTheTarget : Obligations.CuesApproachTheTarget := by
  unfold Obligations.CuesApproachTheTarget
  refine ⟨fun via s c hc hobeys tape off alone sound notCueing notEjecting free well => ?_, ?_⟩
  · have short : s.obeysTape via 2 = true := State.obeysTape_mono hobeys (by decide)
    have tsq : (s.heard via).tsq = s.tsq := State.heard_tsq ..
    have config : (s.heard via).dhd.config = some c := by rw [State.heard_dhd]; exact hc
    have takes : (s.heard via).takesMotions := by
      unfold State.takesMotions
      rw [tsq, State.heard_csv]
      exact ⟨tape, off, alone, fun h => absurd h sound⟩
    have settled : (s.heard via).settled = true := by
      rw [State.settled_iff, tsq]
      exact ⟨notCueing, notEjecting, free, well⟩
    refine ⟨fun i kind target own source hown given => ?_, fun source => ⟨fun h m sec f target label => ?_, fun n moves low high => ?_⟩⟩
    · intro e asked
      have hown' : (s.heard via).own = some own := by
        rw [← hown, State.own, State.own, State.heard_psu, State.heard_dhd]
      have known (m : Motion) : m.isSeek = true → (s.heard via).psu.source ≠ .noSource := by
        rw [State.heard_psu]
        exact fun _ => source
      have day : (s.heard via).dayFrames = c.standard.framesPerDay := by
        simp [State.dayFrames, State.standard_of_config config]
      have ownFrame : (s.heard via).ownFrame = some (own / 256) := by rw [State.ownFrame, hown']; rfl
      have row : exec i s = .next (((s.heard via).sought kind target (Via.issuer via) (Via.seq via)).approach e) ∧
          (kind = .cueTo ∨ kind = .jog) := by
        obtain ⟨h, m, sec, f, rfl, rfl, label⟩ | ⟨n, rfl, rfl, moves, low, high, rfl⟩ := given
        · rw [exec_cueTo hc hobeys label, State.requestMotion_taken takes (known _) settled, State.takeMotion,
            State.takeSeek_eq config hown']
          exact ⟨rfl, .inl rfl⟩
        · rw [exec_jog short moves low high, State.requestMotion_taken takes (known _) settled, State.takeMotion, day, ownFrame,
            State.takeSeek_eq config hown']
          exact ⟨rfl, .inr rfl⟩
      obtain ⟨row, cue⟩ := row
      have mode : ((s.heard via).sought kind target (Via.issuer via) (Via.seq via)).tsq.reqMode = s.tsq.reqMode := by rw [← tsq]; rfl
      have lines : ((s.heard via).sought kind target (Via.issuer via) (Via.seq via)).pins = s.pins := State.heard_pins ..
      have met : ((s.heard via).sought kind target (Via.issuer via) (Via.seq via)).tsq.matched = s.tsq.matched := by rw [← tsq]; rfl
      rw [row]
      refine ⟨fun far least new unseen ready => ?_, fun near new unseen => ?_, fun near still matched empty => ?_⟩
      · rw [State.approach_far (c := c) (by exact config) (by rw [mode, met]; exact ready) far, State.drive_asks (by rw [mode]; exact new)
          (by rw [lines]; exact Tally.mode_var.not.mpr unseen), State.asked, State.askedSpeed_approach (c := c) (by exact config) least]
        simp only [asked, ← tsq]
        rfl
      · rw [State.approach_near (by rw [mode]; exact fun h => absurd h new) near, State.drive_asks (by rw [mode]; exact new)
          (by rw [lines]; exact Tally.mode_still.not.mpr unseen), State.asked]
        simp only [asked, ← tsq]
        rfl
      · rw [State.approach_near (by rw [mode, met]; exact fun _ => matched) near, State.drive_met (by rw [mode]; exact still)
          (by rw [met]; exact matched), State.onMatched_arrived (c := c) (x := own)
          (o := pendingOf kind (Via.issuer via) (Via.seq via) (.directive kind.typeByte) target) (by
            show (s.heard via).tsq.recovery ≠ _
            rw [tsq, well]
            nofun) (by rfl) cue (by rfl) (by rw [← still, ← mode]) (by exact config) (by exact hown')
            (Nat.le_trans near (by decide))]
        have stands : ({ s.tsq with state := .still, reqSpeed := 0, matched := true, wait := none, pendingOp := none } : Tsq) =
            { s.tsq with state := .still, reqSpeed := 0, pendingOp := none } := by rw [← matched, ← free]
        rw [← stands, ← tsq]
        rfl
    all_goals
      have lost (m : Motion) (seek : m.isSeek = true) : (s.heard via).motionVerdict m = .refuse .positionUnknown :=
        State.motionVerdict_lost takes seek (by rw [State.heard_psu]; exact source)
    · rw [exec_cueTo hc hobeys label, State.requestMotion_refused (lost _ rfl)]
      rfl
    · rw [exec_jog short moves low high, State.requestMotion_refused (lost _ rfl)]
      rfl
  · intro i pins s t c o x gives e counted hc alone sound well early cueing pending cue own empty least
    obtain ⟨u, begun, after⟩ := exec_alone gives e counted alone
    have config := begun.config.trans hc
    have eq := State.transportFieldStart_eq config (begun.transportFitted.trans alone.1)
    obtain ⟨n, w, waited⟩ := State.afterWait_counts (s := u) (c := c) (by rw [begun.tsq]; exact well)
      (by rw [begun.pins]; exact sound) (by rw [begun.tsq]; exact early)
    rw [waited, if_pos (by rw [begun.tsq]; exact ⟨cueing, by rw [State.waitedTo, begun.tsq]; exact cueing⟩)] at eq
    have own' : u.own = some x := begun.own.trans own
    obtain ⟨-, -, is, -, target⟩ := o.countReversal_same (diff c.standard.day (o.target * 256) x)
    have counts := o.countReversal_reversals (diff c.standard.day (o.target * 256) x)
    have error : (u.waitedTo n w).cueError o = some (diff c.standard.day (o.target * 256) x) := State.cueError_eq config own'
    intro e turned signed speed approached
    have judged (few : (o.countReversal e).reversals ≤ 8) : approached (o.countReversal e).reversals := by
      have pending' : (u.waitedTo n w).tsq.pendingOp = some o := by rw [State.waitedTo, begun.tsq]; exact pending
      have slot : (u.waitedTo n w).tsq.slot = none := by rw [State.waitedTo, begun.tsq]; exact empty
      rw [State.cueStep_approaches pending' error few, State.settle_none (State.approach_slot _ _ (by exact slot)),
        State.slotStep_empty (State.approach_slot _ _ (by exact slot))] at eq
      have law := State.approach_approached (s := (u.waitedTo n w).setPending (some (o.countReversal e))) (c := c)
        (o := o.countReversal e) (x := x) config least own'
        (by show u.tsq.recovery ≠ _; rw [begun.tsq, well]; nofun) (by show u.tsq.state = _; rw [begun.tsq]; exact cueing) rfl
        (by rw [PendingOp.seeks, is]; exact cue)
      rw [target] at law
      rw [eq] at after
      have mode : ((u.waitedTo n w).setPending (some (o.countReversal e))).tsq.reqMode = s.tsq.reqMode := by
        show u.tsq.reqMode = _
        rw [begun.tsq]
      have met : ((u.waitedTo n w).setPending (some (o.countReversal e))).tsq.matched = s.tsq.matched := by
        show u.tsq.matched = _
        rw [begun.tsq]
      have lines : ((u.waitedTo n w).setPending (some (o.countReversal e))).pins.tally = s.pins.tally := by
        show u.pins.tally = _
        rw [begun.pins]
      have marked : o.countReversal e = signed (o.countReversal e).reversals := by
        unfold signed PendingOp.countReversal
        split <;> rfl
      obtain ⟨holds, varies, stills, arrives⟩ := law
      rw [mode, met] at holds varies arrives
      rw [mode] at stills
      rw [lines] at varies stills arrives
      unfold approached
      rw [← marked, after.tsq]
      have ready (h : s.tsq.reqMode ≠ .still ∨ s.tsq.matched = true) (still : s.tsq.reqMode = .still) : s.tsq.matched = true :=
        h.resolve_left fun other => other still
      refine ⟨fun still waits => ?_, fun h => ⟨fun far => varies (ready h) far, fun near => ⟨stills near, fun shown => arrives (ready h) near shown⟩⟩⟩
      rw [holds still waits]
      refine ⟨?_, mode.trans still, met.trans waits, ?_, rfl⟩
      · show u.tsq.state = _
        rw [begun.tsq]
        exact cueing
      · show u.tsq.reqSpeed = _
        rw [begun.tsq]
    refine ⟨fun hturned few => ?_, fun calm few => ?_⟩
    · have count : (o.countReversal e).reversals = o.reversals + 1 := counts.trans (if_pos hturned)
      exact count ▸ judged (by omega)
    · have count : (o.countReversal e).reversals = o.reversals := counts.trans (if_neg calm)
      exact count ▸ judged (by omega)

end

section
/-! SUPPORT. An unsolicited tally change, adopted (R88, R147, R149). -/

namespace Sys2Proof.Machine

/-- The transport's record with an adopted mode as its matched request (R88). -/
def Tsq.adopting (state : TransportState) (m : ReqMode) (speed : Int) (q : Tsq) : Tsq :=
  { q with state := state, reqMode := m, reqSpeed := speed, reqTrack := 0, matched := true, wait := none, pendingOp := none }

/-- The transport's record after an unsolicited tally (R88). -/
def State.overriddenTsq (s : State) : Tally → Tsq
  | .stop => s.tsq.adopting .stopped .stop 0
  | .still => s.tsq.adopting .still .still 0
  | .play => s.tsq.adopting .playing .play 0
  | .var => s.tsq.adopting .shuttling .var (s.clampSpeed s.psu.speed)
  | .record => { s.tsq.adopting .playing .play 0 with matched := false, wait := some { settle := 0, busy := 0 } }
  | .eject => s.tsq.adopting .ejecting .eject 0
  | .unknown => { s.tsq with pendingOp := none }

section
variable {s : State} {t : Tally} {g : Segment}

/-- The operation that waited, as the override finds it. -/
def State.unpended (s : State) : State := { s with tsq := { s.tsq with pendingOp := none } }

theorem State.adopt_eq (shown : s.pins.tally = t) : s.unpended.adopt t = { s with tsq := s.overriddenTsq t } := by
  cases t with
  | record =>
    have unseen : Tally.mode s.pins.tally ≠ some .play := by simp [shown, Tally.mode]
    exact (State.startWait_asks (by exact unseen)).trans rfl
  | stop | still | play | var | eject | unknown => rfl

/-- An override up to the end of the operation that waited, its failure written. -/
def State.overridePending (s t : State) : State :=
  let ended := (t.setPending s.tsq.pendingOp).endPending .deckOverride .deckOverride
  if s.tsq.pendingOp.isSome then
    ended.writeSense { code := .deckOverride, origin := s.opOrigin, address := s.ownFrame, nextFrame := none, remaining := none }
  else ended

theorem State.overridden_eq (t : Tally) (s : State) :
    s.overridden t = (((s.overridePending (s.unpended.adopt t)).cutOff .deckOverride).latch .deckOverride).settle := rfl

theorem State.overridePending_tsq (s t : State) : (s.overridePending t).tsq = { t.tsq with pendingOp := none } := by
  have ended := State.endPending_tsq .deckOverride .deckOverride (t.setPending s.tsq.pendingOp)
  unfold State.overridePending
  dsimp only
  split <;> exact ended

theorem State.overridePending_rcc (s t : State) : (s.overridePending t).rcc = t.rcc := by
  have ended := (State.endPending_deck .deckOverride .deckOverride (t.setPending s.tsq.pendingOp)).rcc
  unfold State.overridePending
  dsimp only
  split <;> exact ended

theorem State.overridePending_psu (s t : State) : (s.overridePending t).psu = t.psu := by
  have ended := (State.endPending_deck .deckOverride .deckOverride (t.setPending s.tsq.pendingOp)).psu
  unfold State.overridePending
  dsimp only
  split <;> exact ended

theorem State.overridePending_room {q : Tsq} (idle : s.unhurried) : s.Room (s.overridePending { s with tsq := q }) := by
  unfold State.overridePending
  dsimp only
  rw [State.endPending_unhurried _ _ (by exact idle)]
  split <;> exact ⟨rfl, rfl, rfl, rfl, le_rfl, fun quiet => ⟨quiet, rfl⟩⟩

/-- The station as an override finds chase and segment (R88). -/
def State.overrode (t : Tally) (s : State) : State := s.overridePending { s with tsq := s.overriddenTsq t }

theorem State.overrode_rcc (t : Tally) (s : State) : (s.overrode t).rcc = s.rcc := State.overridePending_rcc ..

theorem State.overrode_psu (t : Tally) (s : State) : (s.overrode t).psu = s.psu := State.overridePending_psu ..

theorem State.overrode_room (idle : s.unhurried) : s.Room (s.overrode t) := State.overridePending_room idle

/-- What an override leaves, with nothing held. -/
theorem State.overridden_tsq (shown : s.pins.tally = t) (empty : (s.overriddenTsq t).slot = none)
    (clear : (s.overriddenTsq t).pendingOp = none) :
    (s.overridden t).tsq = s.overriddenTsq t ∧
      s.overridden t = ((s.overrode t).cutOff .deckOverride).latch .deckOverride := by
  have tsq : ((s.overrode t).cutOff .deckOverride).tsq = s.overriddenTsq t := by
    rw [State.cutOff_tsq, State.overrode, State.overridePending_tsq, ← clear]
  have eq : s.overridden t = ((s.overrode t).cutOff .deckOverride).latch .deckOverride := by
    rw [State.overridden_eq, State.adopt_eq shown]
    refine State.settle_none ?_
    exact (congrArg Tsq.slot tsq).trans empty
  exact ⟨by rw [eq]; exact tsq, eq⟩

theorem State.overriddenTsq_clear (t : Tally) (s : State) : (s.overriddenTsq t).pendingOp = none ∧ (s.overriddenTsq t).slot = s.tsq.slot := by
  cases t <;> exact ⟨rfl, rfl⟩

end

end Sys2Proof.Machine

open Sys2Proof Sys2Proof.Machine

/-- Settles O33: the request and state are the tally's, and operation, chase and segment end one after the other. -/
theorem unsolicitedTallyIsAdopted : Obligations.UnsolicitedTallyIsAdopted := by
  unfold Obligations.UnsolicitedTallyIsAdopted
  intro tally s fitted ready free met new known other tape sound inside empty holds
  have row : exec (.tallyChange tally) s = .next (({ s with pins := { s.pins with tally := tally } } : State).overridden tally) := by
    show Host.Outcome.next (s.changeTally tally) = _
    unfold State.changeTally
    dsimp only
    rw [if_neg (by simp [new, fitted, Option.isSome_iff_ne_none.mp ready]), if_neg (by simp [free]), if_pos]
    simp only [State.unsolicited, State.tallyShows]
    simp [met, known, other, tape, sound, inside]
  obtain ⟨clear, slot⟩ := State.overriddenTsq_clear tally { s with pins := { s.pins with tally := tally } }
  have rcc := State.overrode_rcc tally { s with pins := { s.pins with tally := tally } }
  have psu := State.overrode_psu tally { s with pins := { s.pins with tally := tally } }
  have room : s.unhurried → s.Room (({ s with pins := { s.pins with tally := tally } } : State).overrode tally) := fun idle => by
    obtain ⟨stn, config, listenOnly, rxQueue, room, full⟩ := State.overrode_room (s := { s with pins := { s.pins with tally := tally } })
      (t := tally) idle
    exact ⟨stn, config, listenOnly, rxQueue, room, full⟩
  obtain ⟨tsq, eq⟩ := State.overridden_tsq (s := { s with pins := { s.pins with tally := tally } }) (t := tally) rfl (slot.trans empty) clear
  generalize ({ s with pins := { s.pins with tally := tally } } : State).overrode tally = v at rcc psu room eq
  have work := State.overridden_work tally { s with pins := { s.pins with tally := tally } }
  generalize hu : ({ s with pins := { s.pins with tally := tally } } : State).overridden tally = u at row tsq eq work
  have shown : s.Bystanders { s with pins := { s.pins with tally := tally } } := 
    ⟨rfl, rfl, rfl, rfl, rfl, rfl, rfl, rfl, .refl _, rfl, List.prefix_rfl, rfl, fun _ h => h⟩
  refine ⟨u, row, work.pins, ?_, ?_, ?_, ?_, ?_, ?_, by rw [tsq]; exact clear, ?_, work.chaseRecord, ?_, ?_, work.psu, work.ten, work.cul,
    work.zones, shown.trans work.by, fun g recording held quiet => ?_⟩
  · rintro rfl; rw [tsq]; exact ⟨rfl, rfl, rfl, rfl⟩
  · rintro rfl; rw [tsq]; exact ⟨rfl, rfl, rfl, rfl⟩
  · rintro rfl; rw [tsq]; exact ⟨rfl, rfl, rfl, rfl⟩
  · rintro rfl; rw [tsq]; exact ⟨rfl, rfl, rfl, rfl, rfl⟩
  · rintro rfl; rw [tsq]; exact ⟨rfl, rfl, rfl, rfl⟩
  · rintro rfl; rw [tsq]; exact ⟨rfl, rfl, rfl, rfl⟩
  all_goals rw [eq]
  · exact congrArg Csv.state (State.cutOff_csv .deckOverride _)
  · exact State.cutOff_ends (s := v) .deckOverride (by rw [rcc]; exact holds)
  · exact State.holdsEvent_latch ..
  · have cut := State.cutOff_noticed (s := v) (c := .deckOverride) (g := g) (by rw [rcc]; exact recording) (by rw [rcc]; exact held)
    rw [State.recordedTo_congr (room quiet.2).config psu] at cut
    exact .later (.of_room (room quiet.2) cut) (State.latch_by ..)

end

section
/-! SUPPORT. A tally change that satisfies the wait, and what waited for it (R83, R87, R90, R94, R97, R117). -/

namespace Sys2Proof.Machine

section
variable {s : State} {c : Settings} {o : PendingOp} {x : Nat} {tally : Tally} {h : Held} {code : Code}

/-! ### The change itself -/

/-- The station with the tally lines changed. -/
def State.showing (tally : Tally) (s : State) : State := { s with pins := { s.pins with tally := tally } }

theorem State.changeTally_unjudged (waits : s.tsq.wait.isSome = true) (other : Tally.mode tally ≠ some s.tsq.reqMode) :
    s.changeTally tally = s.showing tally := by
  have unseen : (s.showing tally).tallyShows s.tsq.reqMode = false :=
    Bool.eq_false_iff.mpr fun shows => other (State.tallyShows_iff.mp shows)
  unfold State.changeTally
  dsimp only
  split
  · rfl
  · exact if_neg (by simpa [State.showing] using unseen)

theorem State.changeTally_blind (blind : s.dhd.config = none ∨
    (s.tsq.wait = none ∧ (s.tsq.state = .unthreaded ∨ s.tsq.state = .faulted ∨ s.tsq.state = .ejecting))) :
    s.changeTally tally = s.showing tally := by
  unfold State.changeTally
  dsimp only
  obtain fresh | ⟨free, state⟩ := blind
  · exact if_pos (.inr (.inr (by simp [fresh])))
  · split
    · rfl
    · rw [if_neg (by simp [free]), if_neg]
      · rfl
      · obtain h | h | h := state <;> simp [State.unsolicited, h]

theorem State.changeTally_meets (new : tally ≠ s.pins.tally) (fitted : s.dhd.transportFitted = true) (hc : s.dhd.config = some c)
    (waits : s.tsq.wait.isSome = true) (shows : Tally.mode tally = some s.tsq.reqMode) :
    s.changeTally tally = (s.showing tally).onMatched.settle := by
  have seen : (s.showing tally).tallyShows s.tsq.reqMode = true := State.tallyShows_iff.mpr shows
  unfold State.changeTally
  dsimp only
  rw [if_neg (by simp [new, fitted, hc]), if_pos waits]
  exact if_pos (by simpa [State.showing] using seen)

/-! ### What waited for it -/

/-- The request matched, and nothing more. -/
def State.met (s : State) : State := { s with tsq := { s.tsq with matched := true, wait := none } }

theorem State.onMatched_eject (well : s.tsq.recovery ≠ .recoveryWait) (pending : s.tsq.pendingOp = some o) (kind : o.kind = .eject)
    (mode : s.tsq.reqMode = .eject) :
    s.onMatched = ({ s with tsq := { s.tsq with matched := true, wait := none, pendingOp := none } } : State).answer o.issuer o.seq
      0x05 .done [] := by
  unfold State.onMatched
  rw [State.matchRecovery_other (by exact well)]
  have ends : s.met.matchPending = (s.met.setPending none).answer o.issuer o.seq 0x05 .done [] := by
    unfold State.matchPending
    rw [show s.met.tsq.pendingOp = some o from pending]
    simp [kind, show s.met.tsq.reqMode = .eject from mode, OpKind.typeByte]
  rw [show ({ s with tsq := { s.tsq with matched := true, wait := none } } : State).matchPending = _ from ends]
  refine State.matchFollow_other (.inr (.inl ?_))
  rw [(State.answer_frame ..).tsq]
  exact fun still => nomatch mode.symm.trans still

theorem State.onMatched_resting (well : s.tsq.recovery ≠ .recoveryWait) (pending : s.tsq.pendingOp = some o) (cue : o.seeks)
    (cueing : s.tsq.state = .cueing) (still : s.tsq.reqMode = .still) (hc : s.dhd.config = some c) (own : s.own = some x)
    (far : 256 < (diff c.standard.day (o.target * 256) x).natAbs) : s.onMatched = s.met := by
  unfold State.onMatched
  rw [State.matchRecovery_other (by exact well), State.matchPending_rests (by exact pending) cue (by exact cueing) (by exact still),
    State.judgeRest_goesOn (by exact hc) (by exact own) far, State.matchFollow_other (.inl (by simp [cueing]))]
  rfl

theorem State.matchPending_none (clear : s.tsq.pendingOp = none) : s.matchPending = s := by
  unfold State.matchPending
  rw [clear]

/-- A chase whose STILL is matched is judged as R117 says. -/
theorem State.onMatched_follows (well : s.tsq.recovery ≠ .recoveryWait) (clear : s.tsq.pendingOp = none) :
    s.onMatched = s.met.matchFollow := by
  unfold State.onMatched
  rw [State.matchRecovery_other (by exact well), State.matchPending_none (by exact clear)]
  rfl

theorem State.matchFollow_eq (chasing : s.tsq.state = .chasing) (still : s.tsq.reqMode = .still) (follows : s.csv.state = .followStill)
    (approaching : s.csv.followStep = .approaching) (hc : s.dhd.config = some c) (own : s.own = some x) :
    s.matchFollow = if (diff c.standard.day s.csv.target x).natAbs ≤ 256 then { s with csv := { s.csv with followStep := .parked } } else s := by
  unfold State.matchFollow
  rw [if_pos ⟨chasing, still, follows, approaching⟩]
  simp only [State.standard_of_config hc, own]

/-! ### A held directive released (R97) -/

theorem State.settle_takes (held : s.tsq.slot = some h) (settled : s.settled = true)
    (free : ({ s with tsq := { s.tsq with slot := none } } : State).takesMotions)
    (known : h.motion.isSeek = true → s.psu.source ≠ .noSource) :
    s.settle = (({ s with tsq := { s.tsq with slot := none } } : State).takeMotion h.motion h.issuer h.seq).1.reply h.issuer h.seq
      h.motion.typeByte (({ s with tsq := { s.tsq with slot := none } } : State).takeMotion h.motion h.issuer h.seq).2 := by
  unfold State.settle
  rw [held]
  dsimp only
  rw [if_pos settled, State.requestMotion_taken free known (by exact settled)]

/-- A mode taken where the tally shows the mode requested: the same one stands matched, another is awaited (R83, R91). -/
theorem State.takeMode_matched {t : TransportState} {m : ReqMode} {speed : Int} {issuer : Issuer} {seq : Byte} {origin : Origin}
    (shows : Tally.mode s.pins.tally = some s.tsq.reqMode) (met : s.tsq.matched = true) (free : s.tsq.wait = none)
    (clear : s.tsq.pendingOp = none) (well : s.tsq.recovery = .idle) (plain : m ≠ .record) (other : t ≠ .chasing) :
    s.takeMode t m speed issuer seq origin =
      if s.tsq.reqMode = m then { s with tsq := { s.tsq with state := t, reqSpeed := s.askedSpeed m speed } }
      else { s with tsq := { s.tsq with
        state := t, reqMode := m, reqSpeed := s.askedSpeed m speed, reqTrack := 0, matched := false,
        wait := some { settle := 0, busy := 0 }, pendingOp := some (pendingOf .mode issuer seq origin 0) } } := by
  unfold State.takeMode
  split
  next same =>
    have recovery : s.tsq.recovery ≠ .recoveryWait := by simp [well]
    have idle : ∀ o, some (pendingOf .mode issuer seq origin 0) = some o → o.kind = .mode := by
      rintro o ⟨⟩
      rfl
    have mode : ((s.setTransport t).setPending (some (pendingOf .mode issuer seq origin 0))).drive m speed 0 = _ :=
      (State.drive_met (by exact same) (by exact met)).trans
        (State.onMatched_unhurried (by exact recovery) (by exact idle) (.inl (by exact other)))
    rw [mode]
    have stands : ({ s.tsq with state := t, reqSpeed := s.askedSpeed m speed, matched := true, wait := none, pendingOp := none } : Tsq) =
        { s.tsq with state := t, reqSpeed := s.askedSpeed m speed } := by rw [← met, ← free, ← clear]
    rw [← stands]
    rfl
  next new =>
    have unseen : Tally.mode s.pins.tally ≠ some m := by
      rw [shows]
      exact fun h => new (Option.some.inj h)
    rw [State.drive_asks (by exact new) (by exact unseen), State.asked, if_neg plain]
    rfl

end

end Sys2Proof.Machine

open Sys2Proof Sys2Proof.Machine

/-- Settles O32: the wait satisfied, each kind of operation, the chase and the held directive are judged by their own rule. -/
theorem tallySatisfiesTheWait : Obligations.TallySatisfiesTheWait := by
  unfold Obligations.TallySatisfiesTheWait
  intro tally s shown met answers
  refine ⟨fun waits other => congrArg Host.Outcome.next (State.changeTally_unjudged waits other),
    fun blind => congrArg Host.Outcome.next (State.changeTally_blind blind), fun c new fitted hc waits shows => ?_⟩
  have row : exec (.tallyChange tally) s = .next shown.onMatched.settle :=
    congrArg Host.Outcome.next (State.changeTally_meets new fitted hc waits shows)
  have answered {t : State} (eq : shown.onMatched.settle = t) : answers t := row.trans (congrArg Host.Outcome.next eq)
  refine ⟨fun recovers faulted clear empty => answered ?_, fun well empty free idle => answered ?_, fun o well pending => ⟨fun kind ejecting mode =>
    answered ?_, fun cue cueing => ⟨fun moves => answered ?_, fun x still own => ⟨fun far => answered ?_, fun near empty => answered ?_⟩⟩⟩,
    fun well clear empty chasing => ⟨fun other => answered ?_, fun x still follows approaching own => ⟨fun far => answered ?_,
      fun near => answered ?_⟩⟩, fun h held well idle tape notCueing notEjecting sound => ?_⟩
  · rw [State.onMatched_recovery (by exact recovers) (by exact clear), State.settle_none (by exact empty)]
  · rw [State.onMatched_unhurried (by exact fun h => nomatch well.symm.trans h) (by exact idle) (.inl (by exact free)),
      State.settle_none (by exact empty)]
  · rw [State.onMatched_eject (by exact fun h => nomatch well.symm.trans h) (by exact pending) kind (by exact mode)]
    refine State.settle_unsettled (Bool.eq_false_iff.mpr fun settled => ?_)
    rw [State.settled_iff, (State.answer_frame ..).tsq] at settled
    exact settled.2.1 ejecting
  · rw [State.onMatched_moving (by exact fun h => nomatch well.symm.trans h) (by exact pending) cue (by exact moves)]
    exact State.settle_unsettled (Bool.eq_false_iff.mpr fun settled => ((State.settled_iff _).mp settled).1 cueing)
  · rw [State.onMatched_resting (by exact fun h => nomatch well.symm.trans h) (by exact pending) cue (by exact cueing) (by exact still)
      (by exact hc) (by exact own) far]
    exact State.settle_unsettled (Bool.eq_false_iff.mpr fun settled => ((State.settled_iff _).mp settled).1 cueing)
  · have type : o.kind.typeByte = if o.kind = OpKind.cueTo then 0x06 else 0x07 := by
      obtain is | is := cue <;> rw [is] <;> rfl
    rw [State.onMatched_arrived (by exact fun h => nomatch well.symm.trans h) (by exact pending) cue (by exact cueing) (by exact still)
      (by exact hc) (by exact own) near, type, State.settle_none (by rw [(State.answer_frame ..).tsq]; exact empty)]
    rfl
  · have idle : ∀ o, s.tsq.pendingOp = some o → o.kind = .mode := by simp [clear]
    have free : s.tsq.state ≠ .chasing ∨ s.tsq.reqMode ≠ .still ∨ s.csv.state ≠ .followStill ∨ s.csv.followStep ≠ .approaching :=
      .inr (other.imp_right (Or.imp_right fun parked => by simp [parked]))
    rw [State.onMatched_unhurried (by exact fun h => nomatch well.symm.trans h) (by exact idle) (by exact free),
      State.settle_none (by exact empty)]
    simp [met, shown, clear]
  · rw [State.onMatched_follows (by exact fun h => nomatch well.symm.trans h) (by exact clear), State.matchFollow_eq (c := c) (x := x)
      (by exact chasing) (by exact still) (by exact follows) (by exact approaching) (by exact hc) (by exact own),
      if_neg (by exact Nat.not_le.mpr far)]
    exact State.settle_none empty
  · rw [State.onMatched_follows (by exact fun h => nomatch well.symm.trans h) (by exact clear), State.matchFollow_eq (c := c) (x := x)
      (by exact chasing) (by exact still) (by exact follows) (by exact approaching) (by exact hc) (by exact own),
      if_pos (by exact near)]
    exact State.settle_none empty
  · intro freed record asked limit
    have released (free : s.tsq.state ≠ .chasing ∨ s.tsq.reqMode ≠ .still ∨ s.csv.state ≠ .followStill ∨ s.csv.followStep ≠ .approaching) :
        shown.onMatched = { shown with tsq := { met with pendingOp := none } } :=
      State.onMatched_unhurried (by exact fun h => nomatch well.symm.trans h) idle free
    have settled : ({ shown with tsq := { met with pendingOp := none } } : State).settled = true :=
      (State.settled_iff _).mpr ⟨notCueing, notEjecting, rfl, well⟩
    have refused {code : Code} (free : s.tsq.state ≠ .chasing ∨ s.tsq.reqMode ≠ .still ∨ s.csv.state ≠ .followStill ∨
        s.csv.followStep ≠ .approaching) (verdict : freed.motionVerdict h.motion = .refuse code) :
        answers (freed.answer h.issuer h.seq h.motion.typeByte code []) :=
      answered ((congrArg State.settle (released free)).trans (State.settle_refused (by exact held) settled (by exact verdict)))
    refine ⟨fun active free => refused (free.imp_right .inl) (State.motionVerdict_chased tape active),
      fun off recording => refused (.inr (.inr (.inl (by simp [off])))) (State.motionVerdict_notReady off (.inl recording)),
      fun off alone free => ?_⟩
    have takes : freed.takesMotions := ⟨tape, off, alone, fun h => absurd h sound⟩
    have taken (known : h.motion.isSeek = true → s.psu.source ≠ .noSource) :
        shown.onMatched.settle = (freed.takeMotion h.motion h.issuer h.seq).1.reply h.issuer h.seq h.motion.typeByte
          (freed.takeMotion h.motion h.issuer h.seq).2 :=
      (congrArg State.settle (released (.inl free))).trans (State.settle_takes (by exact held) settled takes known)
    have mode (t : TransportState) (m : ReqMode) {speed : Int} (plain : m ≠ .record) (other : t ≠ .chasing) :
        freed.takeMode t m speed h.issuer h.seq (.directive 0x05) = asked t m (freed.askedSpeed m speed) .mode 0 :=
      State.takeMode_matched (by exact shows) rfl rfl rfl (by exact well) plain other
    refine ⟨fun is => answered ?_, fun is => answered ?_, fun v is => answered ?_, fun is new => answered ?_, fun kind target given =>
      ⟨fun source => refused (.inl free) ?_, fun x own new least => ?_⟩⟩
    · rw [taken (by simp [is, Motion.isSeek]), is, State.takeMotion, mode .still .still nofun nofun]
      rfl
    · rw [taken (by simp [is, Motion.isSeek]), is, State.takeMotion, mode .playing .play nofun nofun]
      rfl
    · rw [taken (by simp [is, Motion.isSeek]), is, State.takeMotion, mode .shuttling .var nofun nofun]
      have limited : freed.askedSpeed .var v = clampInt (-limit) limit v := by
        simp [State.askedSpeed, State.clampSpeed, State.shuttleLimit, freed, shown, hc, limit]
      rw [limited]
      rfl
    · rw [taken (by simp [is, Motion.isSeek]), is, State.takeMotion]
      dsimp only
      rw [State.drive_asks (by exact new) (by exact fun h => new (Option.some.inj (shows.symm.trans h)))]
      simp only [asked, if_neg new]
      rfl
    · refine State.motionVerdict_lost takes ?_ source
      obtain ⟨-, is⟩ | ⟨n, x, -, is, -⟩ := given <;> rw [is] <;> rfl
    · intro e far
      refine answered ?_
      have known : s.psu.source ≠ .noSource := fun none => by simp [State.own_of_noSource none] at own
      have sought : shown.onMatched.settle = (freed.sought kind target h.issuer h.seq).approach e := by
        rw [taken fun _ => known]
        obtain ⟨rfl, is⟩ | ⟨n, x', rfl, is, own', rfl⟩ := given
        · rw [is, State.takeMotion, State.takeSeek_eq (c := c) (x := x) (by exact hc) (by exact own)]
          rfl
        · cases own.symm.trans own'
          have day : freed.dayFrames = c.standard.framesPerDay := by
            simp [State.dayFrames, State.standard_of_config (s := freed) hc]
          have frame : freed.ownFrame = some (x / 256) := by
            rw [State.ownFrame, show freed.own = some x from own]
            rfl
          rw [is, State.takeMotion, day, frame, State.takeSeek_eq (c := c) (x := x) (by exact hc) (by exact own)]
          rfl
      rw [sought, State.approach_far (c := c) (by exact hc) (by exact fun _ => rfl) far, State.drive_asks (by exact new)
        (by exact fun h => new (Option.some.inj (shows.symm.trans h))), State.asked,
        State.askedSpeed_approach (c := c) (by exact hc) least]
      simp only [asked, if_neg new]
      rfl

end

section
/-! SUPPORT. Requests of the chase and the roll, and their counts that end (R111, R115, R116, R118, R136, R150, R159). -/

namespace Sys2Proof.Machine

section
variable {s : State} {m : ReqMode} {speed : Int} {track : BitVec 5} {r : ChaseRecord} {g : Segment}

/-! ### A request outside FOLLOW_STILL -/

/-- Of the deck a matched request ends the operation that waited and may bring the tape to rest; the request stands. -/
theorem State.matchPending_shape (s : State) :
    s.matchPending.csv = s.csv ∧ ∃ state op, s.matchPending.tsq = { s.tsq with state := state, pendingOp := op } := by
  have same : s.csv = s.csv ∧ ∃ state op, s.tsq = { s.tsq with state := state, pendingOp := op } :=
    ⟨rfl, s.tsq.state, s.tsq.pendingOp, rfl⟩
  have ended (o : PendingOp) (t : TransportState) (r : List Byte) :
      (({ s with tsq := { s.tsq with state := t, pendingOp := none } } : State).answer o.issuer o.seq o.kind.typeByte .done r).csv = s.csv ∧
        ∃ state op, (({ s with tsq := { s.tsq with state := t, pendingOp := none } } : State).answer o.issuer o.seq o.kind.typeByte
          .done r).tsq = { s.tsq with state := state, pendingOp := op } :=
    ⟨(State.answer_frame ..).csv, t, none, (State.answer_frame ..).tsq⟩
  unfold State.matchPending
  split
  · exact same
  · rename_i o _
    split
    · exact ⟨rfl, s.tsq.state, none, rfl⟩
    · split
      · exact ended o s.tsq.state []
      · exact same
    all_goals
      split
      · unfold State.judgeRest
        split
        · split
          · exact ended o .still _
          · exact same
        · exact same
      · exact same

theorem State.matchRecovery_rest (s : State) : s.matchRecovery.csv = s.csv ∧ s.matchRecovery.tsq.reqSpeed = s.tsq.reqSpeed ∧
    s.matchRecovery.tsq.reqMode = s.tsq.reqMode := by
  unfold State.matchRecovery
  split <;> exact ⟨rfl, rfl, rfl⟩

theorem State.matchFollow_tsq (s : State) : s.matchFollow.tsq = s.tsq := by
  unfold State.matchFollow
  repeat' split
  all_goals rfl

theorem State.onMatched_speed (s : State) : s.onMatched.tsq.reqSpeed = s.tsq.reqSpeed := by
  unfold State.onMatched
  obtain ⟨state, op, tsq⟩ := (State.matchPending_shape _).2
  rw [State.matchFollow_tsq, tsq]
  exact (State.matchRecovery_rest _).2.1

theorem State.onMatched_csv (other : s.csv.state ≠ .followStill ∨ s.tsq.reqMode ≠ .still) : s.onMatched.csv = s.csv := by
  unfold State.onMatched
  have csv : ({ s with tsq := { s.tsq with matched := true, wait := none } } : State).matchRecovery.matchPending.csv = s.csv := by
    rw [(State.matchPending_shape _).1, (State.matchRecovery_rest _).1]
  have mode : ({ s with tsq := { s.tsq with matched := true, wait := none } } : State).matchRecovery.matchPending.tsq.reqMode =
      s.tsq.reqMode := by
    obtain ⟨state, op, tsq⟩ := (State.matchPending_shape _).2
    rw [tsq]
    exact (State.matchRecovery_rest _).2.2
  rw [State.matchFollow_other (.inr (by rw [csv, mode]; exact other.symm.imp_right .inl)), csv]

/-- A request changes the chase nowhere but in FOLLOW_STILL, and there for STILL alone (R117). -/
theorem State.drive_csv (other : s.csv.state ≠ .followStill ∨ m ≠ .still) : (s.drive m speed track).csv = s.csv := by
  by_cases same : s.tsq.reqMode = m
  · by_cases met : s.tsq.matched = true
    · rw [State.drive_met same met]
      exact State.onMatched_csv (by rw [← same] at other; exact other)
    · rw [State.drive_again same (Bool.eq_false_iff.mpr met)]
  · by_cases seen : Tally.mode s.pins.tally = some m
    · rw [State.drive_shown same seen]
      exact State.onMatched_csv (by exact other)
    · rw [State.drive_asks same seen]
      rfl

theorem State.drive_speed (s : State) : (s.drive m speed track).tsq.reqSpeed = s.askedSpeed m speed := by
  by_cases same : s.tsq.reqMode = m
  · by_cases met : s.tsq.matched = true
    · rw [State.drive_met same met, State.onMatched_speed]
    · rw [State.drive_again same (Bool.eq_false_iff.mpr met)]
  · by_cases seen : Tally.mode s.pins.tally = some m
    · rw [State.drive_shown same seen, State.onMatched_speed]
      rfl
    · rw [State.drive_asks same seen]
      rfl

theorem State.drive_mode (s : State) : (s.drive m speed track).tsq.reqMode = m := (State.drive_brief m speed track s).mode

theorem State.drive_slot (empty : s.tsq.slot = none) : (s.drive m speed track).tsq.slot = none :=
  State.slot_none_iff.mp ((State.drive_brief m speed track s).slot.trans (State.slot_none_iff.mpr empty))

/-- A standing request put to the transport at once, with no segment RECORDING (R100). -/
def State.standingAs (q : ChaseReq) (s : State) : State := { s with tsq := { s.tsq with standing := q } }

theorem State.chaseRequest_still (idle : s.rcc.state ≠ .recording) : s.chaseRequest .still = (s.standingAs .still).drive .still 0 0 := by
  unfold State.chaseRequest
  split
  · rename_i recording _
    exact absurd recording idle
  · rename_i recording _
    exact absurd recording idle
  · rfl

theorem State.chaseRequest_var (idle : s.rcc.state ≠ .recording) : s.chaseRequest (.var speed) = (s.standingAs (.var speed)).drive .var speed 0 := by
  unfold State.chaseRequest
  split
  · rename_i recording _
    exact absurd recording idle
  · rename_i recording _
    exact absurd recording idle
  · rfl

/-- What a chase's request for STILL leaves, with no segment RECORDING and nothing held (R100). -/
theorem State.chaseRequest_still_leaves (idle : s.rcc.state ≠ .recording) (other : s.csv.state ≠ .followStill)
    (empty : s.tsq.slot = none) :
    (s.chaseRequest .still).csv = s.csv ∧ (s.chaseRequest .still).rcc = s.rcc ∧ (s.chaseRequest .still).tsq.slot = none ∧
      (s.chaseRequest .still).tsq.reqMode = .still := by
  rw [State.chaseRequest_still idle]
  exact ⟨State.drive_csv (.inl (by exact other)), (State.drive_deck ..).rcc, State.drive_slot (by exact empty), State.drive_mode _⟩

/-- The same for VAR. -/
theorem State.chaseRequest_var_leaves (idle : s.rcc.state ≠ .recording) (empty : s.tsq.slot = none) :
    (s.chaseRequest (.var speed)).csv = s.csv ∧ (s.chaseRequest (.var speed)).rcc = s.rcc ∧
      (s.chaseRequest (.var speed)).tsq.slot = none ∧ (s.chaseRequest (.var speed)).tsq.reqMode = .var ∧
      (s.chaseRequest (.var speed)).tsq.reqSpeed = s.clampSpeed speed := by
  rw [State.chaseRequest_var idle]
  exact ⟨State.drive_csv (.inr nofun), (State.drive_deck ..).rcc, State.drive_slot (by exact empty), State.drive_mode _,
    State.drive_speed _⟩

end

end Sys2Proof.Machine

open Sys2Proof Sys2Proof.Machine

/-- Settles O38: the counts that declare and lose lock; the segment then ends by emergency out. -/
theorem lockIsDeclaredAndLost : Obligations.LockIsDeclaredAndLost := by
  unfold Obligations.LockIsDeclaredAndLost
  intro s
  refine ⟨fun pulling eighth => if_pos ⟨pulling, eighth⟩, fun r locked held last => ?_⟩
  have row : exec .lockLost s = .next s.loseLock.settle := by
    show execLockLost s = _
    unfold execLockLost
    rw [held]
    exact if_pos ⟨locked, last⟩
  let u : State := ({ s with csv := { s.csv with state := .pulling, blankRun := 0, lockRun := 0, pullTimer := 0 } } : State).latch .lockLost
  have eq : s.loseLock = u.emergencyOut .lockLost true := rfl
  refine ⟨fun idle empty => ?_, fun recording has => ?_⟩
  · have quiet : u.emergencyOut .lockLost true = u := by
      unfold State.emergencyOut
      split
      · rename_i recording _
        exact absurd recording idle
      · rfl
    rw [row, eq, quiet, State.settle_none (by exact empty)]
  · obtain ⟨g, hg⟩ := Option.isSome_iff_exists.mp has
    obtain ⟨sense, aborted⟩ := State.emergencyOut_records (s := u) recording hg .lockLost true
    have lost : u.holdsEvent .lockLost = true := State.holdsEvent_latch ..
    have later : u.Bystanders (u.emergencyOut .lockLost true).settle := (State.emergencyOut_by ..).trans (State.settle_by _)
    have first : s.Bystanders u := (State.csv_by _ s).trans (State.latch_by ..)
    have work : u.Work (u.emergencyOut .lockLost true).settle := (State.emergencyOut_work ..).trans (State.settle_work _)
    have paced := State.settle_paced (u.emergencyOut .lockLost true)
    have chase := State.emergencyOut_chase .lockLost true u
    refine ⟨_, row, ?_, later.events _ lost, (State.settle_by _).events _ aborted, ?_, ?_, fun g' hg' quiet => ?_, work.zones, work.psu,
      work.ten, work.cul, work.pins, first.trans later⟩
    · rw [eq, paced.csv, chase]
      rfl
    · rw [eq, (State.settle_deck _).rcc]
      exact State.emergencyOut_ends _ _ _ (fun _ => has)
    · rw [eq, paced.sense, sense]
      rfl
    · cases hg.symm.trans hg'
      have noticed := State.emergencyOut_noticed (s := u) (reason := .lockLost) recording hg true fun _ => quiet.2
      exact .later (.of_room ⟨rfl, rfl, rfl, rfl, le_rfl, fun quiet => ⟨quiet, rfl⟩⟩ noticed) (State.settle_by _)

end

section
/-! SUPPORT. The pull time and the reroll's end as commands of their own (R111, R118). -/

namespace Sys2Proof.Machine

section
variable {s : State} {r : ChaseRecord} {c : Settings} {x own : Nat}

theorem State.chaseAim_eq (hc : s.dhd.config = some c) (fresh : (s.view r.master).presence = .fresh)
    (sound : (s.view r.master).refLost = false) (projection : (s.view r.master).projection = some x) (hown : s.own = some own) :
    s.chaseAim r = some (c.standard, wrapDay c.standard.day ((x : Int) + r.offset),
      diff c.standard.day (wrapDay c.standard.day ((x : Int) + r.offset)) own) := by
  simp [State.chaseAim, State.standard_of_config hc, projection, hown, PeerView.usable, fresh, sound, chaseTarget]

theorem State.stopPulling_rerolls (left : s.csv.rerolls < r.retries) :
    s.stopPulling r = ({ s with csv := { s.csv with
      state := .reroll, pullTimer := 0, lockRun := 0, rerolls := s.csv.rerolls + 1, offTime := 0 } } : State).chaseRequest .still :=
  if_pos left

theorem State.stopPulling_fails (gone : r.retries ≤ s.csv.rerolls) :
    s.stopPulling r = ((({ s with csv := { s.csv with state := .failed, pullTimer := 0, lockRun := 0 } } : State).chaseRequest .still).latch
      .chaseFailed).writeSense
        { code := .chaseFailed, origin := s.csv.engagedBy, address := s.ownFrame, nextFrame := none, remaining := none } :=
  if_neg (Nat.not_lt.mpr gone)

end

end Sys2Proof.Machine

open Sys2Proof Sys2Proof.Machine

/-- Settles O39: each end takes its state and makes the chase's one request of it. -/
theorem pullTimeAndRerollEnd : Obligations.PullTimeAndRerollEnd := by
  unfold Obligations.PullTimeAndRerollEnd
  intro s r held empty idle
  refine ⟨fun pulling late => ?_, fun c x own reroll last hc fresh sound projection hown => ?_⟩
  · have row : exec .pullTimeExceeded s = .next (s.stopPulling r).settle := by
      show execPullTimeExceeded s = _
      unfold execPullTimeExceeded
      rw [held]
      exact if_pos ⟨pulling, late⟩
    refine ⟨fun left => ?_, fun gone => ?_⟩
    · have eq := State.stopPulling_rerolls left
      have work := State.chaseRequest_work .still ({ s with csv := { s.csv with
        state := .reroll, pullTimer := 0, lockRun := 0, rerolls := s.csv.rerolls + 1, offTime := 0 } } : State)
      obtain ⟨csv, rcc, slot, mode⟩ := State.chaseRequest_still_leaves (s := ({ s with csv := { s.csv with
        state := .reroll, pullTimer := 0, lockRun := 0, rerolls := s.csv.rerolls + 1, offTime := 0 } } : State)) idle nofun empty
      rw [row, State.settle_none (by rw [eq]; exact slot), eq]
      exact ⟨_, rfl, csv, mode, rcc, work.psu, work.ten, work.cul, work.pins, (State.csv_by _ s).trans work.by⟩
    · have eq := State.stopPulling_fails gone
      have work := State.chaseRequest_work .still ({ s with csv := { s.csv with state := .failed, pullTimer := 0, lockRun := 0 } } : State)
      obtain ⟨csv, rcc, slot, mode⟩ := State.chaseRequest_still_leaves
        (s := ({ s with csv := { s.csv with state := .failed, pullTimer := 0, lockRun := 0 } } : State)) idle nofun empty
      rw [row, State.settle_none (by rw [eq]; exact slot), eq]
      exact ⟨_, rfl, csv, mode, State.holdsEvent_latch .., rfl, rcc, work.psu, work.ten, work.cul, work.pins,
        (((State.csv_by _ s).trans work.by).trans (State.latch_by ..)).trans (State.writeSense_by ..)⟩
  · intro target e
    have aim := State.chaseAim_eq hc fresh sound projection hown
    have work := State.chaseRequest_work (.var (seekSpeed s.shuttleLimit (s.view r.master).speed e))
      ({ s with csv := { s.csv with offTime := 0, state := .seeking, target := target } } : State)
    obtain ⟨csv, rcc, slot, mode, speed⟩ := State.chaseRequest_var_leaves (speed := seekSpeed s.shuttleLimit (s.view r.master).speed e)
      (s := ({ s with csv := { s.csv with offTime := 0, state := .seeking, target := target } } : State)) idle empty
    have row : exec .rerollOffTimeEnds s = .next (({ s with csv := { s.csv with
        offTime := 0, state := .seeking, target := target } } : State).chaseRequest
          (.var (seekSpeed s.shuttleLimit (s.view r.master).speed e))).settle := by
      show execRerollOffTimeEnds s = _
      unfold execRerollOffTimeEnds
      rw [held]
      dsimp only
      rw [aim]
      exact if_pos ⟨reroll, last⟩
    have limit : s.shuttleLimit = c.shuttleLimit := by simp [State.shuttleLimit, hc]
    rw [row, State.settle_none slot]
    refine ⟨_, rfl, csv, mode, ?_, rcc, work.psu, work.ten, work.cul, work.pins, (State.csv_by _ s).trans work.by⟩
    rw [← limit]
    exact speed

end

section
/-! SUPPORT. The chase engaged: its beginning, its first choice and what its laws leave (R100, R104, R112, R117). -/

namespace Sys2Proof.Machine

section
variable {s : State} {r : ChaseRecord} {m e : Int} {std : Standard}

/-! ### The laws -/

theorem State.chaseRequest_paced (q : ChaseReq) (s : State) : s.Paced (s.chaseRequest q) := by
  unfold State.chaseRequest
  split
  · exact (s.tsq_paced _).trans (State.tsq_paced _ _)
  · exact s.tsq_paced _
  · exact (s.tsq_paced _).trans (State.driveStanding_paced _)

theorem State.followApproach_paced (e : Int) (s : State) : s.Paced (s.followApproach e) := by
  unfold State.followApproach
  split
  · exact .refl s
  · split <;> exact State.chaseRequest_paced ..

theorem State.setFollow_paced (f : FollowStep) (s : State) : s.Paced (s.setFollow f) := ⟨rfl, rfl, rfl⟩

theorem State.followLaw_paced (e : Int) (s : State) : s.Paced (s.followLaw e) := by
  unfold State.followLaw
  split
  · exact State.followApproach_paced ..
  · split
    · exact (State.setFollow_paced ..).trans (State.followApproach_paced ..)
    · exact .refl s

theorem State.chaseLaw_paced (r : ChaseRecord) (m e : Int) (s : State) : s.Paced (s.chaseLaw r m e) := by
  unfold State.chaseLaw
  split
  · exact State.chaseRequest_paced ..
  · exact State.chaseRequest_paced ..
  · exact State.chaseRequest_paced ..
  · exact State.followLaw_paced ..
  all_goals exact .refl s

theorem State.followApproach_deck (e : Int) (s : State) : s.DeckFrame (s.followApproach e) := by
  unfold State.followApproach
  split
  · exact .refl s
  · split <;> exact State.chaseRequest_deck ..

theorem State.followLaw_deck (e : Int) (s : State) : s.DeckFrame (s.followLaw e) := by
  unfold State.followLaw
  split
  · exact State.followApproach_deck ..
  · split
    · exact (State.csv_deck _ s).trans (State.followApproach_deck ..)
    · exact .refl s

theorem State.chaseLaw_deck (r : ChaseRecord) (m e : Int) (s : State) : s.DeckFrame (s.chaseLaw r m e) := by
  unfold State.chaseLaw
  split
  · exact State.chaseRequest_deck ..
  · exact State.chaseRequest_deck ..
  · exact State.chaseRequest_deck ..
  · exact State.followLaw_deck ..
  all_goals exact .refl s

/-! ### The deck through a chase's request -/

/-- The transport chases, or does what else it does, with nothing waiting for a request that could end it. -/
structure State.Unbound (s : State) : Prop where
  pending : s.tsq.pendingOp = none
  recovery : s.tsq.recovery ≠ .recoveryWait

/-- The transport state, the operation, the recovery and the slot stand. -/
structure State.KeepsDeck (s t : State) : Prop where
  state : t.tsq.state = s.tsq.state
  pending : t.tsq.pendingOp = s.tsq.pendingOp
  recovery : t.tsq.recovery = s.tsq.recovery
  slot : t.tsq.slot = s.tsq.slot

theorem State.KeepsDeck.refl (s : State) : s.KeepsDeck s := ⟨rfl, rfl, rfl, rfl⟩

theorem State.KeepsDeck.trans {s t u : State} (h : s.KeepsDeck t) (k : t.KeepsDeck u) : s.KeepsDeck u :=
  ⟨k.state.trans h.state, k.pending.trans h.pending, k.recovery.trans h.recovery, k.slot.trans h.slot⟩

theorem State.onMatched_keepsDeck (free : s.Unbound) : s.KeepsDeck s.onMatched := by
  rw [State.onMatched_follows free.recovery free.pending]
  have tsq := s.met.matchFollow_tsq
  exact ⟨by rw [tsq]; rfl, by rw [tsq]; rfl, by rw [tsq]; rfl, by rw [tsq]; rfl⟩

theorem State.drive_keepsDeck {q : ReqMode} {speed : Int} {track : BitVec 5} (free : s.Unbound) : s.KeepsDeck (s.drive q speed track) := by
  by_cases same : s.tsq.reqMode = q
  · by_cases met : s.tsq.matched = true
    · rw [State.drive_met same met]
      obtain ⟨h1, h2, h3, h4⟩ := State.onMatched_keepsDeck (s := { s with tsq := { s.tsq with reqSpeed := s.askedSpeed q speed } })
        ⟨free.pending, free.recovery⟩
      exact ⟨h1, h2, h3, h4⟩
    · rw [State.drive_again same (Bool.eq_false_iff.mpr met)]
      exact ⟨rfl, rfl, rfl, rfl⟩
  · by_cases seen : Tally.mode s.pins.tally = some q
    · rw [State.drive_shown same seen]
      obtain ⟨h1, h2, h3, h4⟩ := State.onMatched_keepsDeck (s := s.asked q speed track) ⟨free.pending, free.recovery⟩
      exact ⟨h1, h2, h3, h4⟩
    · rw [State.drive_asks same seen]
      exact ⟨rfl, rfl, rfl, rfl⟩

theorem State.driveStanding_keepsDeck (free : s.Unbound) : s.KeepsDeck s.driveStanding := by
  unfold State.driveStanding
  split <;> exact State.drive_keepsDeck free

theorem State.chaseRequest_keepsDeck (q : ChaseReq) (free : s.Unbound) : s.KeepsDeck (s.chaseRequest q) := by
  have standing : s.KeepsDeck { s with tsq := { s.tsq with standing := q } } := ⟨rfl, rfl, rfl, rfl⟩
  unfold State.chaseRequest
  split
  · exact ⟨rfl, rfl, rfl, rfl⟩
  · exact ⟨rfl, rfl, rfl, rfl⟩
  · exact standing.trans (State.driveStanding_keepsDeck ⟨free.pending, free.recovery⟩)

theorem State.followApproach_keepsDeck (e : Int) (free : s.Unbound) : s.KeepsDeck (s.followApproach e) := by
  unfold State.followApproach
  split
  · exact .refl s
  · split <;> exact State.chaseRequest_keepsDeck _ free

theorem State.chaseLaw_keepsDeck (r : ChaseRecord) (m e : Int) (free : s.Unbound) : s.KeepsDeck (s.chaseLaw r m e) := by
  unfold State.chaseLaw
  split
  · exact State.chaseRequest_keepsDeck _ free
  · exact State.chaseRequest_keepsDeck _ free
  · exact State.chaseRequest_keepsDeck _ free
  · unfold State.followLaw
    split
    · exact State.followApproach_keepsDeck _ free
    · split
      · have set : s.KeepsDeck (s.setFollow .approaching) := ⟨rfl, rfl, rfl, rfl⟩
        exact set.trans (State.followApproach_keepsDeck _ ⟨free.pending, free.recovery⟩)
      · exact .refl s
  all_goals exact .refl s

/-- A directive held against an active chase is released refused: the deck stands. -/
theorem State.settle_chased (tape : s.tsq.state ≠ .unthreaded) (active : s.csv.state ≠ .off) :
    s.settle.tsq.state = s.tsq.state ∧ s.settle.tsq.pendingOp = s.tsq.pendingOp := by
  obtain empty | ⟨h, held⟩ := Option.eq_none_or_eq_some s.tsq.slot
  · rw [State.settle_none empty]
    exact ⟨rfl, rfl⟩
  · cases settled : s.settled with
    | false =>
      rw [State.settle_unsettled settled]
      exact ⟨rfl, rfl⟩
    | true =>
      rw [State.settle_refused held settled (State.motionVerdict_chased (by exact tape) (by exact active)), (State.answer_frame ..).tsq]
      exact ⟨rfl, rfl⟩

/-! ### The first choice (R104, R112) -/

/-- The state a chase begun chooses, by its master's motion and the error. -/
def firstChoice (std : Standard) (m e : Int) : ChaseState :=
  if masterMoving m then if std.seekThreshold < e.natAbs then .seeking else .pulling else .followStill

/-- The chase begun, with its first state and its target. -/
def State.chaseChosen (r : ChaseRecord) (o : Origin) (n : ChaseState) (x : Nat) (s : State) : State :=
  { s.chaseBegun r o with csv := { (s.chaseBegun r o).csv with state := n, target := x } }

theorem firstChoice_active (std : Standard) (m e : Int) : firstChoice std m e ≠ .off := by
  unfold firstChoice
  repeat' split
  all_goals nofun

theorem State.startChase_waits {o : Origin} (unusable : (s.chaseBegun r o).chaseAim r = none) :
    s.startChase r o = ((s.chaseBegun r o).chaseRequest .still).settle := by
  rw [State.startChase_eq, unusable]

theorem State.startChase_chooses {o : Origin} {x : Nat} (aim : (s.chaseBegun r o).chaseAim r = some (std, x, e)) :
    s.startChase r o =
      ((s.chaseChosen r o (firstChoice std (s.view r.master).speed e) x).chaseLaw r (s.view r.master).speed e).settle := by
  rw [State.startChase_eq, aim]
  generalize hm : (s.view r.master).speed = m
  have entered : ((s.chaseBegun r o).setTarget x).chaseServo std r m e =
      (s.chaseChosen r o (firstChoice std m e) x).chaseLaw r m e := by
    unfold State.chaseServo State.leaveLock
    rw [show ((s.chaseBegun r o).setTarget x).csv.state = .waiting from rfl]
    have choice : chooseState .waiting (masterMoving m) e.natAbs std.seekThreshold = firstChoice std m e := rfl
    rw [choice]
    dsimp only
    rw [if_neg (c := ChaseState.waiting = .locked) nofun, ite_self]
    unfold firstChoice
    split
    · split <;> rfl
    · rfl
  exact congrArg State.settle entered

/-- What an engagement leaves of the chase and the deck (R100, R104). -/
theorem State.startChase_engages {o : Origin} (free : (s.chaseBegun r o).Unbound) (tape : (s.chaseBegun r o).tsq.state ≠ .unthreaded) :
    (s.startChase r o).csv.state ≠ .off ∧ (s.startChase r o).csv.engagedBy = o ∧ (s.startChase r o).csv.record = some r ∧
      (s.startChase r o).tsq.state = (s.chaseBegun r o).tsq.state ∧ (s.startChase r o).tsq.pendingOp = none ∧
      (s.startChase r o).dhd.sense = (s.chaseBegun r o).dhd.sense ∧ (s.startChase r o).rcc = (s.chaseBegun r o).rcc := by
  have finish (u v : State) (active : u.csv.state ≠ .off) (by_ : u.csv.engagedBy = o) (record : u.csv.record = some r)
      (paced : u.Paced v) (deck : u.DeckFrame v) (keeps : u.KeepsDeck v) (tsq : u.tsq = (s.chaseBegun r o).tsq)
      (sense : u.dhd.sense = (s.chaseBegun r o).dhd.sense) (rcc : u.rcc = (s.chaseBegun r o).rcc) (eq : s.startChase r o = v.settle) :
      (s.startChase r o).csv.state ≠ .off ∧ (s.startChase r o).csv.engagedBy = o ∧ (s.startChase r o).csv.record = some r ∧
      (s.startChase r o).tsq.state = (s.chaseBegun r o).tsq.state ∧ (s.startChase r o).tsq.pendingOp = none ∧
      (s.startChase r o).dhd.sense = (s.chaseBegun r o).dhd.sense ∧ (s.startChase r o).rcc = (s.chaseBegun r o).rcc := by
    have whole := paced.trans v.settle_paced
    obtain ⟨state, pending⟩ := State.settle_chased (s := v) (by rw [keeps.state, tsq]; exact tape) (by rw [paced.state]; exact active)
    rw [eq]
    refine ⟨by rw [whole.state]; exact active, ?_, ?_, ?_, ?_, whole.sense.trans sense, ?_⟩
    · rw [whole.csv]
      exact by_
    · rw [whole.csv]
      exact record
    · rw [state, keeps.state, tsq]
    · rw [pending, keeps.pending, tsq]
      exact free.pending
    · rw [v.settle_deck.rcc, deck.rcc, rcc]
  cases aim : (s.chaseBegun r o).chaseAim r with
  | none =>
    exact finish (s.chaseBegun r o) _ nofun rfl rfl (State.chaseRequest_paced ..) (State.chaseRequest_deck ..)
      (State.chaseRequest_keepsDeck _ free) rfl rfl rfl (State.startChase_waits aim)
  | some a =>
    obtain ⟨std, x, e⟩ := a
    exact finish (s.chaseChosen r o (firstChoice std (s.view r.master).speed e) x) _ (by exact firstChoice_active _ _ _) rfl rfl
      (State.chaseLaw_paced ..) (State.chaseLaw_deck ..) (State.chaseLaw_keepsDeck _ _ _ ⟨free.pending, free.recovery⟩) rfl rfl rfl
      (State.startChase_chooses aim)

end

end Sys2Proof.Machine
end

section
/-! SUPPORT. A roll carried out or refused, and an engagement from a deck with no chase (R100, R107, R136). -/

namespace Sys2Proof.Machine

section
variable {s : State} {r : ChaseRecord} {o : Origin} {roll : RollSlot} {code : Code}

/-! ### An engagement from OFF -/

theorem State.chaseBegun_off (off : s.csv.state = .off) :
    (s.chaseBegun r o).tsq = { s.tsq with state := .chasing, pendingOp := none } ∧ (s.chaseBegun r o).rcc = s.rcc ∧
      (s.chaseBegun r o).dhd.sense = s.dhd.sense := by
  have begun : s.chaseBegun r o = { s.engageTransport with csv := { s.engageTransport.csv with
      state := .waiting, record := some r, engagedBy := o, followStep := .approaching, pullTimer := 0, lockRun := 0,
      blankRun := 0, rerolls := 0, offTime := 0 } } := by
    unfold State.chaseBegun
    dsimp only
    rw [if_pos off]
  rw [begun]
  refine ⟨?_, s.engageTransport_deck.rcc, ?_⟩
  · show ({ (s.endPending .chaseActive .chaseActive).tsq with state := .chasing } : Tsq) = _
    rw [State.endPending_tsq]
  · exact (State.endPending_paced .chaseActive .chaseActive s).sense

/-- A chase engaged with the transport not recovering: what stands of the station, and what is the chase's own. -/
theorem State.startChase_off (off : s.csv.state = .off) (well : s.tsq.recovery = .idle) :
    (s.startChase r o).csv.state ≠ .off ∧ (s.startChase r o).csv.engagedBy = o ∧ (s.startChase r o).csv.record = some r ∧
      (s.startChase r o).tsq.state = .chasing ∧ (s.startChase r o).tsq.pendingOp = none ∧
      (s.startChase r o).dhd.sense = s.dhd.sense ∧ (s.startChase r o).rcc = s.rcc := by
  obtain ⟨tsq, rcc, sense⟩ := State.chaseBegun_off (r := r) (o := o) off
  have engages := State.startChase_engages (s := s) (r := r) (o := o) ⟨by rw [tsq], by rw [tsq, well]; nofun⟩ (by rw [tsq]; nofun)
  rw [tsq, rcc, sense] at engages
  exact engages

/-! ### The roll (R136) -/

theorem execRollStart_due (held : s.cul.roll = some roll) (due : roll.start = s.ftu.counter + 1) :
    exec .rollStart s = .next ((s.setRoll none).carryRoll roll) := by
  have carried : s.rollDue (s.ftu.counter + 1) = (s.setRoll none).carryRoll roll := by
    unfold State.rollDue
    rw [held]
    exact if_pos due
  exact congrArg Host.Outcome.next carried

theorem State.carryRoll_refused (plays : roll.engage = false) (refused : s.rollPlay roll.seq = (s, some code)) :
    s.carryRoll roll = s.writeSense
      { code := code, origin := .directive 0x0B, address := s.ownFrame, nextFrame := none, remaining := none } := by
  unfold State.carryRoll
  dsimp only
  rw [if_neg (by simp [plays]), refused]

theorem State.carryRoll_engageRefused (engages : roll.engage = true) (refused : s.engageStored (.directive 0x0B) = (s, some code)) :
    s.carryRoll roll = s.writeSense
      { code := code, origin := .directive 0x0B, address := s.ownFrame, nextFrame := none, remaining := none } := by
  unfold State.carryRoll
  dsimp only
  rw [if_pos engages, refused]

theorem State.carryRoll_engages (engages : roll.engage = true) (taken : s.engageStored (.directive 0x0B) = (s.startChase r (.directive 0x0B), none)) :
    s.carryRoll roll = (s.startChase r (.directive 0x0B)).settle := by
  unfold State.carryRoll
  dsimp only
  rw [if_pos engages, taken]

/-- A roll neither in STILL nor in STOPPED does not play. -/
theorem State.rollPlay_refused {seq : Byte} (still : s.tsq.state ≠ .still) (stopped : s.tsq.state ≠ .stopped) :
    s.rollPlay seq = (s, some (if s.tsq.state = .unthreaded then .noTape else .transportNotReady)) := by
  unfold State.rollPlay
  split
  · rename_i gone
    rw [if_pos gone]
  · rename_i h
    exact absurd h still
  · rename_i h
    exact absurd h stopped
  · rename_i tape _ _
    rw [if_neg tape]

theorem State.engageStored_eq (record : s.csv.record = some r) :
    s.engageStored o =
      if s.csv.state ≠ .off then (s, some .chaseActive)
      else if s.tsq.state = .unthreaded then (s, some .noTape)
      else if s.psu.source = .noSource then (s, some .positionUnknown)
      else if s.tsq.state = .recording then (s, some .recordingActive)
      else if s.tsq.state = .ejecting ∨ s.tsq.state = .faulted then (s, some .transportNotReady)
      else (s.startChase r o, none) := by
  unfold State.engageStored
  rw [record]

theorem State.engageStored_taken (record : s.csv.record = some r) (off : s.csv.state = .off) (tape : s.tsq.state ≠ .unthreaded)
    (source : s.psu.source ≠ .noSource) (alone : s.tsq.state ≠ .recording) (inside : s.tsq.state ≠ .ejecting)
    (sound : s.tsq.state ≠ .faulted) : s.engageStored o = (s.startChase r o, none) := by
  rw [State.engageStored_eq record, if_neg (not_not.mpr off), if_neg tape, if_neg source, if_neg alone,
    if_neg (not_or.mpr ⟨inside, sound⟩)]

end

end Sys2Proof.Machine

open Sys2Proof Sys2Proof.Machine

/-- Settles O40: the gap's end and the transition's are their own rules; a roll is carried out by its mode, or refused. -/
theorem gapRollAndTransitionEnd : Obligations.GapRollAndTransitionEnd := by
  unfold Obligations.GapRollAndTransitionEnd
  intro s
  refine ⟨fun gap last => if_pos ⟨gap, last⟩, fun r held due plays => ?_, fun r held due engages => ?_, fun none => ?_,
    fun p running preset blend picture sound => ?_⟩
  · rw [execRollStart_due held due]
    refine ⟨fun still new unseen => ?_, fun still stopped => ?_⟩
    · rw [State.carryRoll_play plays (by exact still) (by exact new) (by exact unseen)]
      rfl
    · intro failure
      rw [State.carryRoll_refused plays (State.rollPlay_refused (by exact still) (by exact stopped))]
      rfl
  · rw [execRollStart_due held due]
    intro refused
    have refuses {code : Code} (h : (s.setRoll none).engageStored (.directive 0x0B) = (s.setRoll none, some code)) : refused code := by
      refine congrArg Host.Outcome.next ?_
      rw [State.carryRoll_engageRefused engages h]
      rfl
    refine ⟨fun bare => refuses ?_, fun has => ?_⟩
    · unfold State.engageStored
      rw [show (s.setRoll none).csv.record = none from bare]
    obtain ⟨record, hr⟩ := Option.isSome_iff_exists.mp has
    have eq := State.engageStored_eq (s := s.setRoll none) (o := .directive 0x0B) hr
    refine ⟨fun active => refuses (eq.trans (if_pos active)), fun off => ?_⟩
    rw [if_neg (by exact not_not.mpr off)] at eq
    refine ⟨fun gone => refuses (eq.trans (if_pos gone)), fun tape => ?_⟩
    rw [if_neg (by exact tape)] at eq
    refine ⟨fun lost => refuses (eq.trans (if_pos lost)), fun source => ?_⟩
    rw [if_neg (by exact source)] at eq
    refine ⟨fun recording => refuses (eq.trans (if_pos recording)), fun busy => ?_, fun alone inside sound well => ?_⟩
    · have other : s.tsq.state ≠ .recording := by
        obtain h | h := busy <;> simp [h]
      rw [if_neg (by exact other)] at eq
      exact refuses (eq.trans (if_pos busy))
    · have taken := State.engageStored_taken (s := s.setRoll none) (o := .directive 0x0B) hr off tape source alone inside sound
      obtain ⟨active, by_, kept, state, -, sense, rcc⟩ := State.startChase_off (s := s.setRoll none) (r := record)
        (o := .directive 0x0B) off well
      have work := ((s.setRoll none).startChase_work (.directive 0x0B) hr).trans (State.settle_work _)
      have paced := State.settle_paced ((s.setRoll none).startChase record (.directive 0x0B))
      have chased := (State.settle_chased (s := (s.setRoll none).startChase record (.directive 0x0B)) (by rw [state]; nofun) active).1
      refine ⟨_, congrArg Host.Outcome.next (State.carryRoll_engages engages taken), work.cul, by rw [paced.state]; exact active, ?_, ?_,
        chased.trans state, paced.sense.trans sense, work.psu, work.ten, (State.settle_deck _).rcc.trans rcc,
        (State.cul_by _ s).trans work.by⟩
      · rw [paced.csv]
        exact by_
      · rw [paced.csv]
        exact kept.trans hr.symm
  · have stands : s.rollDue (s.ftu.counter + 1) = s := by
      unfold State.rollDue
      split
      · rename_i r held
        exact if_neg (none r held)
      · rfl
    exact congrArg Host.Outcome.next stands
  · show execTransitionCompletes s = _
    unfold execTransitionCompletes
    rw [running, preset]
    dsimp only
    have finished : p.finishedAt (s.ten.k + 1) = true := by
      simp only [Preset.finishedAt, Preset.fields, if_neg blend, Bool.and_eq_true, decide_eq_true_eq]
      exact ⟨picture, sound⟩
    rw [if_pos finished]
    rfl

end

section
/-! SUPPORT. A segment cut out by LOCK_LOST, and the first requests of a chase begun (R104, R112 to R114, R117, R147 to R150). -/

namespace Sys2Proof.Machine

/-! ### A segment cut out -/

/-- A segment ended by emergency out with LOCK_LOST: the gap, the sense record and the notice it leaves (R147 to R150). -/
def State.CutOut (c : Settings) (s t : State) (g : Segment) : Prop :=
  t.rcc.record = none ∧ t.rcc.state = (if c.turnaround = 0 then .idle else .gap) ∧
    t.rcc.gapCount = 2 * c.turnaround ∧ t.rcc.zones = s.rcc.zones ∧ t.holdsEvent .segmentAborted = true ∧
    t.dhd.sense = some
      { code := .lockLost, origin := .cue g.origin, address := some (s.recordedTo g).1,
        nextFrame := some (((s.recordedTo g).1 + 1) % c.standard.framesPerDay), remaining := (s.recordedTo g).2 } ∧
    s.SegmentNoticed t g .lockLost (s.recordedTo g)

section
variable {s t u : State} {c : Settings} {g : Segment} {r : ChaseRecord} {o : Origin} {m e : Int} {x own : Nat}

theorem State.senseRecord_recorded (hc : s.dhd.config = some c) (reason : Code) :
    (s.atOwnFrame g).senseRecord s.dayFrames reason =
      { code := reason, origin := .cue g.origin, address := some (s.recordedTo g).1,
        nextFrame := some (((s.recordedTo g).1 + 1) % c.standard.framesPerDay), remaining := (s.recordedTo g).2 } := by
  have recorded := s.atOwnFrame_recorded g
  have days : s.dayFrames = c.standard.framesPerDay := by simp [State.dayFrames, State.standard_of_config hc]
  have origin : (s.atOwnFrame g).origin = g.origin := by
    unfold State.atOwnFrame
    split <;> rfl
  rw [← recorded]
  simp only [Segment.senseRecord, days, origin, frameAdd_one]

theorem State.emergencyOut_cutOut (recording : s.rcc.state = .recording) (held : s.rcc.record = some g) (hc : s.dhd.config = some c) :
    s.CutOut c (s.emergencyOut .lockLost false) g := by
  obtain ⟨sense, aborted⟩ := State.emergencyOut_records recording held .lockLost false
  have fields : s.gapFields = 2 * c.turnaround := by simp [State.gapFields, hc]
  have noticed := State.emergencyOut_noticed (reason := .lockLost) recording held false nofun
  unfold State.CutOut
  rw [State.emergencyOut_rcc recording held, fields]
  refine ⟨rfl, ?_, rfl, rfl, aborted, sense.trans (congrArg some (State.senseRecord_recorded hc .lockLost)), noticed⟩
  by_cases gapless : c.turnaround = 0 <;> simp [gapless]

/-- What comes after the cut leaves it as it is. -/
theorem State.CutOut.later (cut : s.CutOut c t g) (rcc : u.rcc = t.rcc) (sense : u.dhd.sense = t.dhd.sense) (by_ : t.Bystanders u) :
    s.CutOut c u g := by
  obtain ⟨record, state, gap, zones, aborted, record', noticed⟩ := cut
  exact ⟨by rw [rcc]; exact record, by rw [rcc]; exact state, by rw [rcc]; exact gap, by rw [rcc]; exact zones, by_.events _ aborted,
    sense.trans record', noticed.later by_⟩

/-- A cut told from a state with the same segment and room. -/
theorem State.CutOut.of_room (room : s.Room t) (psu : t.psu = s.psu) (zones : t.rcc.zones = s.rcc.zones) (cut : t.CutOut c u g) :
    s.CutOut c u g := by
  obtain ⟨record, state, gap, kept, aborted, sense, noticed⟩ := cut
  have recorded : t.recordedTo g = s.recordedTo g := State.recordedTo_congr room.config psu g
  rw [recorded] at sense noticed
  exact ⟨record, state, gap, kept.trans zones, aborted, sense, .of_room room noticed⟩

/-! ### The chase begun -/

theorem State.chaseBegun_on (active : s.csv.state ≠ .off) :
    s.chaseBegun r o = { s.leaveLock with csv := { s.leaveLock.csv with
      state := .waiting, record := some r, engagedBy := o, followStep := .approaching, pullTimer := 0, lockRun := 0,
      blankRun := 0, rerolls := 0, offTime := 0 } } := by
  unfold State.chaseBegun
  dsimp only
  rw [if_neg active]

/-- What the beginning of a chase leaves beside deck, chase and segment. -/
theorem State.chaseBegun_rest (r : ChaseRecord) (o : Origin) (s : State) :
    (s.chaseBegun r o).psu = s.psu ∧ (s.chaseBegun r o).ten = s.ten ∧ (s.chaseBegun r o).cul = s.cul ∧
      (s.chaseBegun r o).pins = s.pins ∧ s.Bystanders (s.chaseBegun r o) := by
  have released := State.Work.ite (p := s.csv.state = .off) s.engageTransport_work s.leaveLock_work
  exact ⟨released.psu, released.ten, released.cul, released.pins, released.by.trans (State.csv_by _ _)⟩

theorem State.chaseAim_unusable (unusable : (s.view r.master).usable = false) : s.chaseAim r = none := by
  unfold State.chaseAim
  dsimp only
  split
  · rw [unusable]
    rfl
  · rfl

theorem State.chaseAim_usable (hc : s.dhd.config = some c) (usable : (s.view r.master).usable = true)
    (projection : (s.view r.master).projection = some x) (hown : s.own = some own) :
    s.chaseAim r = some (c.standard, wrapDay c.standard.day ((x : Int) + r.offset),
      diff c.standard.day (wrapDay c.standard.day ((x : Int) + r.offset)) own) := by
  simp [State.chaseAim, State.standard_of_config hc, projection, hown, usable, chaseTarget]

/-! ### Requests that send no message -/

theorem State.chaseRequest_mute (q : ChaseReq) (free : s.Unbound) : s.Mute (s.chaseRequest q) := by
  have standing : s.Mute { s with tsq := { s.tsq with standing := q } } := s.tsq_mute _
  have idle : ∀ o, s.tsq.pendingOp = some o → o.kind = .mode := by simp [free.pending]
  unfold State.chaseRequest
  split
  · exact s.tsq_mute _
  · exact s.tsq_mute _
  · exact standing.trans (State.driveStanding_mute idle)

theorem State.followApproach_mute (e : Int) (free : s.Unbound) : s.Mute (s.followApproach e) := by
  unfold State.followApproach
  split
  · exact .refl s
  · split <;> exact State.chaseRequest_mute _ free

theorem State.chaseLaw_mute (r : ChaseRecord) (m e : Int) (free : s.Unbound) : s.Mute (s.chaseLaw r m e) := by
  unfold State.chaseLaw
  split
  · exact State.chaseRequest_mute _ free
  · exact State.chaseRequest_mute _ free
  · exact State.chaseRequest_mute _ free
  · unfold State.followLaw
    split
    · exact State.followApproach_mute _ free
    · split
      · have set : s.Mute (s.setFollow .approaching) := ⟨rfl, rfl, rfl⟩
        exact set.trans (State.followApproach_mute _ ⟨free.pending, free.recovery⟩)
      · exact .refl s
  all_goals exact .refl s

/-! ### FOLLOW_STILL (R117) -/

/-- A chase in FOLLOW_STILL that approaches, on a deck that chases. -/
structure State.Follows (c : Settings) (own : Nat) (s : State) : Prop where
  config : s.dhd.config = some c
  own : s.own = some own
  idle : s.rcc.state ≠ .recording
  chasing : s.tsq.state = .chasing
  follows : s.csv.state = .followStill
  approaching : s.csv.followStep = .approaching
  free : s.Unbound

theorem State.followApproach_holds (still : s.tsq.reqMode = .still) (waits : s.tsq.matched = false) : s.followApproach e = s :=
  if_pos ⟨still, waits⟩

theorem State.followApproach_near (ready : s.tsq.reqMode = .still → s.tsq.matched = true) (near : e.natAbs ≤ 128) :
    s.followApproach e = s.chaseRequest .still := by
  unfold State.followApproach
  rw [if_neg fun h => by simp [ready h.1] at h, if_pos near]

theorem State.followApproach_far (hc : s.dhd.config = some c) (ready : s.tsq.reqMode = .still → s.tsq.matched = true)
    (far : 128 < e.natAbs) : s.followApproach e = s.chaseRequest (.var (approachSpeed c e)) := by
  have limit : s.shuttleLimit = c.shuttleLimit := by simp [State.shuttleLimit, hc]
  unfold State.followApproach
  rw [if_neg fun h => by simp [ready h.1] at h, if_neg (Nat.not_le.mpr far), limit]
  rfl

/-- A STILL matched within 256 parks the chase. -/
theorem State.Follows.matched (h : s.Follows c own) (near : (diff c.standard.day s.csv.target own).natAbs ≤ 256)
    (still : s.tsq.reqMode = .still) :
    s.onMatched.csv = { s.csv with followStep := .parked } ∧ s.onMatched.tsq.matched = true ∧ s.onMatched.tsq.reqMode = .still ∧
      s.onMatched.tsq.wait = none := by
  rw [State.onMatched_follows h.free.recovery h.free.pending,
    State.matchFollow_eq (s := s.met) h.chasing still h.follows h.approaching h.config h.own, if_pos (by exact near)]
  exact ⟨rfl, rfl, still, rfl⟩

/-- STILL asked for within 256 of the target: parked at once where it stands matched or is shown. -/
theorem State.Follows.parks (h : s.Follows c own) (near : (diff c.standard.day s.csv.target own).natAbs ≤ 256)
    (ready : s.tsq.reqMode = .still → s.tsq.matched = true) (shown : s.tsq.reqMode = .still ∨ s.pins.tally = .still) :
    (s.chaseRequest .still).csv = { s.csv with followStep := .parked } ∧ (s.chaseRequest .still).tsq.matched = true ∧
      (s.chaseRequest .still).tsq.reqMode = .still ∧ (s.chaseRequest .still).tsq.wait = none := by
  obtain ⟨config, hown, idle, chasing, follows, approaching, pending, recovery⟩ := h
  rw [State.chaseRequest_still idle]
  by_cases same : s.tsq.reqMode = .still
  · rw [State.drive_met (by exact same) (by exact ready same)]
    exact State.Follows.matched (c := c) (own := own) (s := { s.standingAs .still with tsq := _ })
      ⟨config, hown, idle, chasing, follows, approaching, pending, recovery⟩ near same
  · rw [State.drive_shown (by exact same) (by exact Tally.mode_still.mpr (shown.resolve_left same))]
    exact State.Follows.matched (c := c) (own := own) (s := (s.standingAs .still).asked .still 0 0)
      ⟨config, hown, idle, chasing, follows, approaching, pending, recovery⟩ near rfl

/-- STILL asked for, and awaited. -/
theorem State.Follows.asks (h : s.Follows c own) (new : s.tsq.reqMode ≠ .still) (unseen : s.pins.tally ≠ .still) :
    (s.chaseRequest .still).csv = s.csv ∧ (s.chaseRequest .still).tsq.matched = false ∧
      (s.chaseRequest .still).tsq.wait = some { settle := 0, busy := 0 } ∧ (s.chaseRequest .still).tsq.reqMode = .still := by
  rw [State.chaseRequest_still h.idle, State.drive_asks (by exact new) (by exact Tally.mode_still.not.mpr unseen)]
  exact ⟨rfl, rfl, rfl, rfl⟩

/-- What the approach law of FOLLOW_STILL asks for (R117). -/
structure State.FollowApproached (c : Settings) (e : Int) (s t : State) : Prop where
  holds : s.tsq.reqMode = .still → s.tsq.matched = false → t = s
  varies : (s.tsq.reqMode = .still → s.tsq.matched = true) → 128 < e.natAbs →
    t.csv = s.csv ∧ t.tsq.reqMode = .var ∧ t.tsq.reqSpeed = s.clampSpeed (approachSpeed c e)
  parks : (s.tsq.reqMode = .still → s.tsq.matched = true) → e.natAbs ≤ 128 → s.tsq.reqMode = .still ∨ s.pins.tally = .still →
    t.csv = { s.csv with followStep := .parked } ∧ t.tsq.matched = true ∧ t.tsq.reqMode = .still ∧ t.tsq.wait = none
  asks : e.natAbs ≤ 128 → s.tsq.reqMode ≠ .still → s.pins.tally ≠ .still →
    t.csv = s.csv ∧ t.tsq.matched = false ∧ t.tsq.wait = some { settle := 0, busy := 0 } ∧ t.tsq.reqMode = .still

theorem State.Follows.approached (h : s.Follows c own) (empty : s.tsq.slot = none) (he : diff c.standard.day s.csv.target own = e) :
    s.FollowApproached c e (s.followApproach e) := by
  refine ⟨fun still waits => State.followApproach_holds still waits, fun ready far => ?_, fun ready near shown => ?_, fun near new unseen => ?_⟩
  · obtain ⟨csv, -, -, mode, speed⟩ := State.chaseRequest_var_leaves (speed := approachSpeed c e) h.idle empty
    rw [State.followApproach_far h.config ready far]
    exact ⟨csv, mode, speed⟩
  · rw [State.followApproach_near ready near]
    exact h.parks (by rw [he]; omega) ready shown
  · rw [State.followApproach_near (fun still => absurd still new) near]
    exact h.asks new unseen

end

end Sys2Proof.Machine
end

section
/-! SUPPORT. CHASE ENABLE and DISABLE: the first choice whole, the directives, the release (R104, R106, R119). -/

namespace Sys2Proof.Machine

/-- An engagement's first choice and request, told of the state before it (R104, R108, R109, R112 to R114, R117). -/
def State.Chosen (c : Settings) (r : ChaseRecord) (s t : State) : Prop :=
  t.tsq.state = .chasing ∧ t.csv.record = some r ∧ t.csv.engagedBy = .directive 0x08 ∧ t.csv.pullTimer = 0 ∧
    t.csv.lockRun = 0 ∧ t.csv.blankRun = 0 ∧ t.csv.rerolls = 0 ∧ t.csv.offTime = 0 ∧
    ((s.view r.master).usable = false → t.csv.state = .waiting ∧ t.tsq.reqMode = .still) ∧
    ∀ x own, (s.view r.master).usable = true → (s.view r.master).projection = some x → s.own = some own →
      let target := wrapDay c.standard.day ((x : Int) + r.offset)
      let e := diff c.standard.day target own
      let sm := (s.view r.master).speed
      t.csv.target = target ∧
      (sm.natAbs < 32 → t.csv.state = .followStill ∧
        (s.tsq.reqMode = .still → s.tsq.matched = false →
          t.csv.followStep = .approaching ∧ t.tsq.reqMode = .still ∧ t.tsq.matched = false) ∧
        (s.tsq.reqMode ≠ .still ∨ s.tsq.matched = true →
          (128 < e.natAbs → t.csv.followStep = .approaching ∧ t.tsq.reqMode = .var ∧
            t.tsq.reqSpeed = clampInt (-(c.shuttleLimit : Int)) c.shuttleLimit (approachSpeed c e)) ∧
          (e.natAbs ≤ 128 → t.tsq.reqMode = .still ∧
            (s.tsq.reqMode = .still ∨ s.pins.tally = .still → t.csv.followStep = .parked ∧ t.tsq.matched = true) ∧
            (s.tsq.reqMode ≠ .still → s.pins.tally ≠ .still →
              t.csv.followStep = .approaching ∧ t.tsq.matched = false ∧ t.tsq.wait = some { settle := 0, busy := 0 })))) ∧
      (32 ≤ sm.natAbs → c.standard.seekThreshold < e.natAbs → t.csv.state = .seeking ∧ t.tsq.reqMode = .var ∧
        t.tsq.reqSpeed = clampInt (-(c.shuttleLimit : Int)) c.shuttleLimit (seekSpeed c.shuttleLimit sm e)) ∧
      (32 ≤ sm.natAbs → e.natAbs ≤ c.standard.seekThreshold → t.csv.state = .pulling ∧ t.tsq.reqMode = .var ∧
        t.tsq.reqSpeed = clampInt (-(c.shuttleLimit : Int)) c.shuttleLimit (pullSpeedWord r.pullSpeed sm e))

section
variable {s t : State} {c : Settings} {r : ChaseRecord}

/-- The deck as an engagement begins its chase: it chases, nothing waits or is held, and no segment is RECORDING. -/
structure State.Starts (r : ChaseRecord) (s : State) : Prop where
  tsq : (s.chaseBegun r (.directive 0x08)).tsq = { s.tsq with state := .chasing, pendingOp := none }
  idle : (s.chaseBegun r (.directive 0x08)).rcc.state ≠ .recording
  empty : s.tsq.slot = none
  well : s.tsq.recovery = .idle

theorem State.Starts.free (h : s.Starts r) : (s.chaseBegun r (.directive 0x08)).Unbound :=
  ⟨by rw [h.tsq], by rw [h.tsq, h.well]; nofun⟩

theorem State.Starts.slot (h : s.Starts r) : (s.chaseBegun r (.directive 0x08)).tsq.slot = none := by
  rw [h.tsq]
  exact h.empty

theorem State.shuttleLimit_of_config (hc : s.dhd.config = some c) : s.shuttleLimit = c.shuttleLimit := by
  simp [State.shuttleLimit, hc]

theorem State.clampSpeed_eq (hc : s.dhd.config = some c) (v : Int) :
    s.clampSpeed v = clampInt (-(c.shuttleLimit : Int)) c.shuttleLimit v := by
  simp [State.clampSpeed, State.shuttleLimit, hc]

theorem State.chaseBegun_view (r : ChaseRecord) (o : Origin) (n : Nat) (s : State) : (s.chaseBegun r o).view n = s.view n := by
  unfold State.view
  rw [(State.chaseBegun_rest r o s).2.2.2.2.ptb]

theorem State.chaseBegun_own (r : ChaseRecord) (o : Origin) (s : State) : (s.chaseBegun r o).own = s.own := by
  obtain ⟨psu, -, -, -, by_⟩ := State.chaseBegun_rest r o s
  unfold State.own
  rw [psu, by_.config]

/-- With no usable master the chase waits for one in STILL. -/
theorem State.Starts.waits (h : s.Starts r) (aim : (s.chaseBegun r (.directive 0x08)).chaseAim r = none) :
    s.startChase r (.directive 0x08) = (s.chaseBegun r (.directive 0x08)).chaseRequest .still := by
  rw [State.startChase_waits aim, State.settle_none]
  rw [(State.chaseRequest_keepsDeck _ h.free).slot]
  exact h.slot

/-- With one it takes its first state and that state's law. -/
theorem State.Starts.chooses {std : Standard} {x : Nat} {e : Int} (h : s.Starts r)
    (aim : (s.chaseBegun r (.directive 0x08)).chaseAim r = some (std, x, e)) :
    s.startChase r (.directive 0x08) =
      (s.chaseChosen r (.directive 0x08) (firstChoice std (s.view r.master).speed e) x).chaseLaw r (s.view r.master).speed e := by
  rw [State.startChase_chooses aim, State.settle_none]
  rw [(State.chaseLaw_keepsDeck (s := s.chaseChosen r (.directive 0x08) (firstChoice std (s.view r.master).speed e) x) _ _ _
    ⟨h.free.pending, h.free.recovery⟩).slot]
  exact h.slot

theorem State.Starts.mute (h : s.Starts r) : (s.chaseBegun r (.directive 0x08)).Mute (s.startChase r (.directive 0x08)) := by
  cases aim : (s.chaseBegun r (.directive 0x08)).chaseAim r with
  | none =>
    rw [h.waits aim]
    exact State.chaseRequest_mute _ h.free
  | some a =>
    obtain ⟨std, x, e⟩ := a
    rw [h.chooses aim]
    have chosen : (s.chaseBegun r (.directive 0x08)).Mute (s.chaseChosen r (.directive 0x08)
      (firstChoice std (s.view r.master).speed e) x) := ⟨rfl, rfl, rfl⟩
    exact chosen.trans (State.chaseLaw_mute _ _ _ ⟨h.free.pending, h.free.recovery⟩)

/-- The first choice, whatever the master. -/
theorem State.Starts.chosen (h : s.Starts r) (hc : s.dhd.config = some c) : s.Chosen c r (s.startChase r (.directive 0x08)) := by
  obtain ⟨psu, -, -, pins, by_⟩ := State.chaseBegun_rest r (.directive 0x08) s
  have view := State.chaseBegun_view r (.directive 0x08) r.master s
  have hown := State.chaseBegun_own r (.directive 0x08) s
  have config : (s.chaseBegun r (.directive 0x08)).dhd.config = some c := by_.config.trans hc
  have mode : (s.chaseBegun r (.directive 0x08)).tsq.reqMode = s.tsq.reqMode := by rw [h.tsq]
  have met : (s.chaseBegun r (.directive 0x08)).tsq.matched = s.tsq.matched := by rw [h.tsq]
  have chasing : (s.chaseBegun r (.directive 0x08)).tsq.state = .chasing := by rw [h.tsq]
  cases aim : (s.chaseBegun r (.directive 0x08)).chaseAim r with
  | none =>
    obtain ⟨csv, -, -, still⟩ := State.chaseRequest_still_leaves h.idle nofun h.slot
    have keeps := State.chaseRequest_keepsDeck .still h.free
    rw [h.waits aim]
    refine ⟨keeps.state.trans chasing, by rw [csv]; rfl, by rw [csv]; rfl, by rw [csv]; rfl, by rw [csv]; rfl, by rw [csv]; rfl,
      by rw [csv]; rfl, by rw [csv]; rfl, fun _ => ⟨by rw [csv]; rfl, still⟩, fun x own usable projection known => ?_⟩
    rw [State.chaseAim_usable config (by rw [view]; exact usable) (by rw [view]; exact projection) (hown.trans known)] at aim
    cases aim
  | some a =>
    obtain ⟨std, y, e⟩ := a
    have free : (s.chaseChosen r (.directive 0x08) (firstChoice std (s.view r.master).speed e) y).Unbound :=
      ⟨h.free.pending, h.free.recovery⟩
    have paced := State.chaseLaw_paced r (s.view r.master).speed e
      (s.chaseChosen r (.directive 0x08) (firstChoice std (s.view r.master).speed e) y)
    have keeps := State.chaseLaw_keepsDeck r (s.view r.master).speed e free
    have csv := paced.csv
    rw [h.chooses aim]
    refine ⟨keeps.state.trans chasing, by rw [csv]; rfl, by rw [csv]; rfl, by rw [csv]; rfl, by rw [csv]; rfl, by rw [csv]; rfl,
      by rw [csv]; rfl, by rw [csv]; rfl, fun unusable => ?_, fun x own usable projection known => ?_⟩
    · rw [State.chaseAim_unusable (by rw [view]; exact unusable)] at aim
      cases aim
    · rw [State.chaseAim_usable config (by rw [view]; exact usable) (by rw [view]; exact projection) (hown.trans known)] at aim
      cases aim
      dsimp only
      generalize he : diff c.standard.day (wrapDay c.standard.day ((x : Int) + r.offset)) own = e at csv free
      generalize (s.view r.master).speed = sm at csv free
      refine ⟨by rw [csv]; rfl, fun rests => ?_, fun moves far => ?_, fun moves near => ?_⟩
      · have choice : firstChoice c.standard sm e = .followStill := by
          simp [firstChoice, masterMoving, Nat.not_le.mpr rests]
        rw [choice] at csv free ⊢
        obtain ⟨holds, varies, parks, asks⟩ := State.Follows.approached (c := c) (own := own) (e := e)
          (s := s.chaseChosen r (.directive 0x08) .followStill (wrapDay c.standard.day ((x : Int) + r.offset)))
          ⟨config, hown.trans known, h.idle, chasing, rfl, rfl, free⟩ h.slot he
        have law : (s.chaseChosen r (.directive 0x08) .followStill (wrapDay c.standard.day ((x : Int) + r.offset))).chaseLaw r sm e =
            (s.chaseChosen r (.directive 0x08) .followStill (wrapDay c.standard.day ((x : Int) + r.offset))).followApproach e := rfl
        have lines : (s.chaseChosen r (.directive 0x08) .followStill (wrapDay c.standard.day ((x : Int) + r.offset))).pins = s.pins := pins
        have ready (given : s.tsq.reqMode ≠ .still ∨ s.tsq.matched = true) :
            (s.chaseBegun r (.directive 0x08)).tsq.reqMode = .still → (s.chaseBegun r (.directive 0x08)).tsq.matched = true := by
          rw [mode, met]
          exact fun still => given.resolve_left fun other => other still
        rw [law] at csv ⊢
        refine ⟨by rw [csv]; rfl, fun still waits => ?_, fun given => ⟨fun far => ?_, fun near => ⟨?_, fun shown => ?_, fun new unseen => ?_⟩⟩⟩
        · rw [holds (mode.trans still) (met.trans waits)]
          exact ⟨rfl, mode.trans still, met.trans waits⟩
        · obtain ⟨stands, var, speed⟩ := varies (ready given) far
          exact ⟨by rw [stands]; rfl, var, speed.trans (State.clampSpeed_eq config _)⟩
        · by_cases shown : s.tsq.reqMode = .still ∨ s.pins.tally = .still
          · exact (parks (ready given) near (by rw [lines]; exact shown.imp_left mode.trans)).2.2.1
          · obtain ⟨new, unseen⟩ := not_or.mp shown
            exact (asks near (by exact fun still => new (mode.symm.trans still)) (by rw [lines]; exact unseen)).2.2.2
        · obtain ⟨parked, matched, -, -⟩ := parks (ready given) near (by rw [lines]; exact shown.imp_left mode.trans)
          exact ⟨by rw [parked], matched⟩
        · obtain ⟨stands, matched, waits, -⟩ := asks near (by exact fun still => new (mode.symm.trans still)) (by rw [lines]; exact unseen)
          exact ⟨by rw [stands]; rfl, matched, waits⟩
      · have choice : firstChoice c.standard sm e = .seeking := by simp [firstChoice, masterMoving, moves, far]
        rw [choice] at csv ⊢
        obtain ⟨csv', -, -, mode', speed⟩ := State.chaseRequest_var_leaves (speed := seekSpeed c.shuttleLimit sm e)
          (s := s.chaseChosen r (.directive 0x08) .seeking (wrapDay c.standard.day ((x : Int) + r.offset))) h.idle h.slot
        have limit : (s.chaseBegun r (.directive 0x08)).shuttleLimit = c.shuttleLimit :=
          State.shuttleLimit_of_config config
        have law : (s.chaseChosen r (.directive 0x08) .seeking (wrapDay c.standard.day ((x : Int) + r.offset))).chaseLaw r sm e =
            (s.chaseChosen r (.directive 0x08) .seeking (wrapDay c.standard.day ((x : Int) + r.offset))).chaseRequest
              (.var (seekSpeed c.shuttleLimit sm e)) := by
          rw [← limit]
          rfl
        rw [law]
        exact ⟨by rw [csv']; rfl, mode', speed.trans (State.clampSpeed_eq config _)⟩
      · have choice : firstChoice c.standard sm e = .pulling := by
          simp [firstChoice, masterMoving, moves, Nat.not_lt.mpr near]
        rw [choice] at csv ⊢
        obtain ⟨csv', -, -, mode', speed⟩ := State.chaseRequest_var_leaves (speed := pullSpeedWord r.pullSpeed sm e)
          (s := s.chaseChosen r (.directive 0x08) .pulling (wrapDay c.standard.day ((x : Int) + r.offset))) h.idle h.slot
        have law : (s.chaseChosen r (.directive 0x08) .pulling (wrapDay c.standard.day ((x : Int) + r.offset))).chaseLaw r sm e =
            (s.chaseChosen r (.directive 0x08) .pulling (wrapDay c.standard.day ((x : Int) + r.offset))).chaseRequest
              (.var (pullSpeedWord r.pullSpeed sm e)) := rfl
        rw [law]
        exact ⟨by rw [csv']; rfl, mode', speed.trans (State.clampSpeed_eq config _)⟩

end

end Sys2Proof.Machine
end

section
/-! SUPPORT. CHASE ENABLE and CHASE DISABLE as directives (R104, R106). -/

namespace Sys2Proof.Machine

section
variable {via : Via} {s : State} {c : Settings} {r : ChaseRecord}

/-- A CHASE ENABLE with its bytes in range comes to the Chase Servo as the record they spell. -/
theorem exec_chaseEnable {master o3 o2 o1 o0 window blanking pull l1 l0 retries off : Byte} {rest : List Byte}
    (hc : s.dhd.config = some c) (hobeys : s.obeysTape via (rest.length + 14) = true)
    (range : chaseBytesInRange c.standard master o3 o2 o1 o0 window blanking pull l1 l0 retries off) :
    exec (.chaseEnable via (master :: o3 :: o2 :: o1 :: o0 :: window :: blanking :: pull :: l1 :: l0 :: retries :: off :: rest)) s =
      .next (((s.heard via).enableChase (ChaseRecord.ofBytes master o3 o2 o1 o0 window blanking pull l1 l0 retries off)).1.reply
        (Via.issuer via) (Via.seq via) 0x08
        ((s.heard via).enableChase (ChaseRecord.ofBytes master o3 o2 o1 o0 window blanking pull l1 l0 retries off)).2) :=
  exec_tape (type := 0x08) (q := 0 :: master :: o3 :: o2 :: o1 :: o0 :: window :: blanking :: pull :: l1 :: l0 :: retries :: off :: rest)
    (d := .chaseEnable (ChaseRecord.ofBytes master o3 o2 o1 o0 window blanking pull l1 l0 retries off)) rfl (by simp) hobeys rfl rfl
    fun c' hc' => by
      cases hc.symm.trans hc'
      have read : parseChase c.standard (0x08 :: 0 :: master :: o3 :: o2 :: o1 :: o0 :: window :: blanking :: pull :: l1 :: l0 ::
          retries :: off :: rest) =
          .ok (.chaseEnable (ChaseRecord.ofBytes master o3 o2 o1 o0 window blanking pull l1 l0 retries off)) := by
        rw [parseChase, readChase_of_inRange _ _ _ _ _ _ _ _ _ _ _ _ _ _ _ _ range]
        rfl
      exact (parseParams_configured (p := 0x08 :: 0 :: master :: _) (by simp [requiredLength, byteAt])
        (show 5 ≤ (0x08 : Byte).toNat by decide)).trans ((parseConfigured_chase rfl).trans read)

theorem exec_chaseDisable (hobeys : s.obeysTape via 2 = true) :
    exec (.chaseDisable via []) s = .next ((s.heard via).disableChase.report via 0x08 .done []) :=
  exec_tape (type := 0x08) (q := [2]) (d := .chaseDisable) rfl rfl hobeys rfl rfl fun _ _ =>
    (parseParams_configured (p := [0x08, 2]) (Nat.le_refl 2) (show 5 ≤ (0x08 : Byte).toNat by decide)).trans
      ((parseConfigured_chase rfl).trans rfl)

/-! ### The order of R104 -/

theorem State.enableChase_refused {code : Code} (h : s.enableChase r = (s, replyOf code)) (i : Issuer) (q type : Byte) :
    (s.enableChase r).1.reply i q type (s.enableChase r).2 = s.answer i q type code [] := by
  rw [h]
  rfl

theorem State.enableChase_taken (other : s.isOwn r.master = false) (tape : s.tsq.state ≠ .unthreaded) (source : s.psu.source ≠ .noSource)
    (ready : s.csv.state = .off → s.tsq.state ≠ .recording ∧ s.tsq.state ≠ .ejecting ∧ s.tsq.state ≠ .faulted) :
    s.enableChase r = (s.startChase r (.directive 0x08), replyOf .done) := by
  unfold State.enableChase
  rw [if_neg (by simp [other]), if_neg tape, if_neg source, if_neg fun h => (ready h.1).1 h.2,
    if_neg fun h => h.2.elim (ready h.1).2.1 (ready h.1).2.2]

/-! ### The release (R106) -/

/-- The chase released, before its STILL is requested. -/
def State.letGo (s : State) : State := (s.emergencyOut .lockLost false).chaseOff.setTransport .still

theorem State.disableChase_off (off : s.csv.state = .off) : s.disableChase = s := if_pos off

theorem State.disableChase_on (active : s.csv.state ≠ .off) : s.disableChase = (s.letGo.drive .still 0 0).settle := if_neg active

theorem State.letGo_idle (idle : s.rcc.state ≠ .recording) : s.letGo = s.chaseOff.setTransport .still := by
  unfold State.letGo State.emergencyOut
  split
  · rename_i recording _
    exact absurd recording idle
  · rfl

theorem State.letGo_tsq (s : State) : s.letGo.tsq = { s.tsq with state := .still } := by
  have same := (State.emergencyOut_undriven .lockLost s).1
  show ({ (s.emergencyOut .lockLost false).tsq with state := .still } : Tsq) = _
  rw [same]

theorem State.letGo_csv (s : State) : s.letGo.csv = s.chaseOff.csv := by
  have same := (State.emergencyOut_undriven .lockLost s).2
  show (s.emergencyOut .lockLost false).chaseOff.csv = _
  unfold State.chaseOff
  rw [same]

/-- The cut of a segment latches no LOCK_LOST (R106, R148). -/
theorem State.emergencyOut_lock (reason : Code) (s : State) :
    (s.emergencyOut reason false).holdsEvent .lockLost = s.holdsEvent .lockLost := by
  unfold State.emergencyOut
  split
  · rename_i g _ _
    unfold State.abortSegmentAt
    exact (State.segmentNotice_paced ..).lock.trans (State.latch_lock (by decide) _)
  · rfl

/-! ### A directive released outside FOLLOW_STILL -/

theorem State.approach_csv (e : Int) (other : s.csv.state ≠ .followStill) : (s.approach e).csv = s.csv := by
  unfold State.approach
  split
  · rfl
  · split <;> exact State.drive_csv (.inl other)

theorem State.takeMotion_csv (m : Motion) (i : Issuer) (q : Byte) (other : s.csv.state ≠ .followStill) :
    (s.takeMotion m i q).1.csv = s.csv := by
  have seek (k : OpKind) (n : Nat) : (s.takeSeek k n i q).csv = s.csv := by
    unfold State.takeSeek
    dsimp only
    split
    · exact State.approach_csv _ (by exact other)
    · rfl
  cases m with
  | still | play | shuttle | eject => exact State.drive_csv (.inl (by exact other))
  | cueTo f => exact seek .cueTo f
  | jog n => exact seek .jog _

theorem State.settle_csv (other : s.csv.state ≠ .followStill) : s.settle.csv = s.csv := by
  have taken (m : Motion) (i : Issuer) (q : Byte) (t : State) (same : t.csv = s.csv) : (t.requestMotion m i q).1.csv = s.csv := by
    unfold State.requestMotion
    split
    · exact same
    · split <;> exact same
    · exact (State.takeMotion_csv m i q (by rw [same]; exact other)).trans same
  unfold State.settle
  split
  · split
    · exact (State.reply_frame ..).csv.trans (taken _ _ _ _ rfl)
    · rfl
  · rfl

end

end Sys2Proof.Machine
end

section
/-! SUPPORT. CHASE ENABLE from OFF and from an active chase, CHASE DISABLE: the ways they leave the station (R104, R106). -/

namespace Sys2Proof.Machine

theorem Deck.Driven.still {d d' : Deck} {m : ReqMode} (h : d.Driven m d') (well : d.recovery ≠ .recoveryWait) (still : d.state = .still) :
    d'.state = .still := by
  have same : ({ d with reqMode := m } : Deck).recovered.state = .still := by
    rw [Deck.recovered_of_other (by exact well)]
    exact still
  cases h with
  | stands | waits => exact still
  | satisfied h =>
    cases h with
    | plain | ended => exact same
    | rested => rfl

section
variable {via : Via} {s : State} {c : Settings} {r : ChaseRecord} {o : PendingOp} {g : Segment}

theorem State.heard_view (via : Via) (s : State) (n : Nat) : (s.heard via).view n = s.view n := by
  unfold State.view
  rw [State.heard_ptb]

theorem State.heard_own (via : Via) (s : State) : (s.heard via).own = s.own := by
  unfold State.own
  rw [State.heard_psu, State.heard_dhd]

theorem State.Chosen.of_heard {t : State} (h : (s.heard via).Chosen c r t) : s.Chosen c r t := by
  simpa only [State.Chosen, State.heard_view, State.heard_own, State.heard_tsq, State.heard_pins] using h

/-- What an engagement leaves of the blocks that have no part in it. -/
theorem State.startChase_rest (r : ChaseRecord) (o : Origin) (s : State) :
    (s.startChase r o).psu = s.psu ∧ (s.startChase r o).ten = s.ten ∧ (s.startChase r o).cul = s.cul ∧ (s.startChase r o).pins = s.pins := by
  obtain ⟨psu, ten, cul, pins, -⟩ := State.chaseBegun_rest r o s
  have work := s.startChase_goesOn r o
  exact ⟨work.psu.trans psu, work.ten.trans ten, work.cul.trans cul, work.pins.trans pins⟩

/-! ### From OFF -/

theorem State.starts_off (off : s.csv.state = .off) (idle : s.rcc.state ≠ .recording) (empty : s.tsq.slot = none)
    (well : s.tsq.recovery = .idle) : s.Starts r := by
  obtain ⟨tsq, rcc, -⟩ := State.chaseBegun_off (r := r) (o := .directive 0x08) off
  exact ⟨tsq, by rw [rcc]; exact idle, empty, well⟩

theorem State.chaseBegun_eq_off (off : s.csv.state = .off) (q : Origin) :
    s.chaseBegun r q = { s.engageTransport with csv := { s.engageTransport.csv with
      state := .waiting, record := some r, engagedBy := q, followStep := .approaching, pullTimer := 0, lockRun := 0,
      blankRun := 0, rerolls := 0, offTime := 0 } } := by
  unfold State.chaseBegun
  dsimp only
  rw [if_pos off]

/-- With no operation to report an engagement from OFF sends nothing. -/
theorem State.chaseBegun_quiet (off : s.csv.state = .off) (idle : s.unhurried) (q : Origin) :
    (s.chaseBegun r q).lif = s.lif ∧ (s.chaseBegun r q).lpt = s.lpt := by
  rw [State.chaseBegun_eq_off off, State.engageTransport, State.endPending_unhurried _ _ idle]
  exact ⟨rfl, rfl⟩

/-- A cue that waited is reported as ended by the chase (R96, R100). -/
theorem State.chaseBegun_reports (off : s.csv.state = .off) (pending : s.tsq.pendingOp = some o) (cue : o.seeks) (q : Origin) :
    s.Reported o.issuer o.seq o.kind.typeByte .chaseActive (s.chaseBegun r q) := by
  have sent := State.answer_reported (s.setPending none) o.issuer o.seq o.kind.typeByte .chaseActive
  rw [State.chaseBegun_eq_off off, State.engageTransport, State.endPending_cue _ _ pending cue]
  exact .of_same (by rfl) (by rfl) (by rfl) sent

theorem State.Reported.mute {t u : State} {i : Issuer} {q y : Byte} {code : Code} (sent : s.Reported i q y code t) (mute : t.Mute u) :
    s.Reported i q y code u := by
  unfold State.Reported at sent ⊢
  rw [mute.lif, mute.lpt]
  exact sent

theorem State.Reported.of_heard {t : State} {i : Issuer} {q y : Byte} {code : Code} (sent : (s.heard via).Reported i q y code t) :
    s.Reported i q y code t := by
  have room := s.heard_room via
  obtain ⟨sends, joins⟩ := sent
  rw [room.listenOnly] at sends
  rw [room.rxQueue, State.sourceNumber_of_stn room.stn] at joins
  exact ⟨fun n dest hears few => sends n dest hears (Nat.lt_of_le_of_lt room.room few), joins⟩

/-! ### From an active chase -/

theorem State.leaveLock_idle (idle : s.rcc.state ≠ .recording) :
    s.leaveLock = if s.csv.state = .locked then s.latch .lockLost else s := by
  unfold State.leaveLock
  split
  · unfold State.emergencyOut
    split
    · rename_i recording _
      exact absurd recording idle
    · rfl
  · rfl

theorem State.leaveLock_unlocked (other : s.csv.state ≠ .locked) : s.leaveLock = s := if_neg other

theorem State.leaveLock_locked (locked : s.csv.state = .locked) : s.leaveLock = (s.latch .lockLost).emergencyOut .lockLost false :=
  if_pos locked

theorem State.starts_on (active : s.csv.state ≠ .off) (chasing : s.tsq.state = .chasing) (clear : s.tsq.pendingOp = none)
    (empty : s.tsq.slot = none) (well : s.tsq.recovery = .idle)
    (agrees : s.rcc.state = .recording → s.csv.state = .locked ∧ s.rcc.record.isSome = true) : s.Starts r := by
  have tsq := s.leaveLock_undriven.1
  refine ⟨?_, ?_, empty, well⟩
  · rw [State.chaseBegun_on active, tsq, ← chasing, ← clear]
  · rw [State.chaseBegun_on active]
    by_cases recording : s.rcc.state = .recording
    · obtain ⟨locked, has⟩ := agrees recording
      rw [State.leaveLock_locked locked]
      exact State.emergencyOut_ends (s := s.latch .lockLost) _ _ fun _ => has
    · rw [State.leaveLock_idle recording]
      split <;> exact recording

/-- What leaving LOCKED leaves of an active chase's station, as the new engagement finds it. -/
theorem State.chaseBegun_left (active : s.csv.state ≠ .off) (q : Origin) :
    (s.chaseBegun r q).rcc = s.leaveLock.rcc ∧ (s.chaseBegun r q).dhd = s.leaveLock.dhd ∧ s.leaveLock.Bystanders (s.chaseBegun r q) := by
  rw [State.chaseBegun_on active]
  exact ⟨rfl, rfl, State.csv_by _ _⟩

end

end Sys2Proof.Machine

open Sys2Proof Sys2Proof.Machine

/-- Settles O48: R104's order, the engagement from OFF and from an active chase, and the release with and without a segment. -/
theorem chaseIsEnabledAndDisabled : Obligations.ChaseIsEnabledAndDisabled := by
  unfold Obligations.ChaseIsEnabledAndDisabled
  intro via s c hc clamped cutOut
  have config : (s.heard via).dhd.config = some c := by rw [State.heard_dhd]; exact hc
  have tsq : (s.heard via).tsq = s.tsq := State.heard_tsq ..
  have csv : (s.heard via).csv = s.csv := State.heard_csv ..
  have rcc : (s.heard via).rcc = s.rcc := State.heard_rcc ..
  have room := s.heard_room via
  refine ⟨?_, fun hobeys => ?_⟩
  · intro master o3 o2 o1 o0 window blanking pull l1 l0 retries off rest hobeys offset limit hm1 hm30 ho hw8 hw128 hb hp hl50 hl1000 hr hf
      r pullSpeed given refused chosen
    have row : exec given s = .next (((s.heard via).enableChase r).1.reply (Via.issuer via) (Via.seq via) 0x08
        ((s.heard via).enableChase r).2) :=
      exec_chaseEnable hc hobeys ⟨hm1, hm30, ho, hw8, hw128, hb, hp, hl50, hl1000, hr, hf⟩
    have refuses {code : Code} (h : (s.heard via).enableChase r = (s.heard via, replyOf code)) : refused code :=
      row.trans (congrArg Host.Outcome.next (State.enableChase_refused h ..))
    have finish (t : State) (h : (s.heard via).startChase r (.directive 0x08) = t) (starts : (s.heard via).Starts r) : chosen t := by
      subst h
      obtain ⟨h1, h2, h3, h4, h5, h6, h7, h8, h9, h10⟩ := State.Chosen.of_heard (starts.chosen config)
      obtain ⟨psu, ten, cul, pins⟩ := State.startChase_rest r (.directive 0x08) (s.heard via)
      exact ⟨h1, h2, h3, h4, h5, h6, h7, h8, h9, h10, psu.trans (State.heard_psu ..), ten.trans (State.heard_ten ..),
        cul.trans (State.heard_cul ..), pins.trans (State.heard_pins ..), State.startChase_by ..⟩
    have taken (t : State) (h : (s.heard via).startChase r (.directive 0x08) = t)
        (passes : (s.heard via).enableChase r = ((s.heard via).startChase r (.directive 0x08), replyOf .done)) :
        exec given s = .next (t.report via 0x08 .done []) := by
      rw [row, passes, h]
      rfl
    refine ⟨fun own => refuses (if_pos ((State.isOwn_heard via s r.master).trans own)), fun other => ?_⟩
    have other' : (s.heard via).isOwn r.master = false := (State.isOwn_heard via s r.master).trans other
    have eq : (s.heard via).enableChase r = _ := if_neg (by simp [other'])
    rw [tsq, csv, State.heard_psu] at eq
    refine ⟨fun gone => refuses (eq.trans (if_pos gone)), fun tape => ?_⟩
    rw [if_neg (by exact tape)] at eq
    refine ⟨fun lost => refuses (eq.trans (if_pos lost)), fun source off => ?_, fun source active chasing empty well clear agrees => ?_⟩
    · rw [if_neg (by exact source)] at eq
      refine ⟨fun recording => refuses (eq.trans (if_pos ⟨off, recording⟩)), fun busy => ?_,
        fun alone inside sound idle noEject empty well => ?_⟩
      · have alone : ¬ (s.csv.state = .off ∧ s.tsq.state = .recording) := by
          rintro ⟨-, recording⟩
          obtain h | h := busy <;> simp [h] at recording
        rw [if_neg (by exact alone)] at eq
        exact refuses (eq.trans (if_pos ⟨off, busy⟩))
      · have off' : (s.heard via).csv.state = .off := by rw [csv]; exact off
        have starts : (s.heard via).Starts r :=
          State.starts_off off' (by rw [rcc]; exact idle) (by rw [tsq]; exact empty) (by rw [tsq]; exact well)
        have mute := starts.mute
        obtain ⟨-, -, -, -, clear, -, rcc'⟩ := State.startChase_off (r := r) (o := .directive 0x08) off' (by rw [tsq]; exact well)
        refine ⟨_, taken _ rfl (State.enableChase_taken other' (by rw [tsq]; exact tape) (by rw [State.heard_psu]; exact source)
          fun _ => by rw [tsq]; exact ⟨alone, inside, sound⟩), finish _ rfl starts, rcc'.trans rcc, clear, fun quiet => ?_,
          fun o pending cue => ?_⟩
        · obtain ⟨lif, lpt⟩ := State.chaseBegun_quiet (r := r) off' (by rw [State.unhurried, tsq]; exact quiet.2) (.directive 0x08)
          exact ⟨mute.lif.trans lif, (mute.lpt.trans lpt).trans (State.heard_lpt ..)⟩
        · have sent := ((State.chaseBegun_reports (r := r) off' (by rw [tsq]; exact pending) cue (.directive 0x08)).mute mute).of_heard
          have type : o.kind.typeByte = if o.kind = OpKind.cueTo then 0x06 else 0x07 := by
            obtain is | is := cue <;> rw [is] <;> rfl
          rw [type] at sent
          exact sent
    · have active' : (s.heard via).csv.state ≠ .off := by rw [csv]; exact active
      have starts : (s.heard via).Starts r := State.starts_on active' (by rw [tsq]; exact chasing) (by rw [tsq]; exact clear)
        (by rw [tsq]; exact empty) (by rw [tsq]; exact well) (by rw [csv, rcc]; exact agrees)
      obtain ⟨leftRcc, leftDhd, left⟩ := State.chaseBegun_left (r := r) active' (.directive 0x08)
      obtain ⟨-, -, -, -, -, sense, rcc'⟩ := State.startChase_engages (o := .directive 0x08) starts.free
        (by rw [starts.tsq]; nofun)
      have goes := left.trans ((s.heard via).startChase_goesOn r (.directive 0x08)).by
      refine ⟨_, taken _ rfl (State.enableChase_taken other' (by rw [tsq]; exact tape) (by rw [State.heard_psu]; exact source)
        fun off => absurd off active'), finish _ rfl starts, fun locked => ?_, fun unlocked => ?_, fun idle => ?_,
        fun g recording held => ?_⟩
      · refine goes.events _ ?_
        rw [State.leaveLock_locked (by rw [csv]; exact locked)]
        exact (State.emergencyOut_by ..).events _ (State.holdsEvent_latch ..)
      · rw [starts.mute.dhd, leftDhd, State.leaveLock_unlocked (by rw [csv]; exact unlocked), State.heard_dhd]
      · have stands := State.leaveLock_idle (s := s.heard via) (by rw [rcc]; exact idle)
        refine ⟨rcc'.trans (leftRcc.trans ?_), sense.trans ((congrArg Dhd.sense leftDhd).trans ?_)⟩
        · rw [stands]
          split <;> exact rcc
        · rw [stands, ← State.heard_dhd via s]
          split <;> rfl
      · have locked := (agrees recording).1
        have cut := State.emergencyOut_cutOut (s := (s.heard via).latch .lockLost) (g := g) (c := c) (by exact rcc ▸ recording)
          (by exact rcc ▸ held) config
        rw [← State.leaveLock_locked (by rw [csv]; exact locked)] at cut
        have here : s.Room ((s.heard via).latch .lockLost) := ⟨room.stn, room.config, room.listenOnly, room.rxQueue, room.room, room.full⟩
        exact State.CutOut.of_room here (State.heard_psu ..) (congrArg Rcc.zones rcc)
          (cut.later (rcc'.trans leftRcc) (sense.trans (congrArg Dhd.sense leftDhd)) goes)
  · rw [exec_chaseDisable hobeys]
    refine ⟨fun off => by rw [State.disableChase_off (by rw [csv]; exact off)], fun active => ?_⟩
    intro released answered
    have active' : (s.heard via).csv.state ≠ .off := by rw [csv]; exact active
    have eq := State.disableChase_on active'
    have go := State.letGo_tsq (s.heard via)
    rw [tsq] at go
    have answers {q : Tsq} (h : (s.heard via).disableChase = released q) : answered q := by
      unfold answered
      rw [h]
    have let_ (idle : s.rcc.state ≠ .recording) : (s.heard via).letGo = released { s.tsq with state := .still } := by
      rw [State.letGo_idle (by rw [rcc]; exact idle)]
      simp only [released, ← tsq, ← csv]
      rfl
    refine ⟨fun idle new unseen => answers ?_, fun idle clear empty well => ⟨fun new shown => answers ?_, fun same => answers ?_⟩,
      fun g recording held => ?_⟩
    · rw [eq, let_ idle, State.drive_asks (by exact new) (by rw [← State.heard_pins via s] at unseen; exact Tally.mode_still.not.mpr unseen)]
      exact State.settle_unsettled rfl
    · rw [eq, let_ idle, State.drive_shown (by exact new) (by rw [← State.heard_pins via s] at shown; exact Tally.mode_still.mpr shown),
        State.onMatched_unhurried (by exact fun h => nomatch well.symm.trans h) (by exact fun o h => nomatch clear.symm.trans h)
        (.inl (by nofun))]
      refine (State.settle_none (by exact empty)).trans ?_
      rw [← clear]
      rfl
    · rw [eq, let_ idle, State.drive_still_again (by exact same) (by exact well) (by exact clear) (by nofun)]
      exact State.settle_none (by exact empty)
    · have cut := State.emergencyOut_cutOut (s := s.heard via) (g := g) (c := c) (by rw [rcc]; exact recording) (by rw [rcc]; exact held) config
      have drives := State.drive_paced .still 0 0 (s.heard via).letGo
      have settles := State.settle_paced ((s.heard via).letGo.drive .still 0 0)
      have csv' := State.drive_csv (s := (s.heard via).letGo) (m := .still) (speed := 0) (track := 0) (.inl (by rw [State.letGo_csv]; nofun))
      have work := (s.heard via).disableChase_work
      have let_ : ((s.heard via).emergencyOut .lockLost false).Bystanders (s.heard via).letGo := (State.chaseOff_by _).trans (State.tsq_by _ _)
      rw [eq] at work
      refine ⟨_, by rw [eq], ?_, ?_, fun empty well => ⟨?_, ?_⟩, ?_, work.psu.trans (State.heard_psu ..), work.ten.trans (State.heard_ten ..),
        work.cul.trans (State.heard_cul ..), work.pins.trans (State.heard_pins ..), work.by⟩
      · refine State.CutOut.of_room room (State.heard_psu ..) (congrArg Rcc.zones rcc) (cut.later ?_ (settles.sense.trans drives.sense)
          ((let_.trans (State.drive_by ..)).trans (State.settle_by _)))
        exact (State.settle_deck _).rcc.trans (State.drive_deck ..).rcc
      · rw [State.settle_csv (by rw [csv', State.letGo_csv]; nofun), csv', State.letGo_csv]
        simp only [released, ← csv]
        rfl
      · have driven := State.drive_brief .still 0 0 (s.heard via).letGo
        rw [State.settle_none (State.drive_slot (by rw [go]; exact empty))]
        exact driven.still (by simp [State.brief, go, well]) (by simp [State.brief, go])
      · rw [State.settle_none (State.drive_slot (by rw [go]; exact empty))]
        exact State.drive_mode _
      · refine (settles.lock.trans drives.lock).trans ((State.emergencyOut_lock .lockLost (s.heard via)).trans ?_)
        simp only [State.holdsEvent, State.heard_dhd]

end

section
/-! SUPPORT. CONFIGURE: the record its bytes spell, and what acceptance makes of every block (R62, R63). -/

namespace Sys2Proof

/-- Four bytes side by side, most significant first, are the unsigned field of 32 bits they hold. -/
theorem natAt32_eq_append (p : List Byte) (i : Nat) :
    BitVec.ofNat 32 (natAt32 p i) =
      (byteAt p i ++ byteAt p (i + 1) ++ byteAt p (i + 2) ++ byteAt p (i + 3) : BitVec 32) := by
  apply BitVec.eq_of_toInt_eq
  rw [← intAt32_eq_append, intAt32]

end Sys2Proof

namespace Sys2Proof.Machine

/-- A station takes a directive of the control set's when it is in the set, and before there is one (R66). -/
theorem State.permits_of {via : Via} {s : State} (may : s.dhd.config = none ∨ s.controlledBy via = true) (p : List Byte) :
    s.permits via p = true := by
  cases via with
  | port => rfl
  | line source dest seq parity =>
    have free : s.controlSet = 0 ∨ s.controlSet.getLsbD source.toNat = true := by
      refine may.elim (fun bare => .inl ?_) fun controls => by simpa [State.controlledBy] using controls
      simp [State.controlSet, bare]
    simp only [State.permits, Bool.or_eq_true, beq_iff_eq]
    tauto

/-- A directive that needs no configuration and no fitted function comes to its owner (R65). -/
theorem exec_always {i : Instr} {via : Via} {type : Byte} {q : List Byte} {d : Directive} {s : State}
    (row : directiveOf i = some (via, type :: q)) (hears : s.hears via (q.length + 1) = true)
    (may : s.dhd.config = none ∨ s.controlledBy via = true) (known : typeUnknown (type :: q) = false)
    (early : takenUnconfigured (type :: q) = true) (tape : needsTransport (type :: q) = false)
    (channel : needsChannel (type :: q) = false)
    (parsed : parseParams s.ownNumber s.standard (Via.fromLine via) (type :: q) = .ok d) :
    exec i s = .next (((s.heard via).runOwner d via).1.reply (Via.issuer via) (Via.seq via) type ((s.heard via).runOwner d via).2) := by
  have checked : s.checkDirective via (type :: q) = .ok d := by
    unfold State.checkDirective
    rw [known, early, State.permits_of may, tape, channel, parsed]
    simp
  rw [exec_of_directive row, s.takeDirective_of_hears via (type :: q) hears, checked]
  rfl

theorem exec_configure {via : Via} {p : List Byte} {s : State} (hears : s.hears via (p.length + 1) = true)
    (may : s.dhd.config = none ∨ s.controlledBy via = true) (long : 15 ≤ p.length) :
    exec (.configure via p) s =
      .next (((s.heard via).configure (readSettings (0x01 :: p))).1.reply (Via.issuer via) (Via.seq via) 0x01
        ((s.heard via).configure (readSettings (0x01 :: p))).2) :=
  exec_always (type := 0x01) (q := p) (d := .configure (readSettings (0x01 :: p))) rfl hears may rfl rfl rfl rfl
    ((parseParams_long (p := 0x01 :: p) (Nat.succ_le_succ long)).trans rfl)

/-! ### The record -/

theorem Standard.ofByte_named {b : Byte} (low : 1 ≤ b.toNat) (high : b.toNat ≤ 3) :
    Standard.ofByte b = some (if b = 1 then .f25 else if b = 2 then .f30n else .f30d) := by
  have third : b ≠ 1 → b ≠ 2 → b = 3 := fun one two => by bv_omega
  unfold Standard.ofByte
  by_cases one : b = 1
  · rw [if_pos one, if_pos one]
  · by_cases two : b = 2
    · rw [if_neg one, if_pos two, if_neg one, if_pos two]
    · rw [if_neg one, if_neg two, if_pos (third one two), if_neg one, if_neg two]

theorem Standard.ofByte_unnamed {b : Byte} (bad : ¬(1 ≤ b.toNat ∧ b.toNat ≤ 3)) : Standard.ofByte b = none := by
  unfold Standard.ofByte
  rw [if_neg (by rintro rfl; simp at bad), if_neg (by rintro rfl; simp at bad), if_neg (by rintro rfl; simp at bad)]

/-- The record the bytes of a payload spell, whatever their ranges (R62). -/
def Settings.spelled (std : Standard) (p : List Byte) : Settings :=
  { standard := std, tpf := (byteAt p 2).toNat, controlSet := byteAt p 3 ++ byteAt p 4 ++ byteAt p 5 ++ byteAt p 6,
    settleLimit := (byteAt p 7).toNat, busyLimit := (byteAt p 8 ++ byteAt p 9 : BitVec 16).toNat,
    shuttleLimit := (byteAt p 10 ++ byteAt p 11 : BitVec 16).toNat, dropoutWindow := (byteAt p 12).toNat,
    autoRecover := byteAt p 13 == 1, offTimeChoice := (byteAt p 14).toNat, turnaround := (byteAt p 15).toNat }

/-- Every field but the standard is in its range (R62). -/
def Settings.fits (c : Settings) (p : List Byte) : Prop :=
  1 ≤ c.tpf ∧ c.controlSet.getLsbD 0 = false ∧ c.controlSet.getLsbD 31 = false ∧ 1 ≤ c.settleLimit ∧ c.busyLimit ≤ 1023 ∧
    1024 ≤ c.shuttleLimit ∧ c.shuttleLimit ≤ 32767 ∧ 1 ≤ c.dropoutWindow ∧ c.dropoutWindow ≤ 30 ∧
    (byteAt p 13).toNat ≤ 1 ∧ c.offTimeChoice ≤ 3

theorem readSettings_named {p : List Byte} {std : Standard} (named : Standard.ofByte (byteAt p 1) = some std)
    [Decidable ((Settings.spelled std p).fits p)] :
    readSettings p = if (Settings.spelled std p).fits p then some (Settings.spelled std p) else none := by
  unfold readSettings
  rw [named]
  simp only [natAt32_eq_append, natAt16_eq_append]
  exact if_congr Iff.rfl rfl rfl

theorem readSettings_unnamed {p : List Byte} (unnamed : Standard.ofByte (byteAt p 1) = none) : readSettings p = none := by
  unfold readSettings
  rw [unnamed]

/-! ### Acceptance -/

section
variable {s : State}

theorem State.configure_refused {r : Option Settings} (ready : s.dhd.config.isSome = true) :
    s.configure r = (s, replyOf .alreadyConfigured) := if_pos ready

theorem State.configure_bad (bare : s.dhd.config = none) : s.configure none = (s, replyOf .badSetting) :=
  if_neg (by rw [bare]; nofun)

theorem State.configure_accepted (c : Settings) (bare : s.dhd.config = none) :
    s.configure (some c) = (s.acceptConfig c, replyOf .done) := if_neg (by rw [bare]; nofun)

/-- What acceptance makes of every block but the transport (R63). -/
def State.accepting (c : Settings) (s : State) : State :=
  { s with
    dhd := { s.dhd with config := some c }
    ftu := { s.ftu with accepted := some s.ftu.now }
    ptb := { s.ptb with entries := s.ptb.entries.map fun e => e.map fun x =>
      { x with foreign := x.content.standard != c.standard.toByte } }
    ten := if s.dhd.channelFitted then { s.ten with edges := List.replicate c.standard.lines (0, 0) } else s.ten }

/-- What acceptance makes of the transport (R90). -/
def State.readied (c : Settings) (s : State) : Tsq := ((s.markAcceptance.setConfig c).judgeForeign).configureTransport.tsq

theorem State.acceptConfig_eq {c : Settings}
    (frame : ((s.markAcceptance.setConfig c).judgeForeign).configureTransport =
      { (s.markAcceptance.setConfig c).judgeForeign with tsq := s.readied c }) :
    s.acceptConfig c = { s.accepting c with tsq := s.readied c } := by
  unfold State.acceptConfig
  rw [frame]
  unfold State.restEdgeTable State.accepting
  cases fitted : s.dhd.channelFitted with
  | false =>
    rw [if_neg (by exact Bool.eq_false_iff.mp fitted)]
    rfl
  | true =>
    rw [if_pos (by exact fitted)]
    rfl

theorem State.acceptConfig_threaded {c : Settings} (fitted : s.dhd.transportFitted = true) (threaded : s.pins.threaded = true)
    (new : s.tsq.reqMode ≠ .stop) (unseen : s.pins.tally ≠ .stop) :
    s.acceptConfig c =
      { s.accepting c with tsq := { s.tsq with
          state := .stopped, reqMode := .stop, reqSpeed := 0, reqTrack := 0, matched := false,
          wait := some { settle := 0, busy := 0 } } } := by
  have driven : ((s.markAcceptance.setConfig c).judgeForeign).configureTransport =
      (((s.markAcceptance.setConfig c).judgeForeign).setTransport .stopped).asked .stop 0 0 := by
    unfold State.configureTransport
    rw [if_pos (by exact fitted), if_pos (by exact threaded)]
    exact State.drive_asks (by exact new) (by
      show Tally.mode s.pins.tally ≠ some .stop
      cases tally : s.pins.tally <;> simp_all [Tally.mode])
  rw [State.acceptConfig_eq (by unfold State.readied; rw [driven]; rfl), State.readied, driven]
  rfl

theorem State.acceptConfig_unthreaded {c : Settings} (fitted : s.dhd.transportFitted = true) (empty : s.pins.threaded = false) :
    s.acceptConfig c =
      { s.accepting c with tsq := { s.tsq with
          reqMode := .stop, reqSpeed := 0, reqTrack := 0, matched := false, wait := none } } := by
  have set : ((s.markAcceptance.setConfig c).judgeForeign).configureTransport =
      ((s.markAcceptance.setConfig c).judgeForeign).setRequest .stop := by
    unfold State.configureTransport
    rw [if_pos (by exact fitted), if_neg (by exact Bool.eq_false_iff.mp empty)]
  rw [State.acceptConfig_eq (by unfold State.readied; rw [set]; rfl), State.readied, set]
  rfl

theorem State.acceptConfig_unfitted {c : Settings} (unfitted : s.dhd.transportFitted = false) :
    s.acceptConfig c = s.accepting c := by
  have same : ((s.markAcceptance.setConfig c).judgeForeign).configureTransport = (s.markAcceptance.setConfig c).judgeForeign := by
    unfold State.configureTransport
    rw [if_neg (by exact Bool.eq_false_iff.mp unfitted)]
  rw [State.acceptConfig_eq (by unfold State.readied; rw [same]), State.readied, same]
  rfl

end

end Sys2Proof.Machine

open Sys2Proof Sys2Proof.Machine

/-- Settles O42, by reading the record field by field and by what acceptance makes of each block. -/
theorem configureMakesTheStationReady : Obligations.ConfigureMakesTheStationReady := by
  unfold Obligations.ConfigureMakesTheStationReady
  intro via std tpf c3 c2 c1 c0 settle b1 b0 h1 h0 dropout auto off gap rest s hears control busy shuttle given inRange
  let p : List Byte := std :: tpf :: c3 :: c2 :: c1 :: c0 :: settle :: b1 :: b0 :: h1 :: h0 :: dropout :: auto :: off :: gap :: rest
  have taken (may : s.dhd.config = none ∨ s.controlledBy via = true) :=
    exec_configure (p := p) (by exact hears) may (by simp [p])
  refine ⟨fun bare fits quiet blank => ?_, fun bare unfit => ?_, fun ready controls => ?_⟩
  · intro c readied
    obtain ⟨low, high, others⟩ := fits
    have read : readSettings (0x01 :: p) = some c := by
      classical
      rw [readSettings_named (p := 0x01 :: p) (Standard.ofByte_named low high)]
      exact if_pos others
    have named : c.standard.toByte = std := by
      have third : std ≠ 1 → std ≠ 2 → 3 = std := fun one two => by bv_omega
      show (if std = 1 then Standard.f25 else if std = 2 then .f30n else .f30d).toByte = std
      by_cases one : std = 1
      · rw [if_pos one, one]; rfl
      · by_cases two : std = 2
        · rw [if_neg one, if_pos two, two]; rfl
        · rw [if_neg one, if_neg two]; exact third one two
    have lines : c.standard.lines = if std = 1 then 288 else 243 := by
      show (if std = 1 then Standard.f25 else if std = 2 then .f30n else .f30d).lines = _
      by_cases one : std = 1
      · rw [if_pos one, if_pos one]; rfl
      · rw [if_neg one, if_neg one]; split <;> rfl
    have ready : (s.heard via).accepting c = readied := by
      unfold State.accepting
      rw [named, lines]
      simp only [State.heard_dhd, State.heard_ftu, State.heard_ptb, State.heard_ten]
      rfl
    have accepted : exec given s = .next (((s.heard via).acceptConfig c).report via 0x01 .done []) := by
      refine (taken (.inl bare)).trans ?_
      rw [read, State.configure_accepted c (by rw [State.heard_dhd]; exact bare)]
      rfl
    have tsq : (s.heard via).tsq = s.tsq := State.heard_tsq ..
    refine ⟨fun fitted threaded unseen => ?_, fun fitted empty => ?_, fun unfitted => ?_⟩
    · rw [accepted, State.acceptConfig_threaded (by rw [State.heard_dhd]; exact fitted) (by rw [State.heard_pins]; exact threaded)
        (by rw [tsq, quiet]; nofun) (by rw [State.heard_pins]; exact unseen), ready, tsq, ← blank]
    · rw [accepted, State.acceptConfig_unthreaded (by rw [State.heard_dhd]; exact fitted) (by rw [State.heard_pins]; exact empty),
        ready, tsq, ← blank]
    · rw [accepted, State.acceptConfig_unfitted (by rw [State.heard_dhd]; exact unfitted), ready]
  · have read : readSettings (0x01 :: p) = none := by
      classical
      by_cases named : 1 ≤ std.toNat ∧ std.toNat ≤ 3
      · rw [readSettings_named (p := 0x01 :: p) (Standard.ofByte_named named.1 named.2)]
        exact if_neg fun fits => unfit ⟨named.1, named.2, fits⟩
      · exact readSettings_unnamed (Standard.ofByte_unnamed named)
    refine (taken (.inl bare)).trans ?_
    rw [read, State.configure_bad (by rw [State.heard_dhd]; exact bare)]
    rfl
  · refine (taken (.inr controls)).trans ?_
    rw [State.configure_refused (by rw [State.heard_dhd]; exact ready)]
    rfl
end

section
/-! SUPPORT. RESTART: what it leaves of every block, and the order of its messages (R39, R78, R99, R150, R170). -/

namespace Sys2Proof.Machine

/-! ### Messages that join the emptied queues (R29, R70, R149) -/

/-- Messages joined behind the queues. -/
def State.queued (tx : List TxMsg) (rx : List RxMsg) (s : State) : State :=
  { s with
    lif := { s.lif with waiting := s.lif.waiting ++ tx }
    lpt := { s.lpt with rxQueue := s.lpt.rxQueue ++ rx } }

/-- At most `n` messages to stations and `n` to the local port join the queues, and nothing is discarded. -/
def State.Sends (n : Nat) (s t : State) : Prop :=
  ∃ tx rx, t = s.queued tx rx ∧ tx.length ≤ n ∧ rx.length ≤ n ∧ ∀ m ∈ tx, m.isAnn = false

theorem joinBehind_last {m : TxMsg} (last : m.kind.cls = 2) (q : List TxMsg) : joinBehind m q = q ++ [m] := by
  have all : ∀ x ∈ q, decide (x.kind.cls ≤ m.kind.cls) = true := by
    intro x _
    rw [last, decide_eq_true_eq]
    cases x.kind <;> decide
  rw [joinBehind_eq_split, List.takeWhile_eq_self_iff.mpr all, List.dropWhile_eq_nil_iff.mpr all]

section
variable {s t u : State} {n k : Nat}

theorem State.queued_nothing (s : State) : s.queued [] [] = s := by simp [State.queued]

theorem State.queued_queued (tx tx' : List TxMsg) (rx rx' : List RxMsg) :
    (s.queued tx rx).queued tx' rx' = s.queued (tx ++ tx') (rx ++ rx') := by
  simp only [State.queued, List.append_assoc]

theorem State.Sends.none (s : State) (n : Nat) : s.Sends n s :=
  ⟨[], [], (State.queued_nothing s).symm, Nat.zero_le n, Nat.zero_le n, nofun⟩

theorem State.Sends.trans (first : s.Sends n t) (second : t.Sends k u) : s.Sends (n + k) u := by
  obtain ⟨tx, rx, rfl, few, light, plain⟩ := first
  obtain ⟨tx', rx', rfl, few', light', plain'⟩ := second
  refine ⟨_, _, State.queued_queued .., ?_, ?_, fun m at_ => ?_⟩
  · rw [List.length_append]; omega
  · rw [List.length_append]; omega
  · exact (List.mem_append.mp at_).elim (plain m) (plain' m)

/-- Both queues have places left for a few messages. -/
def State.Spare (n : Nat) (s : State) : Prop := s.lif.nonAnnouncements + n ≤ 7 ∧ s.lpt.rxQueue.length + n ≤ 8

theorem State.Spare.after (spare : s.Spare (n + k)) (sends : s.Sends n t) : t.Spare k := by
  obtain ⟨tx, rx, rfl, few, light, plain⟩ := sends
  have counted : (s.queued tx rx).lif.nonAnnouncements ≤ s.lif.nonAnnouncements + n := by
    have joined := List.countP_le_length (p := fun m : TxMsg => !m.isAnn) (l := tx)
    simp only [State.queued, Lif.nonAnnouncements, List.countP_append]
    omega
  have received : (s.queued tx rx).lpt.rxQueue.length = s.lpt.rxQueue.length + rx.length := List.length_append
  obtain ⟨line, port⟩ := spare
  constructor <;> omega

theorem State.rxJoin_queued (spare : s.Spare 1) (bytes : List Byte) :
    s.rxJoin bytes = s.queued [] [{ bytes := bytes, place := 0 }] := by
  rw [State.rxJoin_room (by obtain ⟨-, port⟩ := spare; omega)]
  simp [State.queued]

theorem State.txJoin_queued {m : TxMsg} (spare : s.Spare 1) (sends : s.lif.listenOnly = false) (last : m.kind.cls = 2) :
    s.txJoin m = s.queued [m] [] := by
  obtain ⟨line, -⟩ := spare
  unfold State.txJoin
  rw [if_neg (by simp [sends]), if_neg (by simp [Lif.full]; omega), joinBehind_last last]
  simp [State.queued]

theorem State.rxJoin_sends (spare : s.Spare 1) (bytes : List Byte) : s.Sends 1 (s.rxJoin bytes) :=
  ⟨_, _, State.rxJoin_queued spare bytes, Nat.zero_le 1, Nat.le_refl 1, nofun⟩

theorem State.txJoin_sends {m : TxMsg} (spare : s.Spare 1) (last : m.kind.cls = 2) : s.Sends 1 (s.txJoin m) := by
  cases hears : s.lif.listenOnly with
  | true =>
    rw [show s.txJoin m = s from if_pos hears]
    exact .none s 1
  | false =>
    have plain : m.isAnn = false := by
      cases kind : m.kind <;> simp_all [TxMsg.isAnn, MsgKind.cls]
    exact ⟨_, _, State.txJoin_queued spare hears last, Nat.le_refl 1, Nat.zero_le 1, fun x at_ => List.mem_singleton.mp at_ ▸ plain⟩

theorem State.answer_sends (spare : s.Spare 1) (i : Issuer) (q y : Byte) (c : Code) (r : List Byte) :
    s.Sends 1 (s.answer i q y c r) := by
  cases i with
  | nobody => exact .none s 1
  | port => exact State.rxJoin_sends spare _
  | station => exact State.txJoin_sends spare rfl

theorem State.raiseNotice_sends (spare : s.Spare 1) (d : Nat) (p : List Byte) : s.Sends 1 (s.raiseNotice d p) := by
  unfold State.raiseNotice
  dsimp only
  split
  · exact State.rxJoin_sends spare _
  · exact State.txJoin_sends spare rfl

theorem State.reportEnded_sends (spare : s.Spare 1) (o : Option PendingOp) : s.Sends 1 (s.reportEnded o) := by
  unfold State.reportEnded
  split
  · split
    · exact .none s 1
    · exact State.answer_sends spare ..
  · exact .none s 1

theorem State.segmentNotice_sends (spare : s.Spare 1) (g : Segment) (reason : Code) : s.Sends 1 (s.segmentNotice g reason) := by
  unfold State.segmentNotice
  split
  · exact State.raiseNotice_sends spare ..
  · exact .none s 1

theorem State.noticeEnded_sends (spare : s.Spare 1) (st : SegState) (g : Option Segment) : s.Sends 1 (s.noticeEnded st g) := by
  unfold State.noticeEnded
  split
  · exact State.segmentNotice_sends spare ..
  · exact .none s 1

theorem State.noticeEnded_none {st : SegState} (idle : st ≠ .recording) (g : Option Segment) : s.noticeEnded st g = s := by
  unfold State.noticeEnded
  split
  · exact absurd rfl idle
  · rfl

/-- With places left in both queues the notice of a segment finds its place, however the queues stood before (R149). -/
theorem State.segmentNotice_finds {g x : Segment} {reason : Code} (spare : t.Spare 1) (stn : t.dhd.stn = s.dhd.stn)
    (config : t.dhd.config = s.dhd.config) (listens : t.lif.listenOnly = s.lif.listenOnly)
    (emptied : s.Spare 1) (inFrame : x.inFrame = g.inFrame) (notify : x.notify = g.notify) :
    s.SegmentNoticed (t.segmentNotice x reason) g reason (x.lastFrame, x.remaining) := by
  intro c n configured told
  obtain ⟨joins, -, sends⟩ := State.segmentNotice_noticed (s := t) (reason := reason) inFrame notify c n (config.trans configured) told
  rw [State.isOwn_of_stn stn, State.sourceNumber_of_stn stn] at joins
  rw [State.isOwn_of_stn stn, listens] at sends
  obtain ⟨line, port⟩ := spare
  obtain ⟨line', port'⟩ := emptied
  exact ⟨fun own _ => joins own (by omega), fun _ full => absurd full (by omega),
    fun other hears => ⟨fun _ => (sends other hears).1 (by omega), fun full => absurd full (by omega)⟩⟩

end

/-! ### The transport (R80, R87, R99) -/

section
variable {s : State}

/-- A fresh wait with nothing pending and no chase: what it can change is the request's own standing. -/
theorem State.startWait_clear (clear : s.tsq.pendingOp = none) (apart : s.tsq.state ≠ .chasing) :
    ∃ u : Tsq, s.startWait = { s with tsq := u } ∧ u.pendingOp = none ∧ u.slot = s.tsq.slot ∧ u.reqMode = s.tsq.reqMode ∧
      (s.tsq.state = .stopped → u.state = .stopped) := by
  by_cases shows : Tally.mode s.pins.tally = some s.tsq.reqMode
  · rw [State.startWait_shown shows]
    by_cases trying : s.tsq.recovery = .recoveryWait
    · rw [State.onMatched_recovery (by exact trying) (by exact clear)]
      exact ⟨_, rfl, clear, rfl, rfl, fun _ => rfl⟩
    · rw [State.onMatched_unhurried (by exact trying) (by simp [State.unhurried, clear]) (.inl (by exact apart))]
      exact ⟨_, rfl, rfl, rfl, rfl, id⟩
  · rw [State.startWait_asks shows]
    exact ⟨_, rfl, clear, rfl, rfl, id⟩

/-- What RESTART may make of the transport (R80, R99). -/
structure State.Restopped (s : State) (u : Tsq) : Prop where
  pendingOp : u.pendingOp = none
  slot : u.slot = none
  stopped : s.dhd.transportFitted = true → s.dhd.config.isSome = true → s.tsq.state ≠ .unthreaded → s.tsq.state ≠ .faulted →
    u.state = .stopped ∧ u.reqMode = .stop
  faulted : s.dhd.transportFitted = true → s.dhd.config.isSome = true → s.tsq.state = .faulted → s.tsq.reqMode = .stop →
    s.pins.tally ≠ .stop →
    u.state = .faulted ∧ u.reqMode = .stop ∧ u.recovery = .recoveryWait ∧ u.matched = false ∧
      u.wait = some { settle := 0, busy := 0 }

theorem State.restartTransport_eq (s : State) : ∃ u, s.restartTransport = { s with tsq := u } ∧ s.Restopped u := by
  unfold State.restartTransport
  dsimp only
  split
  · rename_i apart
    refine ⟨_, rfl, rfl, rfl, fun fitted ready threaded _ => ?_, fun fitted ready failed => ?_⟩
    all_goals
      obtain no | gone | bare := apart
      · exact absurd (fitted.symm.trans no) nofun
      · simp_all
      · simp_all
  · split
    · rename_i failed
      by_cases shows : Tally.mode s.pins.tally = some s.tsq.reqMode
      · obtain ⟨u, eq, clear, empty, mode, -⟩ := State.startWait_clear
          (s := { s with tsq := { s.tsq with slot := none, pendingOp := none, recovery := .recoveryWait } }) rfl
          (fun chased => nomatch failed.symm.trans chased)
        refine ⟨u, eq, clear, empty, fun _ _ _ well => absurd failed well, fun _ _ _ stop unseen => ?_⟩
        exact absurd (Tally.mode_iff.mp (stop ▸ shows)) unseen
      · refine ⟨_, State.startWait_asks
          (s := { s with tsq := { s.tsq with slot := none, pendingOp := none, recovery := .recoveryWait } }) (by exact shows), ?_⟩
        exact ⟨rfl, rfl, fun _ _ _ well => absurd failed well, fun _ _ _ stop _ => ⟨failed, stop, rfl, rfl, rfl⟩⟩
    · rename_i well
      obtain ⟨u, eq, clear, empty, mode, stops⟩ := State.startWait_clear
        (s := (({ s with tsq := { s.tsq with slot := none, pendingOp := none } } : State).setTransport .stopped).setRequest .stop)
        rfl nofun
      exact ⟨u, eq, clear, empty, fun _ _ _ _ => ⟨stops rfl, mode⟩, fun _ _ failed => absurd failed well⟩

/-! ### The station at rest (R39, R78) -/

/-- Steps 1 to 3 of R78, block by block, with the transport as given. -/
def State.quieted (u : Tsq) (s : State) : State :=
  { s with
    tsq := u
    lif := s.restartQueues.lif
    lpt := { s.lpt with rxQueue := [] }
    csv := s.chaseOff.csv
    cul := { s.cul with cues := [], roll := none }
    rcc := { s.rcc with state := .idle, record := none, gapCount := 0, zones := [] }
    ten := if s.dhd.channelFitted then s.ten.restarted s.lineCount else s.ten
    dhd := { s.dhd with sense := none, events := 0 } }

theorem State.quiet_eq (s : State) : ∃ u, s.quiet = s.quieted u ∧ s.Restopped u := by
  obtain ⟨u, eq, ⟨clear, empty, stopped, faulted⟩⟩ := State.restartTransport_eq s.restartQueues
  refine ⟨u, ?_, ⟨clear, empty, stopped, faulted⟩⟩
  unfold State.quiet
  rw [eq]
  unfold State.restartTransition State.quieted
  cases fitted : s.dhd.channelFitted with
  | false =>
    rw [if_neg (by exact Bool.eq_false_iff.mp fitted)]
    rfl
  | true =>
    rw [if_pos (by exact fitted)]
    rfl

theorem State.quieted_spare (u : Tsq) (s : State) : (s.quieted u).Spare 3 := by
  have none : (s.lif.waiting.filter (·.isAnn)).countP (fun m => !m.isAnn) = 0 := by
    rw [List.countP_eq_zero]
    intro m at_
    simp [(List.mem_filter.mp at_).2]
  refine ⟨?_, Nat.le_of_ble_eq_true rfl⟩
  show (s.lif.waiting.filter (·.isAnn)).countP (fun m => !m.isAnn) + _ + 3 ≤ 7
  rw [none]
  split
  · split <;> decide
  · decide

theorem exec_restart {via : Via} (hears : s.hears via 1 = true) (may : s.dhd.config = none ∨ s.controlledBy via = true) :
    exec (.restart via []) s = .next ((s.heard via).restart (Via.issuer via) (Via.seq via)) :=
  exec_always (type := 0x03) (q := []) (d := .restart) rfl hears may rfl rfl rfl rfl
    ((parseParams_long (p := [0x03]) (Nat.le_refl 1)).trans rfl)

/-- RESTART is the station at rest, its own report, and the reports of what it ended. -/
theorem State.restart_eq (issuer : Issuer) (seq : Byte) (s : State) :
    ∃ u, s.Restopped u ∧ (s.quieted u).Sends 1 ((s.quieted u).answer issuer seq 0x03 .done []) ∧
      ((s.quieted u).answer issuer seq 0x03 .done []).Sends 2 (s.restart issuer seq) ∧
      (s.tsq.pendingOp = none → s.rcc.state ≠ .recording →
        s.restart issuer seq = (s.quieted u).answer issuer seq 0x03 .done []) ∧
      ∀ g, s.rcc.state = .recording → s.rcc.record = some g →
        ({ s with lif := { s.lif with waiting := [] }, lpt := { s.lpt with rxQueue := [] } } : State).SegmentNoticed
          (s.restart issuer seq) g .restarted (s.recordedTo g) := by
  obtain ⟨u, quiet, stops⟩ := s.quiet_eq
  have spare := s.quieted_spare u
  have answered := State.answer_sends (i := issuer) (q := seq) (y := 0x03) (c := .done) (r := [])
    (s := s.quieted u) (by obtain ⟨a, b⟩ := spare; constructor <;> omega)
  have spare2 : ((s.quieted u).answer issuer seq 0x03 .done []).Spare 2 := spare.after answered
  have ended := State.reportEnded_sends (s := (s.quieted u).answer issuer seq 0x03 .done [])
    (by obtain ⟨a, b⟩ := spare2; constructor <;> omega) s.tsq.pendingOp
  have spare1 : (((s.quieted u).answer issuer seq 0x03 .done []).reportEnded s.tsq.pendingOp).Spare 1 := spare2.after ended
  have noticed := State.noticeEnded_sends spare1 s.rcc.state s.rcc.record
  have eq : s.restart issuer seq =
      (((s.quieted u).answer issuer seq 0x03 .done []).reportEnded s.tsq.pendingOp).noticeEnded s.rcc.state s.rcc.record := by
    unfold State.restart
    rw [quiet]
  refine ⟨u, stops, answered, eq ▸ ended.trans noticed, fun clear idle => ?_, fun g recording held => ?_⟩
  · rw [eq, clear, State.noticeEnded_none idle]
    rfl
  · rw [eq, recording, held]
    have before := answered.trans ended
    revert spare1 before
    generalize ((s.quieted u).answer issuer seq 0x03 .done []).reportEnded s.tsq.pendingOp = v
    rintro spare1 ⟨tx, rx, rfl, -⟩
    have recorded : s.recordedTo g = ((s.quieted u).queued tx rx).recordedTo g :=
      (State.recordedTo_congr (s := s) (t := (s.quieted u).queued tx rx) rfl rfl g).symm
    rw [recorded, ← State.atOwnFrame_recorded]
    obtain ⟨inFrame, notify⟩ := ((s.quieted u).queued tx rx).atOwnFrame_fixed g
    refine State.segmentNotice_finds spare1 rfl rfl rfl ⟨?_, Nat.le_of_ble_eq_true rfl⟩ inFrame notify
    show 0 + _ + 1 ≤ 7
    split
    · split <;> decide
    · decide

/-! ### What stands and what is gone -/

/-- Announcements kept, then other messages: each are got back. -/
theorem filter_queued {q tx : List TxMsg} (plain : ∀ m ∈ tx, m.isAnn = false) :
    (q.filter (·.isAnn) ++ tx).filter TxMsg.isAnn = q.filter TxMsg.isAnn ∧
      (q.filter (·.isAnn) ++ tx).filter (fun m => !m.isAnn) = tx := by
  have anns : tx.filter TxMsg.isAnn = [] := List.filter_eq_nil_iff.mpr fun m at_ => by simp [plain m at_]
  have others : tx.filter (fun m => !m.isAnn) = tx := List.filter_eq_self.mpr fun m at_ => by simp [plain m at_]
  have kept : (q.filter (·.isAnn)).filter (fun m => !m.isAnn) = [] :=
    List.filter_eq_nil_iff.mpr fun m at_ => by simp [(List.mem_filter.mp at_).2]
  rw [List.filter_append, List.filter_append, anns, others, kept, List.filter_filter]
  simp

/-- What RESTART leaves of every block (R39, R78, R99, R120, R138, R150, R153, R170). -/
structure State.AtRest (s t : State) : Prop where
  csv : t.csv = s.chaseOff.csv
  cul : t.cul = { s.cul with cues := [], roll := none }
  rcc : t.rcc = { s.rcc with state := .idle, record := none, gapCount := 0, zones := [] }
  tsq : s.Restopped t.tsq
  ten : t.ten = if s.dhd.channelFitted then s.ten.restarted s.lineCount else s.ten
  dhd : t.dhd = { s.dhd with sense := none, events := 0 }
  psu : t.psu = s.psu
  ftu : t.ftu = s.ftu
  ptb : t.ptb = s.ptb
  pins : t.pins = s.pins
  order : t.order = s.order
  pending : t.pending = s.pending
  anns : t.lif.waiting.filter TxMsg.isAnn = s.lif.waiting.filter TxMsg.isAnn
  listenOnly : t.lif.listenOnly = s.lif.listenOnly
  duplicate : t.lif.duplicate = s.lif.duplicate
  lpt : t.lpt = { s.lpt with rxQueue := t.lpt.rxQueue }

theorem State.quieted_atRest {u : Tsq} {tx : List TxMsg} {rx : List RxMsg} (stops : s.Restopped u)
    (plain : ∀ m ∈ tx, m.isAnn = false) : s.AtRest ((s.quieted u).queued tx rx) where
  csv := rfl
  cul := rfl
  rcc := rfl
  tsq := stops
  ten := rfl
  dhd := rfl
  psu := rfl
  ftu := rfl
  ptb := rfl
  pins := rfl
  order := rfl
  pending := rfl
  anns := (filter_queued plain).1
  listenOnly := rfl
  duplicate := rfl
  lpt := rfl

theorem State.restart_atRest (issuer : Issuer) (seq : Byte) (s : State) : s.AtRest (s.restart issuer seq) := by
  obtain ⟨u, stops, answered, ended, -⟩ := s.restart_eq issuer seq
  obtain ⟨tx, rx, total, -, -, plain⟩ := answered.trans ended
  rw [total]
  exact State.quieted_atRest stops plain

/-- RESTART from a station is answered before anything it ends, and alone where it ends nothing. -/
theorem State.restart_first {seq : Byte} {source : BitVec 5} (sends : s.lif.listenOnly = false) :
    ((s.restart (.station source.toNat) seq).lif.waiting.filter fun m => !m.isAnn).head? =
      some { kind := .report, dest := source, seq := seq, payload := [0x03, 0x00], age := 0 } ∧
    (s.tsq.pendingOp = none → s.rcc.state ≠ .recording →
      (s.restart (.station source.toNat) seq).lif.waiting.filter (fun m => !m.isAnn) =
        [{ kind := .report, dest := source, seq := seq, payload := [0x03, 0x00], age := 0 }] ∧
      (s.restart (.station source.toNat) seq).lpt.rxQueue = []) := by
  obtain ⟨u, -, -, ended, alone, -⟩ := s.restart_eq (.station source.toNat) seq
  have spare := s.quieted_spare u
  have answer : (s.quieted u).answer (.station source.toNat) seq 0x03 .done [] =
      (s.quieted u).queued [{ kind := .report, dest := source, seq := seq, payload := [0x03, 0x00], age := 0 }] [] := by
    refine (State.txJoin_queued (by obtain ⟨a, b⟩ := spare; constructor <;> omega) (by exact sends) rfl).trans ?_
    rw [BitVec.ofNat_toNat, BitVec.setWidth_eq]
    rfl
  rw [answer] at ended alone
  constructor
  · obtain ⟨tx, rx, total, -, -, plain⟩ := ended
    rw [total, State.queued_queued]
    exact congrArg List.head? (filter_queued (q := s.lif.waiting) (tx := _ :: tx)
      (List.forall_mem_cons.mpr ⟨rfl, plain⟩)).2
  · intro clear idle
    rw [alone clear idle]
    exact ⟨(filter_queued (q := s.lif.waiting) (List.forall_mem_singleton.mpr rfl)).2, rfl⟩

/-- RESTART from the port is answered there before anything it ends. -/
theorem State.restart_port (seq : Byte) (s : State) :
    (s.restart .port seq).lpt.rxQueue.head? =
      some { bytes := [s.sourceNumber.setWidth 8, 2, seq, 2, 0x03, 0x00], place := 0 } := by
  obtain ⟨u, -, -, ended, -⟩ := s.restart_eq .port seq
  have spare := s.quieted_spare u
  have answer : (s.quieted u).answer .port seq 0x03 .done [] =
      (s.quieted u).queued [] [{ bytes := [s.sourceNumber.setWidth 8, 2, seq, 2, 0x03, 0x00], place := 0 }] :=
    (State.rxJoin_queued (by obtain ⟨a, b⟩ := spare; constructor <;> omega) _).trans rfl
  rw [answer] at ended
  obtain ⟨tx, rx, total, -⟩ := ended
  rw [total]
  rfl

theorem State.restart_noticed (issuer : Issuer) (seq : Byte) (s : State) (g : Segment) (recording : s.rcc.state = .recording)
    (held : s.rcc.record = some g) :
    ({ s with lif := { s.lif with waiting := [] }, lpt := { s.lpt with rxQueue := [] } } : State).SegmentNoticed
      (s.restart issuer seq) g .restarted (s.recordedTo g) := by
  obtain ⟨u, -, -, -, -, noticed⟩ := s.restart_eq issuer seq
  exact noticed g recording held

/-- A directive that a station hears from the line finds it sending, not listen-only (R65). -/
theorem State.sends_of_hears {source dest : BitVec 5} {seq : Byte} {parity : Parity} {n : Nat}
    (hears : s.hears (.line source dest seq parity) n = true) : s.lif.listenOnly = false := by
  simp only [State.hears, Bool.and_eq_true, Bool.not_eq_true'] at hears
  exact hears.2

end

end Sys2Proof.Machine

open Sys2Proof Sys2Proof.Machine

/-- Settles O44, by the station at rest, block by block, and by the at most three messages that join its emptied queues in order. -/
theorem restartStopsAllWork : Obligations.RestartStopsAllWork := by
  unfold Obligations.RestartStopsAllWork
  intro via s hears may
  refine ⟨_, exec_restart hears may, ?_⟩
  have rest : s.AtRest ((s.heard via).restart (Via.issuer via) (Via.seq via)) := by
    obtain ⟨csv, cul, rcc, tsq, ten, dhd, psu, ftu, ptb, pins, order, pending, anns, listens, duplicate, lpt⟩ :=
      (s.heard via).restart_atRest (Via.issuer via) (Via.seq via)
    cases via <;>
      exact ⟨csv, cul, rcc, ⟨tsq.1, tsq.2, tsq.3, tsq.4⟩, ten, dhd, psu, ftu, ptb, pins, order, pending, anns, listens, duplicate, lpt⟩
  have noticed (g : Segment) (recording : s.rcc.state = .recording) (held : s.rcc.record = some g) :
      ({ s with lif := { s.lif with waiting := [] }, lpt := { s.lpt with rxQueue := [] } } : State).SegmentNoticed
        ((s.heard via).restart (Via.issuer via) (Via.seq via)) g .restarted (s.recordedTo g) := by
    have told := (s.heard via).restart_noticed (Via.issuer via) (Via.seq via) g
    cases via <;> exact told recording held
  have first (source dest : BitVec 5) (seq : Byte) (parity : Parity) (line : via = .line source dest seq parity) (one : dest ≠ 0) :
      (s.heard via).restart (Via.issuer via) (Via.seq via) = s.lineBusy.restart (.station source.toNat) seq := by
    subst line
    show s.lineBusy.restart (if dest = 0 then .nobody else .station source.toNat) seq = _
    rw [if_neg one]
  have port (seq : Byte) (from_ : via = .port seq) :
      (s.heard via).restart (Via.issuer via) (Via.seq via) = s.restart .port seq := by
    subst from_
    rfl
  generalize (s.heard via).restart (Via.issuer via) (Via.seq via) = t at *
  refine ⟨rest.csv, rest.cul, by rw [rest.rcc], by rw [rest.rcc], by rw [rest.rcc], by rw [rest.rcc], rest.tsq.pendingOp,
    rest.tsq.slot, noticed, fun fitted => ?_, ?_, ?_, ?_, ?_, by rw [rest.dhd], rest.tsq.stopped, rest.tsq.faulted, rest.psu,
    rest.ftu, rest.ptb, rest.pins, by rw [rest.dhd], by rw [rest.dhd], rest.anns, rest.order, rest.pending, rest.listenOnly,
    rest.duplicate, by rw [rest.lpt], by rw [rest.lpt], by rw [rest.lpt], fun source dest seq parity line one => ?_,
    fun seq from_ => ?_⟩
  · rw [rest.ten, if_pos fitted]
    exact ⟨rfl, rfl, rfl, rfl, rfl, rfl, rfl, rfl, rfl, fun e at_ => List.eq_of_mem_replicate at_⟩
  · rw [rest.ten]; split <;> rfl
  · rw [rest.ten]; split <;> rfl
  · rw [rest.ten]; split <;> rfl
  · rw [rest.ten]; split <;> rfl
  · rw [first source dest seq parity line one]
    subst line
    exact State.restart_first (s := s.lineBusy) (State.sends_of_hears (s := s) hears)
  · rw [port seq from_]
    exact State.restart_port seq s
end

section
/-! SUPPORT. The Transition Engine at a field start: the picture it draws, the steps it takes, and the cues beside it (R158 to R168). -/

namespace Sys2Proof.Machine

/-! ### The picture (R160, R161) -/

/-- The samples a WIPE shows B on, line by line (R161). -/
def Pattern.inside (w : Pattern) (lines p x y : Nat) : Prop :=
  match w with
  | .leftRight => 1024 * x < 720 * p
  | .rightLeft => 1024 * (719 - x) < 720 * p
  | .topDown => 1024 * y < p * lines
  | .splitH => 1024 * (2 * (x : Int) + 1 - 720).natAbs < 720 * p
  | .boxOut => 1024 * (2 * (x : Int) + 1 - 720).natAbs < 720 * p ∧ 1024 * (2 * (y : Int) + 1 - lines).natAbs < p * lines

/-- An edge pair holds the samples of a line that a property picks, and is (0, 0) where it picks none. -/
def Marks (e : Nat × Nat) (shows : Nat → Prop) : Prop :=
  (∀ x, x < 720 → (shows x ↔ e.1 ≤ x ∧ x < e.2)) ∧ ((∀ x, x < 720 → ¬shows x) → e.1 = 0 ∧ e.2 = 0)

theorem marks_none {shows : Nat → Prop} (none : ∀ x, x < 720 → ¬shows x) : Marks (0, 0) shows :=
  ⟨fun x short => iff_of_false (none x short) (by rintro ⟨-, less⟩; exact absurd less (Nat.not_lt_zero x)), fun _ => ⟨rfl, rfl⟩⟩

/-- A pair that is not empty marks what it holds. -/
theorem marks_some {l r : Nat} {shows : Nat → Prop} (some : l < r) (bound : r ≤ 720)
    (holds : ∀ x, x < 720 → (shows x ↔ l ≤ x ∧ x < r)) : Marks (l, r) shows :=
  ⟨holds, fun none => absurd ((holds l (by omega)).mpr ⟨Nat.le_refl l, some⟩) (none l (by omega))⟩

theorem edgeCount_marks {p : Nat} (le : p ≤ 1024) :
    Marks (if edgeCount p = 0 then (0, 0) else (0, edgeCount p)) fun x => 1024 * x < 720 * p := by
  unfold edgeCount
  split
  · exact marks_none fun x _ => by omega
  · exact marks_some (by omega) (by omega) fun x _ => by omega

theorem edgeCount_marks_right {p : Nat} (le : p ≤ 1024) :
    Marks (if edgeCount p = 0 then (0, 0) else (720 - edgeCount p, 720)) fun x => 1024 * (719 - x) < 720 * p := by
  unfold edgeCount
  split
  · exact marks_none fun x _ => by omega
  · exact marks_some (by omega) (by omega) fun x _ => by omega

theorem centreEdge_marks {p : Nat} (le : p ≤ 1024) :
    Marks (centreEdge p) fun x => 1024 * (2 * (x : Int) + 1 - 720).natAbs < 720 * p := by
  by_cases zero : p = 0
  · subst zero
    exact marks_none fun x _ => by omega
  · have pair : centreEdge p =
        if ((720 * p - 1) / 1024 + 1) / 2 = 0 then (0, 0)
        else (360 - ((720 * p - 1) / 1024 + 1) / 2, 360 + ((720 * p - 1) / 1024 + 1) / 2) := by
      unfold centreEdge
      dsimp only
      rw [if_neg zero]
    rw [pair]
    split
    · exact marks_none fun x _ => by omega
    · exact marks_some (by omega) (by omega) fun x _ => by omega

/-- A line's edge pair marks the samples of R161. -/
theorem lineEdge_marks {w : Pattern} {lines p y : Nat} (le : p ≤ 1024) : Marks (lineEdge w lines p y) fun x => w.inside lines p x y := by
  unfold lineEdge
  cases w with
  | leftRight => exact edgeCount_marks le
  | rightLeft => exact edgeCount_marks_right le
  | splitH => exact centreEdge_marks le
  | topDown =>
    split
    · rename_i shown
      have inside : 1024 * y < p * lines := by simpa [lineShows] using shown
      exact marks_some (by decide) (Nat.le_refl 720) fun x short => ⟨fun _ => ⟨Nat.zero_le x, short⟩, fun _ => inside⟩
    · rename_i hidden
      exact marks_none fun x _ => by simpa [lineShows, Pattern.inside] using hidden
  | boxOut =>
    split
    · rename_i shown
      have tall : 1024 * (2 * (y : Int) + 1 - lines).natAbs < p * lines := by simpa [lineShows] using shown
      obtain ⟨holds, none⟩ := centreEdge_marks le
      exact ⟨fun x short => (and_iff_left tall).trans (holds x short), fun empty => none fun x short wide => empty x short ⟨wide, tall⟩⟩
    · rename_i hidden
      exact marks_none fun x _ inside => hidden (decide_eq_true inside.2)

/-- The outputs a transition shows at its progress (R160, R161). -/
def Ten.Draws (t : Ten) (p : Preset) (lines : Nat) : Prop :=
  (p.kind = .mix → t.outK = t.progress ∧ t.outD = 0) ∧
  (p.kind = .dip →
    (t.progress < 512 → t.outK = 0 ∧ t.outD = 2 * t.progress) ∧
    (512 ≤ t.progress → t.outK = 1024 ∧ t.outD = 2048 - 2 * t.progress)) ∧
  (p.pattern = none → t.edges = List.replicate lines (0, 0)) ∧
  (∀ w, p.kind = .wipe → p.pattern = some w →
    t.outK = 0 ∧ t.outD = 0 ∧ t.edges.length = lines ∧
      ∀ y l r, t.edges[y]? = some (l, r) →
        (∀ x, x < 720 → (w.inside lines t.progress x y ↔ l ≤ x ∧ x < r)) ∧
          ((∀ x, x < 720 → ¬w.inside lines t.progress x y) → l = 0 ∧ r = 0))

theorem Ten.draws_of_progress {t : Ten} {p : Preset} {lines : Nat} (le : t.progress ≤ 1024)
    (black : t.outK = levelK p.kind t.progress) (dip : t.outD = levelD p.kind t.progress)
    (edges : t.edges = edgeTable p.pattern lines t.progress) : t.Draws p lines := by
  refine ⟨fun mix => ?_, fun kind => ⟨fun early => ?_, fun late => ?_⟩, fun plain => ?_, fun w wipe pattern => ?_⟩
  · rw [black, dip, mix]; exact ⟨rfl, rfl⟩
  · rw [black, dip, kind]; exact ⟨if_pos early, if_pos early⟩
  · rw [black, dip, kind]; exact ⟨if_neg (by omega), if_neg (by omega)⟩
  · rw [edges, plain]; rfl
  · rw [black, dip, wipe, edges, pattern]
    refine ⟨rfl, rfl, by simp [edgeTable], fun y l r at_ => ?_⟩
    have pair : lineEdge w lines t.progress y = (l, r) := by
      simp only [edgeTable, List.getElem?_map, Option.map_eq_some_iff] at at_
      obtain ⟨z, found, same⟩ := at_
      obtain ⟨short, rfl⟩ := List.getElem?_eq_some_iff.mp found
      simpa using same
    have marks := lineEdge_marks (w := w) (lines := lines) (y := y) le
    rw [pair] at marks
    exact marks

/-! ### The steps of a field start (R159, R166 to R168) -/

section
variable {t : Ten} {p : Preset} {lines u : Nat} {present : Bool}

theorem Ten.runStep_running (running : t.state = .running) (held : t.preset = some p) (old : t.fresh = false) :
    t.runStep lines = t.stepTo p lines (t.k + 1) := by
  unfold Ten.runStep
  simp [running, held, old]

theorem Ten.fieldStart_finished (running : t.state = .running) (held : t.preset = some p) (old : t.fresh = false)
    (done : p.finishedAt (t.k + 1) = true) :
    t.fieldStart lines present u = { t.complete p lines with lastLever := some u } := by
  unfold Ten.fieldStart
  rw [Ten.runStep_running running held old, show t.stepTo p lines (t.k + 1) = t.complete p lines from if_pos done]
  rfl

theorem Ten.fieldStart_runs (running : t.state = .running) (held : t.preset = some p) (old : t.fresh = false)
    (more : p.finishedAt (t.k + 1) = false) :
    t.fieldStart lines present u =
      { ({ t with k := t.k + 1 }).withProgress p lines (p.progressAt (t.k + 1)) (p.audioAt (t.k + 1)) with lastLever := some u } := by
  have step : t.stepTo p lines (t.k + 1) =
      ({ t with k := t.k + 1 }).withProgress p lines (p.progressAt (t.k + 1)) (p.audioAt (t.k + 1)) := if_neg (by simp [more])
  have kept (n : Ten) (same : n.state = t.state) (holds : n.preset = t.preset) : n.leverStep lines present u = n := by
    unfold Ten.leverStep
    simp [holds, held, same, running, Ten.picksUp]
  unfold Ten.fieldStart
  rw [Ten.runStep_running running held old, step, kept _ (by rfl) (by rfl)]

theorem Ten.runStep_other (other : t.state ≠ .running) : t.runStep lines = t := by
  unfold Ten.runStep
  split
  · exact absurd ‹_› other
  · rfl

theorem Ten.fieldStart_lever (lever : t.state = .lever) (held : t.preset = some p) :
    t.fieldStart lines present u = { t.judgeLever p lines present u with lastLever := some u } := by
  unfold Ten.fieldStart
  rw [Ten.runStep_other (by rw [lever]; nofun)]
  unfold Ten.leverStep
  rw [held]
  exact congrArg (fun n : Ten => { n with lastLever := some u }) (if_pos lever)

theorem Ten.fieldStart_taken (rests : t.state = .preset ∨ t.state = .paused) (held : t.preset = some p)
    (taken : t.picksUp p present u = true) :
    t.fieldStart lines present u =
      { ({ t with state := .lever } : Ten).judgeLever p lines present u with lastLever := some u } := by
  unfold Ten.fieldStart
  rw [Ten.runStep_other (by obtain h | h := rests <;> simp [h])]
  have step : t.leverStep lines present u = ({ t with state := .lever } : Ten).judgeLever p lines present u := by
    unfold Ten.leverStep
    obtain h | h := rests <;> simp [held, h, taken]
  rw [step]

theorem Ten.fieldStart_stands (rests : t.state = .preset ∨ t.state = .paused) (held : t.preset = some p)
    (left : t.picksUp p present u = false) : t.fieldStart lines present u = { t with lastLever := some u } := by
  unfold Ten.fieldStart
  rw [Ten.runStep_other (by obtain h | h := rests <;> simp [h])]
  have step : t.leverStep lines present u = t := by
    unfold Ten.leverStep
    obtain h | h := rests <;> simp [held, h, left]
  rw [step]

theorem Ten.fieldStart_bSel : (t.fieldStart lines present u).bSel = t.bSel := by
  have judged (n : Ten) (q : Preset) : (n.judgeLever q lines present u).bSel = n.bSel := by
    unfold Ten.judgeLever
    dsimp only
    repeat' split
    all_goals rfl
  have lever (n : Ten) : (n.leverStep lines present u).bSel = n.bSel := by
    unfold Ten.leverStep
    split
    · split
      · exact judged ..
      · split
        · exact judged ..
        · rfl
    · rfl
  have run : (t.runStep lines).bSel = t.bSel := by
    unfold Ten.runStep Ten.stepTo
    repeat' split
    all_goals rfl
  exact (lever _).trans run

/-! ### Pick-up and the lever's judgement -/

theorem Ten.picksUp_iff {from_ : Nat} (rests : t.state = .preset ∨ t.state = .paused) (long : p.fields ≠ 0)
    (starts : from_ = if t.state = .preset then 0 else t.progress) :
    t.picksUp p present u = true ↔
      p.leverAllowed = true ∧ present = true ∧ t.lastLever.isSome = true ∧ t.lastLever ≠ some u ∧
        ((leverPosition t.reversed u : Int) - from_).natAbs ≤ 16 := by
  subst starts
  have rest : (t.state == .preset || t.state == .paused) = true := by obtain h | h := rests <;> rw [h] <;> rfl
  simp only [Ten.picksUp, leverMoved, rest, Bool.and_eq_true, bne_iff_ne, decide_eq_true_eq, true_and, ne_eq, long, not_false_eq_true]
  tauto

end

end Sys2Proof.Machine
end

section
/-! SUPPORT. The cues leave the transition where none starts one, and what a field start makes of the engine (R130, R159). -/

namespace Sys2Proof.Machine

section
variable {s : State}

/-! ### Cues beside the transition (R130, R158) -/

/-- No cue of a list can start the transition: it is not in PRESET, or no cue starts one. -/
def Ten.Shut (t : Ten) (cues : List Cue) : Prop := t.state = .preset → ∀ c ∈ cues, c.action ≠ .transitionStart

theorem State.takeTransition_shut (shut : s.ten.state ≠ .preset) : s.takeTransition.1 = s := by
  unfold State.takeTransition
  split
  · rename_i rests _
    exact absurd rests shut
  all_goals rfl

theorem State.handOver_ten {c : Cue} (shut : s.ten.state = .preset → c.action ≠ .transitionStart) :
    (s.handOver c).1.ten = s.ten := by
  unfold State.handOver
  split
  · exact (s.recordIn_work ..).ten
  · exact s.recordOut_work.ten
  · rename_i starts
    rw [State.takeTransition_shut fun rests => shut rests starts]
  · exact (s.transportStop_work ..).ten
  · exact ((s.cueMotion_work ..).trans (State.settle_work _)).ten
  · exact ((s.cueMotion_work ..).trans (State.settle_work _)).ten
  · exact (s.engageStored_work _).ten
  · exact s.disableChase_work.ten
  · rfl

/-- A cue that fires changes the engine as its action does. -/
theorem State.fireCue_engine {α : Type} (f : Ten → α) (c : Cue) (handed : f (s.handOver c).1.ten = f s.ten) :
    f (s.fireCue c).ten = f s.ten := by
  unfold State.fireCue
  split
  · rw [(s.missCue_work ..).ten]
  · split
    · rw [(s.missCue_work ..).ten]
    · dsimp only
      split
      · rw [(State.missCue_work ..).ten, handed]
      · rw [(State.cueNotice_work ..).ten, handed]

theorem State.judgeCues_ten (l : List Cue) (s : State) (shut : s.ten.Shut l) : (State.judgeCues l s).1.ten = s.ten := by
  induction l generalizing s with
  | nil => rfl
  | cons c cs ih =>
    have rest : s.ten.Shut cs := fun rests x at_ => shut rests x (List.mem_cons_of_mem c at_)
    have next (t : State) (same : t.ten = s.ten) : (State.judgeCues cs t).1.ten = s.ten := (ih t (same ▸ rest)).trans same
    unfold State.judgeCues
    split
    · exact ih s rest
    · exact next _ (State.fireCue_engine id c (State.handOver_ten fun rests => shut rests c List.mem_cons_self))
    · exact next _ (s.missCue_work ..).ten

/-- What every start of a transition leaves of the engine, the cues leave. -/
theorem State.judgeCues_engine {α : Type} (f : Ten → α) (taken : ∀ u : State, f u.takeTransition.1.ten = f u.ten) (l : List Cue)
    (s : State) : f (State.judgeCues l s).1.ten = f s.ten := by
  have handed (c : Cue) (u : State) : f (u.handOver c).1.ten = f u.ten := by
    by_cases starts : c.action = .transitionStart
    · rw [show u.handOver c = u.takeTransition by unfold State.handOver; rw [starts]]
      exact taken u
    · rw [State.handOver_ten fun _ => starts]
  induction l generalizing s with
  | nil => rfl
  | cons c cs ih =>
    unfold State.judgeCues
    split
    · exact ih s
    · exact (ih _).trans (State.fireCue_engine f c (handed c s))
    · exact (ih _).trans (by rw [(s.missCue_work ..).ten])

theorem State.rollDue_ten (n : Count32) (s : State) : (s.rollDue n).ten = s.ten := by
  unfold State.rollDue
  split
  · split
    · exact (State.carryRoll_work ..).ten
    · rfl
  · rfl

theorem State.cueFieldStart_ten (shut : s.ten.Shut s.cul.cues) : s.cueFieldStart.ten = s.ten := by
  have ten := State.rollDue_ten s.ftu.counter { s with cul := { s.cul with pulses := 0 } }
  refine (State.judgeCues_ten _ _ ?_).trans ten
  rw [ten, State.rollDue_cues]
  exact shut

theorem State.cueFieldStart_engine {α : Type} (f : Ten → α) (taken : ∀ u : State, f u.takeTransition.1.ten = f u.ten) :
    f s.cueFieldStart.ten = f s.ten := by
  refine (State.judgeCues_engine f taken _ _).trans ?_
  rw [State.rollDue_ten]

/-- A transition started keeps the B bus and the lever's last reading (R158). -/
theorem State.takeTransition_kept (s : State) :
    (s.takeTransition.1.ten.bSel, s.takeTransition.1.ten.lastLever) = (s.ten.bSel, s.ten.lastLever) := by
  unfold State.takeTransition State.beginTransition
  split
  · dsimp only
    split <;> rfl
  all_goals rfl

/-! ### The engine's own step, in every order of the blocks (R159; notes/assumptions/3.md) -/

/-- What the engine makes of a field start (R159, R166). -/
def State.tenStepped (s : State) : Ten := s.ten.fieldStart s.lineCount s.pins.field.leverPresent s.pins.field.lever.toNat

theorem State.tenStepped_congr {t : State} (ten : t.ten = s.ten) (pins : t.pins = s.pins)
    (config : t.dhd.config = s.dhd.config) : t.tenStepped = s.tenStepped := by
  simp only [State.tenStepped, State.lineCount, State.standard, ten, pins, config]

theorem State.transitionFieldStart_ten (fitted : s.dhd.channelFitted = true) : s.transitionFieldStart = { s with ten := s.tenStepped } :=
  if_pos fitted

theorem State.Course.fitted {t : State} (w : s.Course t) : t.dhd.channelFitted = s.dhd.channelFitted :=
  w.leaves (fun u => u.dhd.channelFitted) (fun _ _ h => h.by.channelFitted) (fun _ _ => rfl) fun _ _ => rfl

/-- The engine's step comes once, whether the other blocks work before it or after it. -/
theorem State.recordCueTransition_ten {P : Ten → Prop} (fitted : s.dhd.channelFitted = true)
    (first : ∀ u : State, u.cul = s.cul → u.ten = s.ten → ∀ n : Ten, n = u.cueFieldStart.ten →
      P (n.fieldStart s.lineCount s.pins.field.leverPresent s.pins.field.lever.toNat))
    (last : ∀ u : State, u.cul = s.cul → u.ten = s.tenStepped → P u.cueFieldStart.ten) : P s.recordCueTransition.ten := by
  have record (p : Prop) [Decidable p] (u : State) : u.Work (if p then u.recordFieldStart else u) := .ite u.recordFieldStart_work .refl
  have record' (p : Prop) [Decidable p] (u : State) : u.Work (if p then u else u.recordFieldStart) := .ite .refl u.recordFieldStart_work
  unfold State.recordCueTransition
  dsimp only
  generalize hu : (if s.order.rccFirst = true then s.recordFieldStart else s) = u
  have work : s.Work u := hu ▸ record _ s
  have ufit : u.dhd.channelFitted = true := work.by.channelFitted.trans fitted
  cases s.order.tenFirst with
  | true =>
    simp only [if_true]
    rw [(record' _ _).ten]
    exact last _ ((congrArg State.cul (State.transitionFieldStart_ten ufit)).trans work.cul)
      ((congrArg State.ten (State.transitionFieldStart_ten ufit)).trans (State.tenStepped_congr work.ten work.pins work.config))
  | false =>
    simp only [Bool.false_eq_true, if_false]
    have after := record' (s.order.rccFirst = true) u.cueFieldStart
    have course : u.Course _ := u.cueFieldStart_course.trans after.course
    rw [State.transitionFieldStart_ten (course.fitted.trans ufit)]
    have lines : (if s.order.rccFirst = true then u.cueFieldStart else u.cueFieldStart.recordFieldStart).lineCount = s.lineCount := by
      obtain ⟨-, -, config, -⟩ := course.stands
      simp only [State.lineCount, State.standard, config, work.config]
    show P (Ten.fieldStart _ _ _ _)
    rw [lines, course.pins, work.pins, after.ten]
    exact first u work.cul work.ten _ rfl

end

end Sys2Proof.Machine
end

section
/-! SUPPORT. The Transition Engine after a field start, in each of its states (R159, R163, R166 to R168). -/

namespace Sys2Proof.Machine

/-- What the engine makes by itself of the lines read at a field start. -/
def State.tenAfter (s : State) (pins : FieldPins) : Ten :=
  ({ s.ten with fresh := false } : Ten).fieldStart s.lineCount pins.leverPresent pins.lever.toNat

section
variable {i : Instr} {pins : FieldPins} {s t : State}

/-- At a field start the engine's step comes among the others' work. -/
theorem exec_engine (gives : givesFieldStart i pins s) (e : exec i s = .next t) (counted : t.ftu.counter = s.ftu.counter + 1)
    (fitted : s.dhd.channelFitted = true) :
    (({ s.ten with fresh := false } : Ten).Shut s.cul.cues → (s.tenAfter pins).Shut s.cul.cues → t.ten = s.tenAfter pins) ∧
      t.ten.bSel = s.ten.bSel ∧ t.ten.lastLever = some pins.lever.toNat := by
  obtain ⟨r, p, m, x, timed, rfl⟩ := exec_givesField gives e counted
  have begun := State.begun_of_timed timed p m x pins
  have worked : (r.fieldStart p m x pins).ten = (r.fieldWorked p m x pins).ten := by
    rw [State.fieldStart_eq, State.announceField_eq]
  rw [worked]
  unfold State.fieldWorked
  have work := (State.transportFieldStart_work (r.fieldBegun p m x pins)).trans (State.chaseFieldStart_work _)
  revert work
  generalize (r.fieldBegun p m x pins).transportFieldStart.chaseFieldStart = v
  intro work
  have ten : v.ten = { s.ten with fresh := false } := work.ten.trans begun.ten
  have cul : v.cul = s.cul := work.cul.trans begun.cul
  have lines : v.lineCount = s.lineCount := by
    simp only [State.lineCount, State.standard, work.config, begun.config]
  have vpins : v.pins.field = pins := by rw [work.pins, begun.pins]
  have vfit : v.dhd.channelFitted = true := (work.by.channelFitted.trans begun.channelFitted).trans fitted
  have stepped : v.tenStepped = s.tenAfter pins := by
    unfold State.tenStepped State.tenAfter
    rw [ten, lines, vpins]
  refine ⟨fun shut shut' => ?_, ?_⟩
  · refine State.recordCueTransition_ten (P := fun n => n = s.tenAfter pins) vfit (fun u ucul uten n cued => ?_) fun u ucul uten => ?_
    · rw [State.cueFieldStart_ten (by rw [uten, ucul, ten, cul]; exact shut), uten, ten] at cued
      rw [cued, lines, vpins]
      rfl
    · rw [State.cueFieldStart_ten (by rw [uten, ucul, stepped, cul]; exact shut'), uten, stepped]
  · have kept (u : State) : u.cueFieldStart.ten.bSel = u.ten.bSel ∧ u.cueFieldStart.ten.lastLever = u.ten.lastLever :=
      Prod.mk.injEq .. ▸ State.cueFieldStart_engine (s := u) (fun n : Ten => (n.bSel, n.lastLever)) State.takeTransition_kept
    refine State.recordCueTransition_ten (P := fun n => n.bSel = s.ten.bSel ∧ n.lastLever = some pins.lever.toNat) vfit
      (fun u ucul uten n cued => ⟨?_, ?_⟩) fun u ucul uten => ?_
    · rw [Ten.fieldStart_bSel, cued, (kept u).1, uten, ten]
    · rw [vpins]; rfl
    · obtain ⟨bSel, lever⟩ := kept u
      have stands : (s.tenAfter pins).bSel = s.ten.bSel := Ten.fieldStart_bSel
      exact ⟨by rw [bSel, uten, stepped, stands], by rw [lever, uten, stepped]; rfl⟩

end

/-! ### What the engine's step makes of each state -/

section
variable {t n : Ten} {p : Preset} {lines u : Nat}

/-- The values at rest, in AT_REST and in PRESET (R155). -/
def Ten.AtRest (t : Ten) (lines : Nat) : Prop :=
  t.progress = 0 ∧ t.audio = 0 ∧ t.outK = 0 ∧ t.outD = 0 ∧ t.gainA = 1024 ∧ t.gainB = 0 ∧ t.edges = List.replicate lines (0, 0)

/-- A lever in hand, judged (R168). -/
def Ten.Judged (t n : Ten) (p : Preset) (lines lever : Nat) : Prop :=
  (lever = 1024 →
    n.state = .atRest ∧ n.preset = none ∧ n.aSel = p.toSource ∧ n.reversed = !t.reversed ∧ n.k = 0 ∧ n.AtRest lines) ∧
  (lever = 0 →
    n.state = .preset ∧ n.preset = some p ∧ n.aSel = t.aSel ∧ n.reversed = t.reversed ∧ n.k = 0 ∧ n.AtRest lines) ∧
  (0 < lever → lever < 1024 →
    n.state = .lever ∧ n.preset = some p ∧ n.progress = lever ∧ n.audio = lever ∧ n.gainB = lever ∧ n.gainA = 1024 - lever ∧
      n.Draws p lines ∧ n.reversed = t.reversed ∧ n.aSel = t.aSel)

/-- A transition drawn at its progress, whatever else of it changes. -/
theorem Ten.withProgress_draws {progress : Nat} (le : progress ≤ 1024)
    (outputs : (n.progress, n.outK, n.outD, n.edges) =
      (progress, levelK p.kind progress, levelD p.kind progress, edgeTable p.pattern lines progress)) : n.Draws p lines := by
  simp only [Prod.mk.injEq] at outputs
  obtain ⟨same, black, dip, edges⟩ := outputs
  subst same
  exact Ten.draws_of_progress le black dip edges

theorem Ten.judgeLever_judged (lever : t.state = .lever) (held : t.preset = some p) (last : Option Nat) :
    t.Judged { t.judgeLever p lines true u with lastLever := last } p lines (leverPosition t.reversed u) := by
  refine ⟨fun far => ?_, fun near => ?_, fun above below => ?_⟩
  · have ends : t.judgeLever p lines true u = { t.complete p lines with reversed := !t.reversed } :=
      if_pos far
    rw [ends]
    exact ⟨rfl, rfl, rfl, rfl, rfl, rfl, rfl, rfl, rfl, rfl, rfl, rfl⟩
  · have back : t.judgeLever p lines true u = t.revert lines :=
      (if_neg (by rw [near]; decide)).trans (if_pos near)
    rw [back]
    exact ⟨rfl, held, rfl, rfl, rfl, rfl, rfl, rfl, rfl, rfl, rfl, rfl⟩
  · have follows : t.judgeLever p lines true u =
        t.withProgress p lines (leverPosition t.reversed u) (leverPosition t.reversed u) :=
      (if_neg (Nat.ne_of_lt below)).trans (if_neg (Nat.ne_of_gt above))
    rw [follows]
    exact ⟨lever, held, rfl, rfl, rfl, rfl, Ten.withProgress_draws (Nat.le_of_lt below) rfl, rfl, rfl⟩

end

end Sys2Proof.Machine

open Sys2Proof Sys2Proof.Machine

/-- Settles O21, by the engine's own step, which comes once among the blocks' work and which no cue of the list undoes. -/
theorem transitionStepsAtFieldStarts : Obligations.TransitionStepsAtFieldStarts := by
  unfold Obligations.TransitionStepsAtFieldStarts
  intro i pins s t p gives e counted fitted held cut long n k u lever lines inside drawn rests stands judged taken
  obtain ⟨engine, bSel, last⟩ := exec_engine gives e counted fitted
  have fields : p.fields = n := if_neg cut
  have closed {m : Ten} (rests : m.state ≠ .preset) : m.Shut s.cul.cues := fun ready => absurd ready rests
  refine ⟨fun running => ?_, fun noStart => ?_, bSel, last⟩
  · cases done : p.finishedAt k with
    | true =>
      have after : s.tenAfter pins = { ({ s.ten with fresh := false } : Ten).complete p lines with lastLever := some u } :=
        Ten.fieldStart_finished running held rfl done
      have ten := engine (closed (by show s.ten.state ≠ _; rw [running]; nofun)) (closed (by rw [after]; nofun))
      rw [after] at ten
      simp only [Preset.finishedAt, fields, Bool.and_eq_true, decide_eq_true_eq] at done
      refine ⟨fun more => absurd done (by omega), fun _ _ => ?_, by rw [ten]; rfl⟩
      rw [show rests = t.ten.AtRest lines from rfl, ten]
      exact ⟨rfl, rfl, rfl, rfl, rfl, rfl, rfl, rfl, rfl, rfl, rfl⟩
    | false =>
      have after : s.tenAfter pins =
          { ({ s.ten with k := k, fresh := false } : Ten).withProgress p lines (p.progressAt k) (p.audioAt k) with
            lastLever := some u } := Ten.fieldStart_runs running held rfl done
      have ten := engine (closed (by show s.ten.state ≠ _; rw [running]; nofun))
        (closed (by rw [after]; show s.ten.state ≠ _; rw [running]; nofun))
      rw [after] at ten
      simp only [Preset.finishedAt, fields, Bool.and_eq_false_iff, decide_eq_false_iff_not] at done
      refine ⟨fun _ => ?_, fun past ends => absurd done (by omega), by rw [ten]; rfl⟩
      rw [show drawn = t.ten.Draws p lines from rfl, ten]
      refine ⟨running, rfl, held, ?_, ?_, rfl, rfl, Ten.withProgress_draws (p.progressAt_le k) rfl, rfl⟩
      · show p.progressAt k = _
        rw [Preset.progressAt, fields]
      · show p.audioAt k = _
        rw [Preset.audioAt, fields]
  · have shut (m : Ten) : m.Shut s.cul.cues := fun _ => noStart
    have ten := engine (shut _) (shut _)
    have read : lever = leverPosition s.ten.reversed u := rfl
    have judges (m : Ten) (same : m = { s.ten with state := .lever, fresh := false })
        (after : s.tenAfter pins = { m.judgeLever p lines true u with lastLever := some u }) : judged := by
      have told := Ten.judgeLever_judged (t := m) (p := p) (lines := lines) (u := u) (by rw [same]) (by rw [same]; exact held) (some u)
      rw [← after, ← ten] at told
      subst same
      exact told
    have picks (from_ : Nat) (rest : s.ten.state = .preset ∨ s.ten.state = .paused)
        (starts : from_ = if s.ten.state = .preset then 0 else s.ten.progress) : (taken from_ → judged) ∧ (¬taken from_ → stands) := by
      have up := Ten.picksUp_iff (t := { s.ten with fresh := false }) (p := p) (u := u) (present := pins.leverPresent) rest
        (by rw [fields]; omega) starts
      refine ⟨fun hand => ?_, fun left => ?_⟩
      · have present : pins.leverPresent = true := hand.2.1
        have after := Ten.fieldStart_taken (t := { s.ten with fresh := false }) (lines := lines) rest held (up.mpr hand)
        rw [present] at after
        exact judges _ rfl (by rw [← after, ← present]; rfl)
      · exact ten.trans (Ten.fieldStart_stands (t := { s.ten with fresh := false }) (lines := lines) rest held
          (Bool.eq_false_iff.mpr fun hand => left (up.mp hand)))
    refine ⟨fun hand => ⟨fun absent => ?_, fun present => ?_⟩, fun ready => picks 0 (.inl ready) (by rw [if_pos ready]),
      fun paused => picks s.ten.progress (.inr paused) (by rw [paused]; rfl)⟩
    · have after : s.tenAfter pins = _ := Ten.fieldStart_lever (t := { s.ten with fresh := false }) hand held
      rw [ten, after, absent]
      show _ = _
      rw [← fields]
      rfl
    · have after : s.tenAfter pins = _ := Ten.fieldStart_lever (t := { s.ten with fresh := false }) hand held
      rw [present] at after
      exact judges { s.ten with fresh := false } (by rw [← hand]) after
end

section
/-! SUPPORT. A field start with no cue and no roll to act: what the record's own step leaves, and the notice it sends (R42, R149). -/

namespace Sys2Proof.Machine

section
variable {s t u : State} {g : Segment} {reason : Code} {recorded : Nat × Option Nat} {pins : FieldPins}

/-! ### A notice through the beginning and the end of a field start (R30, R48) -/

/-- Messages that a field start ages stay as many, or one is dropped. -/
def State.Ages (s u : State) : Prop :=
  s.lif.sending = none →
    u.lif.sending = none ∧ (u.lif.nonAnnouncements = s.lif.nonAnnouncements ∨ u.holdsEvent .txDropped = true)

theorem State.ageTxq_ages (s : State) : s.Ages s.ageTxq := by
  intro quiet
  have sending : s.ageTxq.lif.sending = none := by rw [s.ageTxq_sending, quiet]; rfl
  refine ⟨sending, ?_⟩
  by_cases drops : ((s.lif.waiting.map TxMsg.older).filter fun m => m.isAnn || m.age < 16).length <
      (s.lif.waiting.map TxMsg.older).length
  · refine .inr ?_
    unfold State.ageTxq
    dsimp only
    rw [if_pos drops]
    exact State.holdsEvent_latch ..
  · have all : (s.lif.waiting.map TxMsg.older).filter (fun m => m.isAnn || m.age < 16) = s.lif.waiting.map TxMsg.older :=
      List.filter_sublist.eq_of_length (Nat.le_antisymm List.filter_sublist.length_le (Nat.not_lt.mp drops))
    refine .inl ?_
    unfold Lif.nonAnnouncements
    rw [s.ageTxq_waiting, all, sending, quiet, List.countP_map]
    exact congrArg (· + 0) (List.countP_congr fun m _ => by simp [TxMsg.older_isAnn])

/-- A notice sent after a field is begun is sent from before it. -/
theorem State.Begun.noticed (begun : s.Begun u pins) (ages : s.Ages u) (sent : u.SegmentNoticed t g reason recorded)
    (events : ∀ e, u.holdsEvent e = true → t.holdsEvent e = true) : s.SegmentNoticed t g reason recorded := by
  intro c n config notify
  obtain ⟨joins, drops, sends⟩ := sent c n (begun.config.trans config) notify
  rw [State.isOwn_of_stn begun.stn, State.sourceNumber_of_stn begun.stn, begun.lpt] at joins
  rw [State.isOwn_of_stn begun.stn, begun.lpt] at drops
  rw [State.isOwn_of_stn begun.stn, begun.listenOnly] at sends
  refine ⟨joins, drops, fun other hears => ?_⟩
  obtain ⟨places, full⟩ := sends other hears
  refine ⟨fun few => places (begun.few.trans_lt few), fun many quiet => ?_⟩
  obtain ⟨quiet', same | dropped⟩ := ages quiet
  · exact full (same ▸ many) quiet'
  · exact events _ dropped

/-- The announcement of a field start leaves a notice in its queue. -/
theorem State.SegmentNoticed.announced (sent : s.SegmentNoticed t g reason recorded) :
    s.SegmentNoticed t.announceField g reason recorded := by
  intro c n config notify
  obtain ⟨joins, drops, sends⟩ := sent c n config notify
  have kept (m : TxMsg) (mem : m ∈ t.lif.waiting) (other : m.isAnn = false) : m ∈ t.announceField.lif.waiting :=
    (State.txAnnounce_others t.announcement t).1.subset (List.mem_filter.mpr ⟨mem, by simp [other]⟩)
  rw [State.announceField_eq] at *
  exact ⟨joins, drops, fun other hears => ⟨fun few => kept _ ((sends other hears).1 few) rfl, (sends other hears).2⟩⟩

/-! ### The blocks' work (R42) -/

/-- A command that gives a field start begins a field, and the blocks then work in their order. -/
theorem exec_field {i : Instr} (gives : givesFieldStart i pins s) (e : exec i s = .next t)
    (counted : t.ftu.counter = s.ftu.counter + 1) :
    ∃ u, s.Begun u pins ∧ s.Ages u ∧ t = u.transportFieldStart.chaseFieldStart.recordCueTransition.announceField := by
  obtain ⟨r, p, m, x, timed, rfl⟩ := exec_givesField gives e counted
  refine ⟨_, State.begun_of_timed timed p m x pins, ?_, rfl⟩
  have lif : ((r.markField p m x pins).measureSpeed.agePeers).lif = s.lif := timed.lif
  have ages := State.ageTxq_ages (r.markField p m x pins).measureSpeed.agePeers
  unfold State.Ages at ages
  rw [lif] at ages
  exact ages

/-- With no cue and no roll the segment is judged by itself, beside the cues' outputs and the transition. -/
theorem State.recordCueTransition_noCues (noCues : s.cul.cues = []) (noRoll : s.cul.roll = none) :
    ∃ c n c' n', s.recordCueTransition =
      { ({ s with cul := c, ten := n } : State).recordFieldStart with cul := c', ten := n' } := by
  have cues (v : State) (same : v.cul = s.cul) : v.cueFieldStart = { v with cul := { v.cul with pulses := 0 } } :=
    State.cueFieldStart_alone (same ▸ noCues) (same ▸ noRoll)
  unfold State.recordCueTransition
  dsimp only
  cases s.order.rccFirst <;> cases s.order.tenFirst <;> simp only [if_true, Bool.false_eq_true, if_false]
  · rw [cues s rfl]
    obtain ⟨n, hn⟩ := State.transitionFieldStart_eq ({ s with cul := { s.cul with pulses := 0 } } : State).recordFieldStart
    exact ⟨_, s.ten, _, n, hn⟩
  · obtain ⟨n, hn⟩ := s.transitionFieldStart_eq
    rw [hn, cues { s with ten := n } rfl]
    exact ⟨_, n, _, _, rfl⟩
  · rw [cues s.recordFieldStart s.recordFieldStart_work.cul]
    obtain ⟨n, hn⟩ := State.transitionFieldStart_eq
      { s.recordFieldStart with cul := { s.recordFieldStart.cul with pulses := 0 } }
    exact ⟨s.cul, s.ten, _, n, hn⟩
  · obtain ⟨n, hn⟩ := s.recordFieldStart.transitionFieldStart_eq
    rw [hn, cues { s.recordFieldStart with ten := n } s.recordFieldStart_work.cul]
    exact ⟨s.cul, s.ten, _, n, rfl⟩

/-- What stands of a state through the announcement, whatever becomes of the cues' outputs and the transition. -/
structure State.Closes (w t : State) : Prop where
  tsq : t.tsq = w.tsq
  csv : t.csv = w.csv
  rcc : t.rcc = w.rcc
  dhd : t.dhd = w.dhd
  psu : t.psu = w.psu
  ptb : t.ptb = w.ptb
  ftu : t.ftu = w.ftu
  noticed : ∀ {v : State} {g : Segment} {reason : Code} {recorded : Nat × Option Nat},
    v.SegmentNoticed w g reason recorded → v.SegmentNoticed t g reason recorded

theorem State.announceField_closes (c : Cul) (n : Ten) (w : State) : w.Closes ({ w with cul := c, ten := n } : State).announceField := by
  have shape := State.announceField_eq { w with cul := c, ten := n }
  have told {v : State} {g : Segment} {reason : Code} {recorded : Nat × Option Nat}
      (sent : v.SegmentNoticed w g reason recorded) :
      v.SegmentNoticed ({ w with cul := c, ten := n } : State).announceField g reason recorded :=
    State.SegmentNoticed.announced (t := { w with cul := c, ten := n }) sent
  constructor
  case noticed => exact told
  all_goals rw [shape]

/-- A field start with no cue and no roll: the field begun, the transport's and the chase's work, then the segment's. -/
theorem exec_segment {i : Instr} (gives : givesFieldStart i pins s) (e : exec i s = .next t)
    (counted : t.ftu.counter = s.ftu.counter + 1) (noCues : s.cul.cues = []) (noRoll : s.cul.roll = none) :
    ∃ u, s.Begun u pins ∧ s.Ages u ∧ ∃ c n,
      ({ u.transportFieldStart.chaseFieldStart with cul := c, ten := n } : State).recordFieldStart.Closes t := by
  obtain ⟨u, begun, ages, rfl⟩ := exec_field gives e counted
  have work := u.transportFieldStart_work.trans (State.chaseFieldStart_work _)
  have cul : u.transportFieldStart.chaseFieldStart.cul = s.cul := work.cul.trans begun.cul
  obtain ⟨c, n, c', n', eq⟩ := State.recordCueTransition_noCues (s := u.transportFieldStart.chaseFieldStart)
    (by rw [cul]; exact noCues) (by rw [cul]; exact noRoll)
  refine ⟨u, begun, ages, c, n, ?_⟩
  rw [eq]
  exact State.announceField_closes c' n' _

end

end Sys2Proof.Machine
end

section
/-! SUPPORT. The deck and the chase at a field start beside a segment: a request that leaves the messages, and the segment left alone
(R83, R84, R100, R112 to R118). -/

namespace Sys2Proof.Machine

section
variable {s t : State} {c : Settings}

/-! ### A segment that is not RECORDING stands through the chase's work -/

/-- The record of a segment that is not RECORDING stands. -/
structure State.LeavesSegment (s t : State) : Prop where
  rcc : s.rcc.state ≠ .recording → t.rcc = s.rcc

theorem State.LeavesSegment.refl (s : State) : s.LeavesSegment s := ⟨fun _ => rfl⟩

theorem State.LeavesSegment.trans {s t u : State} (h : s.LeavesSegment t) (k : t.LeavesSegment u) : s.LeavesSegment u :=
  ⟨fun idle => (k.rcc (by rw [h.rcc idle]; exact idle)).trans (h.rcc idle)⟩

theorem State.DeckFrame.leavesSegment (deck : s.DeckFrame t) : s.LeavesSegment t := ⟨fun _ => deck.rcc⟩

theorem State.emergencyOut_idle (reason : Code) (drives : Bool) (idle : s.rcc.state ≠ .recording) :
    s.emergencyOut reason drives = s := by
  unfold State.emergencyOut
  split
  · rename_i recording _
    exact absurd recording idle
  · rfl

theorem State.emergencyOut_leavesSegment (reason : Code) (drives : Bool) (s : State) : s.LeavesSegment (s.emergencyOut reason drives) :=
  ⟨fun idle => by rw [State.emergencyOut_idle reason drives idle]⟩

theorem State.leaveLock_leavesSegment (s : State) : s.LeavesSegment s.leaveLock := by
  unfold State.leaveLock
  split
  · exact ⟨(State.emergencyOut_leavesSegment .lockLost false (s.latch .lockLost)).rcc⟩
  · exact .refl s

theorem State.stopPulling_leavesSegment (r : ChaseRecord) (s : State) : s.LeavesSegment (s.stopPulling r) := by
  unfold State.stopPulling
  split
  · exact (s.csv_deck _).leavesSegment.trans (State.chaseRequest_deck ..).leavesSegment
  · exact ⟨((s.csv_deck _).leavesSegment.trans (State.chaseRequest_deck ..).leavesSegment).rcc⟩

theorem State.pullStep_leavesSegment (r : ChaseRecord) (s : State) : s.LeavesSegment (s.pullStep r) := by
  unfold State.pullStep
  split
  · exact State.stopPulling_leavesSegment r s
  · exact (s.csv_deck _).leavesSegment

theorem State.chaseCounts_leavesSegment (r : ChaseRecord) (e : Int) (s : State) : s.LeavesSegment (s.chaseCounts r e) := by
  unfold State.chaseCounts
  split
  · unfold State.lockStep
    split
    · exact (s.csv_deck _).leavesSegment.trans (State.pullStep_leavesSegment ..)
    · split
      · exact (s.csv_deck _).leavesSegment
      · exact (s.csv_deck _).leavesSegment.trans (State.pullStep_leavesSegment ..)
  · unfold State.blankStep
    split
    · split
      · exact ⟨(State.emergencyOut_leavesSegment .lockLost true (State.latch .lockLost { s with csv := _ })).rcc⟩
      · exact (s.csv_deck _).leavesSegment
    · exact (s.csv_deck _).leavesSegment
  all_goals exact .refl s

theorem State.chaseServo_leavesSegment (std : Standard) (r : ChaseRecord) (m e : Int) (s : State) :
    s.LeavesSegment (s.chaseServo std r m e) := by
  have leaves : s.LeavesSegment
      (if chooseState s.csv.state (masterMoving m) e.natAbs std.seekThreshold = .locked then s else s.leaveLock) := by
    split
    · exact .refl s
    · exact s.leaveLock_leavesSegment
  exact (leaves.trans (State.csv_deck _ _).leavesSegment).trans (State.chaseLaw_deck ..).leavesSegment

theorem State.chaseStep_leavesSegment (std : Standard) (r : ChaseRecord) (m e : Int) (s : State) :
    s.LeavesSegment (s.chaseStep std r m e) := by
  unfold State.chaseStep
  split
  · split
    · exact (s.csv_deck _).leavesSegment.trans (State.chaseLaw_deck ..).leavesSegment
    · exact (s.csv_deck _).leavesSegment
  · exact (State.chaseServo_leavesSegment ..).trans (State.chaseCounts_leavesSegment ..)

theorem State.chaseFieldStart_leavesSegment (s : State) : s.LeavesSegment s.chaseFieldStart := by
  unfold State.chaseFieldStart
  split
  · exact .refl s
  · exact .refl s
  · exact .refl s
  · split
    · exact ((s.leaveLock_leavesSegment.trans (State.csv_deck _ _).leavesSegment).trans (State.chaseRequest_deck ..).leavesSegment).trans
        (State.settle_deck _).leavesSegment
    · exact ((s.csv_deck _).leavesSegment.trans (State.chaseStep_leavesSegment ..)).trans (State.settle_deck _).leavesSegment

/-! ### The transport with nothing to wait for (R84, R86) -/

/-- A transport with no wait, no recovery, nothing held and a sound deck only counts the fault afresh at a field start. -/
theorem State.transportFieldStart_settled (hc : s.dhd.config = some c) (fitted : s.dhd.transportFitted = true)
    (reads : s.readsFault) (moves : s.tsq.state ≠ .cueing) (sound : s.pins.field.deckFault = false) (quiet : s.tsq.wait = none)
    (well : s.tsq.recovery = .idle) (empty : s.tsq.slot = none) : s.transportFieldStart = s.counted 0 := by
  have waited : s.afterWait c = s.counted 0 := by
    rw [State.afterWait_counted (State.faultStep_clear reads sound), State.recoveryStep_waits (by
      intro n
      show s.tsq.recovery ≠ _
      rw [well]
      nofun)]
    exact State.waitStep_none (by exact quiet)
  rw [State.transportFieldStart_plain hc fitted (.inl moves), waited]
  unfold State.slotStep
  rw [show (s.counted 0).tsq.slot = none from empty]

/-! ### A request of a deck that neither cues nor ejects -/

/-- Nothing that waits for a request on this deck has a message to send: it does not cue, and no recovery is tried. -/
structure State.Apart (s : State) : Prop where
  state : s.tsq.state ≠ .cueing
  recovery : s.tsq.recovery ≠ .recoveryWait

/-- What a request leaves of the station where nothing that waits has a message to send. -/
structure State.Drove (m : ReqMode) (s t : State) : Prop where
  mute : s.Mute t
  state : t.tsq.state = s.tsq.state
  recovery : t.tsq.recovery = s.tsq.recovery
  slot : t.tsq.slot = s.tsq.slot
  standing : t.tsq.standing = s.tsq.standing
  mode : t.tsq.reqMode = m

theorem State.matchPending_apart (state : s.tsq.state ≠ .cueing) (mode : s.tsq.reqMode ≠ .eject) :
    ∃ o, s.matchPending = s.setPending o := by
  have same : ∃ o, s = s.setPending o := ⟨s.tsq.pendingOp, rfl⟩
  unfold State.matchPending
  split
  · exact same
  · split
    · exact ⟨none, rfl⟩
    · rw [if_neg mode]
      exact same
    all_goals
      rw [if_neg fun h => state h.1]
      exact same

theorem State.Apart.onMatched (apart : s.Apart) (mode : s.tsq.reqMode ≠ .eject) : State.Drove s.tsq.reqMode s s.onMatched := by
  obtain ⟨o, pending⟩ := State.matchPending_apart (s := s.met) apart.state mode
  have eq : s.onMatched = (s.met.setPending o).matchFollow := by
    unfold State.onMatched
    rw [State.matchRecovery_other (by exact apart.recovery)]
    exact congrArg State.matchFollow pending
  have tsq := (s.met.setPending o).matchFollow_tsq
  rw [eq]
  have first : s.Mute (s.met.setPending o) := ⟨rfl, rfl, rfl⟩
  exact ⟨first.trans (State.matchFollow_mute _), by rw [tsq]; rfl, by rw [tsq]; rfl, by rw [tsq]; rfl, by rw [tsq]; rfl, by rw [tsq]; rfl⟩

theorem State.Apart.drive {m : ReqMode} (apart : s.Apart) (eject : m ≠ .eject) (speed : Int) (track : BitVec 5) :
    State.Drove m s (s.drive m speed track) := by
  by_cases same : s.tsq.reqMode = m
  · by_cases met : s.tsq.matched = true
    · rw [State.drive_met same met]
      obtain ⟨⟨h1, h2, h3⟩, h4, h5, h6, h7, h8⟩ := State.Apart.onMatched
        (s := { s with tsq := { s.tsq with reqSpeed := s.askedSpeed m speed } }) ⟨apart.state, apart.recovery⟩ (by rw [← same] at eject; exact eject)
      exact ⟨⟨h1, h2, h3⟩, h4, h5, h6, h7, h8.trans same⟩
    · rw [State.drive_again same (Bool.eq_false_iff.mpr met)]
      exact ⟨⟨rfl, rfl, rfl⟩, rfl, rfl, rfl, rfl, same⟩
  · by_cases seen : Tally.mode s.pins.tally = some m
    · rw [State.drive_shown same seen]
      obtain ⟨⟨h1, h2, h3⟩, h4, h5, h6, h7, h8⟩ := State.Apart.onMatched (s := s.asked m speed track) ⟨apart.state, apart.recovery⟩
        (by exact eject)
      exact ⟨⟨h1, h2, h3⟩, h4, h5, h6, h7, h8⟩
    · rw [State.drive_asks same seen]
      exact ⟨⟨rfl, rfl, rfl⟩, rfl, rfl, rfl, rfl, rfl⟩

/-- The mode a chase's request asks for. -/
def ChaseReq.mode : ChaseReq → ReqMode
  | .still => .still
  | .var _ => .var

theorem State.Apart.driveStanding (apart : s.Apart) : State.Drove s.tsq.standing.mode s s.driveStanding := by
  unfold State.driveStanding
  split
  · rename_i standing
    rw [standing]
    exact apart.drive (m := .still) nofun 0 0
  · rename_i v standing
    rw [standing]
    exact apart.drive (m := .var) nofun v 0

/-- A chase's request on a deck whose segment is not RECORDING. -/
theorem State.Apart.chaseRequest (apart : s.Apart) (idle : s.rcc.state ≠ .recording) (q : ChaseReq) :
    (s.chaseRequest q).tsq.state = s.tsq.state ∧ (s.chaseRequest q).tsq.slot = s.tsq.slot ∧
      (s.chaseRequest q).tsq.reqMode = q.mode ∧ (s.chaseRequest q).rcc = s.rcc := by
  have eq : s.chaseRequest q = (s.standingAs q).driveStanding := by
    cases q with
    | still => exact State.chaseRequest_still idle
    | var v => exact State.chaseRequest_var idle
  have drove := State.Apart.driveStanding (s := s.standingAs q) ⟨apart.state, apart.recovery⟩
  exact ⟨by rw [eq, drove.state]; rfl, by rw [eq, drove.slot]; rfl, by rw [eq, drove.mode]; rfl, (State.chaseRequest_deck ..).rcc⟩

/-- A chase's request while the segment is RECORDING stands, and changes the speed alone (R82, R100). -/
theorem State.chaseRequest_var_recording (recording : s.rcc.state = .recording) (v : Int) :
    s.chaseRequest (.var v) = { s with tsq := { s.tsq with standing := .var v, reqSpeed := s.clampSpeed v } } := by
  unfold State.chaseRequest
  simp only [recording]
  rfl

end

end Sys2Proof.Machine
end

section
/-! SUPPORT. How a segment ends on a recorder with nothing else to report, and how a chase leaves LOCKED under it (R110, R112, R116,
R146 to R150). -/

namespace Sys2Proof.Machine

/-- The segment record after an end (R150). -/
structure Settings.Gone (c : Settings) (k : Rcc) : Prop where
  record : k.record = none
  state : k.state = if c.turnaround = 0 then .idle else .gap
  gapCount : k.gapCount = 2 * c.turnaround
  fresh : k.fresh = true

/-- A segment ended by emergency out with a code, a last recorded frame and a remaining (R147 to R150). -/
structure State.EndedOut (c : Settings) (g : Segment) (code : Code) (last : Nat) (left : Option Nat) (s t : State) : Prop where
  gone : c.Gone t.rcc
  zones : t.rcc.zones = s.rcc.zones
  aborted : t.holdsEvent .segmentAborted = true
  sense : t.dhd.sense = some
    { code := code, origin := .cue g.origin, address := some last, nextFrame := some ((last + 1) % c.standard.framesPerDay),
      remaining := left }
  noticed : s.SegmentNoticed t g code (last, left)

section
variable {s t u : State} {c : Settings} {g x : Segment} {code : Code} {last : Nat} {left : Option Nat} {drives : Bool}

theorem State.EndedOut.later (cut : State.EndedOut c g code last left s t) (rcc : u.rcc = t.rcc) (sense : u.dhd.sense = t.dhd.sense)
    (by_ : t.Bystanders u) : State.EndedOut c g code last left s u :=
  ⟨rcc ▸ cut.gone, by rw [rcc]; exact cut.zones, by_.events _ cut.aborted, sense.trans cut.sense, cut.noticed.later by_⟩

theorem State.EndedOut.of_room (cut : State.EndedOut c g code last left t u) (room : s.Room t) (zones : t.rcc.zones = s.rcc.zones) :
    State.EndedOut c g code last left s u :=
  ⟨cut.gone, cut.zones.trans zones, cut.aborted, cut.sense, .of_room room cut.noticed⟩

/-! ### The ending mode (R146) -/

theorem State.Apart.endingMode_mute (apart : s.Apart) : s.Mute s.driveEndingMode := by
  unfold State.driveEndingMode
  split
  · exact (s.tsq_mute _).trans (State.Apart.drive (s := s.setTransport .playing) ⟨nofun, apart.recovery⟩ (m := .play) nofun 0 0).mute
  · exact apart.driveStanding.mute
  · exact .refl s

theorem State.Apart.endsFree (apart : s.Apart) (recording : s.tsq.state = .recording) :
    s.driveEndingMode.tsq.state = .playing ∧ s.driveEndingMode.tsq.reqMode = .play ∧ s.driveEndingMode.tsq.slot = s.tsq.slot ∧
      s.driveEndingMode.csv = s.csv := by
  have eq : s.driveEndingMode = (s.setTransport .playing).drive .play 0 0 := by
    unfold State.driveEndingMode
    rw [recording]
  have drove := State.Apart.drive (s := s.setTransport .playing) ⟨nofun, apart.recovery⟩ (m := .play) nofun 0 0
  rw [eq]
  exact ⟨drove.state, drove.mode, drove.slot, State.drive_csv (s := s.setTransport .playing) (.inr nofun)⟩

theorem State.Apart.endsChased (apart : s.Apart) (chasing : s.tsq.state = .chasing) :
    s.driveEndingMode.tsq.state = .chasing ∧ s.driveEndingMode.tsq.reqMode = s.tsq.standing.mode ∧
      s.driveEndingMode.tsq.slot = s.tsq.slot := by
  have eq : s.driveEndingMode = s.driveStanding := by
    unfold State.driveEndingMode
    rw [chasing]
  have drove := apart.driveStanding
  rw [eq]
  exact ⟨drove.state.trans chasing, drove.mode, drove.slot⟩

/-! ### The two ends -/

theorem State.enterGap_gone (hc : s.dhd.config = some c) : c.Gone s.enterGap.rcc := by
  have fields : s.gapFields = 2 * c.turnaround := by simp [State.gapFields, hc]
  refine ⟨rfl, ?_, fields, rfl⟩
  show (if s.gapFields = 0 then SegState.idle else .gap) = _
  rw [fields]
  by_cases gapless : c.turnaround = 0 <;> simp [gapless]

/-- An end's notice and gap, told of the state whose messages it finds. -/
theorem State.noticeGap_ends (hc : s.dhd.config = some c) (inFrame : x.inFrame = g.inFrame) (notify : x.notify = g.notify) :
    c.Gone (s.segmentNotice x code).enterGap.rcc ∧ (s.segmentNotice x code).enterGap.rcc.zones = s.rcc.zones ∧
      s.SegmentNoticed (s.segmentNotice x code).enterGap g code (x.lastFrame, x.remaining) ∧
      (s.segmentNotice x code).enterGap.tsq = s.tsq ∧ (s.segmentNotice x code).enterGap.csv = s.csv ∧
      (s.segmentNotice x code).enterGap.dhd.sense = s.dhd.sense := by
  have frame := s.segmentNotice_frame x code
  refine ⟨State.enterGap_gone (frame.config.trans hc), ?_, (State.segmentNotice_noticed inFrame notify).later (State.enterGap_work _).by,
    frame.tsq, frame.csv, (State.segmentNotice_paced ..).sense⟩
  show (s.segmentNotice x code).rcc.zones = _
  rw [frame.rcc]

theorem State.abortSegmentAt_cut (hc : s.dhd.config = some c) (origin : x.origin = g.origin) (inFrame : x.inFrame = g.inFrame)
    (notify : x.notify = g.notify) (mute : drives = true → s.Mute s.driveEndingMode) :
    State.EndedOut c g code x.lastFrame x.remaining s (s.abortSegmentAt x code drives) ∧
      (s.abortSegmentAt x code drives).tsq = (if drives = true then s.driveEndingMode else s).tsq ∧
      (s.abortSegmentAt x code drives).csv = (if drives = true then s.driveEndingMode else s).csv := by
  unfold State.abortSegmentAt
  have driven : s.Mute (if drives = true then s.driveEndingMode else s) ∧
      (if drives = true then s.driveEndingMode else s).rcc = s.rcc := by
    split
    · exact ⟨mute (by assumption), s.driveEndingMode_rcc⟩
    · exact ⟨.refl s, rfl⟩
  obtain ⟨quiet, rcc⟩ := driven
  generalize (if drives = true then s.driveEndingMode else s) = v at quiet rcc
  obtain ⟨h1, h2, h3, h4, h5, h6⟩ := quiet.room
  have room : s.Room ((v.writeSense (x.senseRecord s.dayFrames code)).latch .segmentAborted) := ⟨h1, h2, h3, h4, h5, h6⟩
  have config : ((v.writeSense (x.senseRecord s.dayFrames code)).latch .segmentAborted).dhd.config = some c := h2.trans hc
  obtain ⟨gone, zones, noticed, tsq, csv, sense⟩ := State.noticeGap_ends (code := code) config inFrame notify
  have days : s.dayFrames = c.standard.framesPerDay := by simp [State.dayFrames, State.standard_of_config hc]
  refine ⟨⟨gone, zones.trans (congrArg Rcc.zones rcc), ?_, ?_, .of_room room noticed⟩, tsq, csv⟩
  · exact (State.segmentNotice_frame ..).events _ (State.holdsEvent_latch ..)
  · refine sense.trans (congrArg some ?_)
    unfold Segment.senseRecord
    rw [days, origin, frameAdd_one]

theorem State.atOwnFrame_origin (s : State) (g : Segment) : (s.atOwnFrame g).origin = g.origin := by
  unfold State.atOwnFrame
  split <;> rfl

/-- An emergency out of a RECORDING segment, told in full. -/
theorem State.emergencyOut_cut (recording : s.rcc.state = .recording) (held : s.rcc.record = some g) (hc : s.dhd.config = some c)
    (mute : drives = true → s.Mute s.driveEndingMode) :
    State.EndedOut c g code (s.recordedTo g).1 (s.recordedTo g).2 s (s.emergencyOut code drives) ∧
      (s.emergencyOut code drives).tsq = (if drives = true then s.driveEndingMode else s).tsq ∧
      (s.emergencyOut code drives).csv = (if drives = true then s.driveEndingMode else s).csv := by
  obtain ⟨inFrame, notify⟩ := s.atOwnFrame_fixed g
  rw [State.emergencyOut_recording recording held, ← s.atOwnFrame_recorded g]
  exact State.abortSegmentAt_cut hc (s.atOwnFrame_origin g) inFrame notify mute

/-- A normal end, told in full: no record is written (R146). -/
theorem State.endNormally_ends (hc : s.dhd.config = some c) (inFrame : x.inFrame = g.inFrame) (notify : x.notify = g.notify)
    (apart : s.Apart) :
    c.Gone (s.endNormally x).rcc ∧ (s.endNormally x).rcc.zones = s.rcc.zones ∧
      s.SegmentNoticed (s.endNormally x) g .done (x.lastFrame, x.remaining) ∧ (s.endNormally x).tsq = s.driveEndingMode.tsq ∧
      (s.endNormally x).csv = s.driveEndingMode.csv ∧ (s.endNormally x).dhd.sense = s.dhd.sense := by
  have mute := apart.endingMode_mute
  obtain ⟨gone, zones, noticed, tsq, csv, sense⟩ := State.noticeGap_ends (code := .done) (s := s.driveEndingMode) (c := c)
    (by rw [mute.dhd]; exact hc) inFrame notify
  exact ⟨gone, zones.trans (congrArg Rcc.zones s.driveEndingMode_rcc), .of_room mute.room noticed, tsq, csv,
    sense.trans (by rw [mute.dhd])⟩

/-! ### A recording chase at a field start (R110, R112, R116) -/

/-- The chase leaves LOCKED and its segment ends. -/
structure State.LeftLock (c : Settings) (g : Segment) (s t : State) : Prop where
  state : t.csv.state ≠ .locked
  cut : State.EndedOut c g .lockLost (s.recordedTo g).1 (s.recordedTo g).2 s t
  lost : t.holdsEvent .lockLost = true
  chasing : t.tsq.state = .chasing
  mode : t.tsq.reqMode ≠ .record

/-- A chase under a segment RECORDING, with nothing held. -/
structure State.Chases (c : Settings) (g : Segment) (s : State) : Prop where
  config : s.dhd.config = some c
  chasing : s.tsq.state = .chasing
  mode : s.tsq.reqMode = .record
  locked : s.csv.state = .locked
  recording : s.rcc.state = .recording
  held : s.rcc.record = some g
  empty : s.tsq.slot = none
  recovery : s.tsq.recovery = .idle

theorem State.Chases.apart (h : s.Chases c g) : s.Apart := ⟨by rw [h.chasing]; nofun, by rw [h.recovery]; nofun⟩

theorem State.Chases.leaves (h : s.Chases c g) :
    State.EndedOut c g .lockLost (s.recordedTo g).1 (s.recordedTo g).2 s s.leaveLock ∧ s.leaveLock.tsq = s.tsq ∧
      s.leaveLock.holdsEvent .lockLost = true := by
  have latched : s.Room (s.latch .lockLost) := ⟨rfl, rfl, rfl, rfl, le_rfl, fun quiet => ⟨quiet, rfl⟩⟩
  obtain ⟨cut, -, -⟩ := State.emergencyOut_cut (s := s.latch .lockLost) (code := .lockLost) (drives := false) h.recording h.held h.config
    nofun
  have lost := (State.emergencyOut_by .lockLost false (s.latch .lockLost)).events .lockLost (State.holdsEvent_latch ..)
  rw [← State.leaveLock_locked h.locked] at cut lost
  exact ⟨cut.of_room latched rfl, s.leaveLock_undriven.1, lost⟩

theorem Settings.Gone.idle {k : Rcc} (gone : c.Gone k) : k.state ≠ .recording := by
  rw [gone.state]
  split <;> nofun

/-- LOCKED left for another state, whose request comes after the segment's end. -/
theorem State.Chases.goes (h : s.Chases c g) (k : Csv) (other : k.state ≠ .locked) (q : ChaseReq) :
    State.LeftLock c g s (({ s.leaveLock with csv := k } : State).chaseRequest q).settle := by
  obtain ⟨cut, tsq, lost⟩ := h.leaves
  have apart : ({ s.leaveLock with csv := k } : State).Apart := by
    constructor
    · show s.leaveLock.tsq.state ≠ _
      rw [tsq]
      exact h.apart.state
    · show s.leaveLock.tsq.recovery ≠ _
      rw [tsq]
      exact h.apart.recovery
  obtain ⟨state, slot, mode, rcc⟩ := apart.chaseRequest cut.gone.idle q
  have paced := State.chaseRequest_paced q { s.leaveLock with csv := k }
  have later : s.leaveLock.Bystanders (({ s.leaveLock with csv := k } : State).chaseRequest q) :=
    (State.csv_by k _).trans (State.chaseRequest_by ..)
  rw [State.settle_none (slot.trans (by show s.leaveLock.tsq.slot = none; rw [tsq]; exact h.empty))]
  refine ⟨paced.state ▸ other, cut.later rcc (paced.sense.trans rfl) later, later.events _ lost, ?_, ?_⟩
  · rw [state]
    show s.leaveLock.tsq.state = _
    rw [tsq]
    exact h.chasing
  · rw [mode]
    cases q <;> nofun

end

end Sys2Proof.Machine
end

section
/-! SUPPORT. A recording chase and its segment at a field start, judged (R110 to R116, R143 to R147). -/

namespace Sys2Proof.Machine

section
variable {s t : State} {c : Settings} {g : Segment} {r : ChaseRecord}

/-! ### The chase (R110 to R116) -/

theorem State.chaseFieldStart_eq (active : s.csv.state ≠ .off) (sound : s.csv.state ≠ .failed) (stored : s.csv.record = some r) :
    s.chaseFieldStart =
      match s.chaseAim r with
      | none => s.chaseWaits.settle
      | some (std, target, e) => ((s.setTarget target).chaseStep std r (s.view r.master).speed e).settle := by
  unfold State.chaseFieldStart
  split
  · exact absurd ‹_› active
  · exact absurd ‹_› sound
  · exact absurd (stored.symm.trans ‹s.csv.record = none›) nofun
  · rename_i r' held _ _
    cases stored.symm.trans held
    rfl

theorem State.Chases.targeted (h : s.Chases c g) (x : Nat) : (s.setTarget x).Chases c g :=
  ⟨h.config, h.chasing, h.mode, h.locked, h.recording, h.held, h.empty, h.recovery⟩

theorem State.LeftLock.of_target {x : Nat} (left : State.LeftLock c g (s.setTarget x) t) : State.LeftLock c g s t :=
  ⟨left.state, left.cut.of_room ⟨rfl, rfl, rfl, rfl, le_rfl, fun quiet => ⟨quiet, rfl⟩⟩ rfl, left.lost, left.chasing, left.mode⟩

/-- The master at rest: FOLLOW_STILL, whose approach asks for STILL or VAR afresh. -/
theorem State.Chases.follows (h : s.Chases c g) {std : Standard} {m e : Int} (rests : masterMoving m = false) :
    State.LeftLock c g s (s.chaseStep std r m e).settle := by
  have servo : ∃ q, s.chaseServo std r m e = ({ s.leaveLock with csv := s.leaveLock.csv.enter .followStill } : State).chaseRequest q := by
    obtain ⟨tsq, csv⟩ := s.leaveLock_undriven
    have eq : s.chaseServo std r m e = ({ s.leaveLock with csv := s.leaveLock.csv.enter .followStill } : State).followApproach e := by
      unfold State.chaseServo chooseState
      rw [rests]
      simp only [Bool.false_eq_true, if_false, reduceCtorEq]
      unfold State.chaseLaw State.followLaw
      simp only [Csv.enter, csv, h.locked, reduceCtorEq, if_false]
    rw [eq]
    unfold State.followApproach
    rw [if_neg (by
      rintro ⟨still, -⟩
      have mode : s.leaveLock.tsq.reqMode = .record := by rw [tsq]; exact h.mode
      exact nomatch mode.symm.trans still)]
    split
    · exact ⟨_, rfl⟩
    · exact ⟨_, rfl⟩
  obtain ⟨q, eq⟩ := servo
  have step : s.chaseStep std r m e = s.chaseServo std r m e := by
    unfold State.chaseStep
    rw [if_neg (by rw [h.locked]; nofun)]
    unfold State.chaseCounts
    have state : (s.chaseServo std r m e).csv.state = .followStill := by
      rw [eq, (State.chaseRequest_paced ..).state]
      rfl
    rw [state]
  rw [step, eq]
  exact h.goes _ (by nofun) q

/-- The chase holds LOCKED: its speed is asked for within RECORD, and its blanking run counted. -/
structure State.StaysLocked (s t : State) : Prop where
  csv : t.csv.state = .locked
  shape : ∃ k v q, t = { s with csv := k, tsq := { s.tsq with standing := .var v, reqSpeed := q } }

/-- The master moving: LOCKED holds, or is lost by the blanking run. -/
theorem State.Chases.runs (h : s.Chases c g) {std : Standard} {m e : Int} (moves : masterMoving m = true) :
    State.LeftLock c g s (s.chaseStep std r m e).settle ∨ s.StaysLocked (s.chaseStep std r m e).settle := by
  have servo : s.chaseServo std r m e = { s with tsq := { s.tsq with
      standing := .var (pullSpeedWord r.pullSpeed m e), reqSpeed := s.clampSpeed (pullSpeedWord r.pullSpeed m e) } } := by
    have entered : s.csv.enter .locked = s.csv := by
      show { s.csv with state := ChaseState.locked } = s.csv
      rw [← h.locked]
    unfold State.chaseServo chooseState
    rw [moves, h.locked]
    simp only [if_true, entered]
    unfold State.chaseLaw
    rw [show ({ s with csv := s.csv } : State).csv.state = .locked from h.locked]
    exact State.chaseRequest_var_recording (s := s) h.recording _
  have step : s.chaseStep std r m e = (s.chaseServo std r m e).blankStep r e := by
    unfold State.chaseStep
    rw [if_neg (by rw [h.locked]; nofun)]
    unfold State.chaseCounts
    rw [show (s.chaseServo std r m e).csv.state = .locked by rw [servo]; exact h.locked]
  rw [step]
  unfold State.blankStep
  split
  · split
    · left
      rw [servo]
      let v : State := State.latch .lockLost { s with
        csv := { s.csv with state := .pulling, blankRun := 0, lockRun := 0, pullTimer := 0 }
        tsq := { s.tsq with standing := .var (pullSpeedWord r.pullSpeed m e), reqSpeed := s.clampSpeed (pullSpeedWord r.pullSpeed m e) } }
      have apart : v.Apart := ⟨h.apart.state, h.apart.recovery⟩
      obtain ⟨cut, tsq, csv⟩ := State.emergencyOut_cut (s := v) (code := .lockLost) (drives := true) h.recording h.held h.config
        fun _ => apart.endingMode_mute
      obtain ⟨state, mode, slot⟩ := apart.endsChased h.chasing
      have lost := (State.emergencyOut_by .lockLost true v).events .lockLost (State.holdsEvent_latch ..)
      show State.LeftLock c g s (v.emergencyOut .lockLost true).settle
      rw [State.settle_none (by rw [tsq]; exact slot.trans h.empty)]
      refine ⟨?_, cut.of_room ⟨rfl, rfl, rfl, rfl, le_rfl, fun quiet => ⟨quiet, rfl⟩⟩ rfl, lost, by rw [tsq]; exact state,
        by rw [tsq, if_pos rfl, mode]; nofun⟩
      rw [csv, if_pos rfl, (State.driveEndingMode_paced v).state]
      nofun
    · right
      rw [servo, State.settle_none (by exact h.empty)]
      exact ⟨h.locked, _, _, _, rfl⟩
  · right
    rw [servo, State.settle_none (by exact h.empty)]
    exact ⟨h.locked, _, _, _, rfl⟩

theorem State.Chases.fieldStart (h : s.Chases c g) (stored : s.csv.record = some r) :
    State.LeftLock c g s s.chaseFieldStart ∨ s.StaysLocked s.chaseFieldStart := by
  rw [State.chaseFieldStart_eq (by rw [h.locked]; nofun) (by rw [h.locked]; nofun) stored]
  split
  · exact .inl (h.goes _ (by nofun) .still)
  · rename_i std target e _
    cases moving : masterMoving (s.view r.master).speed with
    | false => exact .inl ((h.targeted target).follows moving).of_target
    | true =>
      obtain left | ⟨locked, k, v, q, shape⟩ := (h.targeted target).runs moving
      · exact .inl left.of_target
      · exact .inr ⟨locked, k, v, q, shape⟩

/-! ### The segment (R143 to R145) -/

theorem State.recordFieldStart_fresh (fresh : s.rcc.fresh = true) : s.recordFieldStart = s := if_pos fresh

theorem State.recordFieldStart_judges (old : s.rcc.fresh = false) (recording : s.rcc.state = .recording) (held : s.rcc.record = some g) :
    s.recordFieldStart = s.segmentStep g := by
  unfold State.recordFieldStart
  rw [if_neg (by simp [old]), recording, held]

theorem State.recordFieldStart_gap (old : s.rcc.fresh = false) (gap : s.rcc.state = .gap) :
    s.recordFieldStart.rcc =
      if s.rcc.gapCount ≤ 1 then { s.rcc with state := .idle, gapCount := 0 } else { s.rcc with gapCount := s.rcc.gapCount - 1 } := by
  unfold State.recordFieldStart
  rw [if_neg (by simp [old]), gap]
  dsimp only
  split <;> rfl

theorem State.segmentStep_zone {z : Zone} (ahead : s.zoneAhead = some z) :
    s.segmentStep g =
      (s.abortSegmentAt (g.atFrame s.dayFrames (frameAdd s.dayFrames (frameOf z.start) (-1))) .isProtected true).settle := by
  unfold State.segmentStep
  rw [ahead]

theorem State.segmentStep_ends {e : Nat} (clear : s.zoneAhead = none) (ends : s.endReached g = some e) :
    s.segmentStep g = (s.endNormally { g with lastFrame := frameAdd s.dayFrames e (-1), remaining := some 0 }).settle := by
  unfold State.segmentStep
  rw [clear]
  dsimp only
  rw [ends]

theorem State.segmentStep_fails {code : Code} (clear : s.zoneAhead = none) (more : s.endReached g = none)
    (fails : s.guardFails g = some code) : s.segmentStep g = (s.abortSegmentAt (s.atOwnFrame g) code true).settle := by
  unfold State.segmentStep
  rw [clear]
  dsimp only
  rw [more]
  dsimp only
  rw [fails]

theorem State.segmentStep_goes (clear : s.zoneAhead = none) (more : s.endReached g = none) (sound : s.guardFails g = none) :
    s.segmentStep g = { s with rcc := { s.rcc with record := some (s.atOwnFrame g) } } := by
  unfold State.segmentStep
  rw [clear]
  dsimp only
  rw [more]
  dsimp only
  rw [sound]

end

end Sys2Proof.Machine
end

section
/-! SUPPORT. What a field start reads of a segment: the zones, its planned end and its guard (R140, R144, R145). -/

namespace Sys2Proof.Machine

section
variable {s : State} {c : Settings} {g : Segment} {x : Nat}

/-! ### Frames (R140) -/

theorem frameAdd_natCast (w a d : Nat) : frameAdd w a d = (a + d) % w := by
  unfold frameAdd
  rw [← Int.natCast_add, ← Int.natCast_emod, Int.toNat_natCast]

theorem frameAdd_mod (w a : Nat) (n : Int) : frameAdd w (a % w) n = (((a : Int) + n) % (w : Int)).toNat := by
  unfold frameAdd
  rw [Int.natCast_emod, Int.emod_add_emod]

/-- The remaining of a segment by its last recorded frame (R140). -/
theorem Segment.remainingAt_eq (g : Segment) (w last : Nat) :
    g.remainingAt w last = g.duration.map fun d => d - (((last : Int) + 1 - g.inFrame) % (w : Int)).toNat := by
  unfold Segment.remainingAt
  congr 1
  funext d
  rw [frameAdd_one, frameAdd_mod]
  rfl

/-! ### Zones ahead (R144) -/

/-- The own position, or the place 128 fine units ahead of it, lies in a zone. -/
def Zone.Near (c : Settings) (x : Nat) (z : Zone) : Prop :=
  (z.start ≤ x ∧ x < z.stop) ∨
    (z.start ≤ wrapDay c.standard.day ((x : Int) + 128) ∧ wrapDay c.standard.day ((x : Int) + 128) < z.stop)

theorem State.ahead_eq (hc : s.dhd.config = some c) (x : Nat) : s.ahead x = wrapDay c.standard.day ((x : Int) + 128) := by
  simp [State.ahead, State.dayLength, State.standard_of_config hc]

theorem State.zoneAhead_eq (hc : s.dhd.config = some c) (own : s.own = some x) [DecidablePred (Zone.Near c x)] :
    s.zoneAhead = s.rcc.zones.find? fun z => decide (Zone.Near c x z) := by
  unfold State.zoneAhead
  rw [own]
  dsimp only
  congr 1
  funext z
  rw [Bool.eq_iff_iff, decide_eq_true_eq, State.ahead_eq hc]
  simp [Zone.contains, Zone.Near]

theorem State.zoneAhead_first (hc : s.dhd.config = some c) (own : s.own = some x) {before after : List Zone} {z : Zone}
    (zones : s.rcc.zones = before ++ z :: after) (near : z.Near c x) (first : ∀ y ∈ before, ¬y.Near c x) : s.zoneAhead = some z := by
  classical
  rw [State.zoneAhead_eq hc own, List.find?_eq_some_iff_append]
  exact ⟨decide_eq_true near, before, after, zones, fun y at_ => by simp [first y at_]⟩

theorem State.zoneAhead_none (hc : s.dhd.config = some c) (own : s.own = some x) (clear : ∀ z ∈ s.rcc.zones, ¬z.Near c x) :
    s.zoneAhead = none := by
  classical
  rw [State.zoneAhead_eq hc own, List.find?_eq_none]
  exact fun z at_ => by simp [clear z at_]

/-! ### The planned end (R143) -/

theorem State.endReached_reached (hc : s.dhd.config = some c) (own : s.own = some x) {d : Nat} (planned : g.duration = some d)
    (past : 0 ≤ diff c.standard.day x ((g.inFrame + d) % c.standard.framesPerDay * 256)) :
    s.endReached g = some ((g.inFrame + d) % c.standard.framesPerDay) := by
  unfold State.endReached
  rw [planned, State.standard_of_config hc, own]
  dsimp only
  rw [frameAdd_natCast, if_pos past]

theorem State.endReached_not (hc : s.dhd.config = some c) (own : s.own = some x)
    (short : ∀ d, g.duration = some d → diff c.standard.day x ((g.inFrame + d) % c.standard.framesPerDay * 256) < 0) :
    s.endReached g = none := by
  unfold State.endReached
  split
  · rename_i d std x' planned standard known
    cases (State.standard_of_config hc).symm.trans standard
    cases own.symm.trans known
    dsimp only
    rw [frameAdd_natCast, if_neg (Int.not_le.mpr (short d planned))]
  · rfl

/-! ### The guard (R145) -/

/-- A lock-list entry that fails no guard: the own chase, or a fresh peer that is LOCKED. -/
def State.Sound (s : State) (n : Nat) : Prop := n = 0 ∨ ((s.view n).presence = .fresh ∧ (s.view n).chaseSummary = 2)

theorem State.peerFails_sound {n : Nat} (sound : s.Sound n) : s.peerFails n = none := by
  unfold State.peerFails
  obtain own | ⟨fresh, locked⟩ := sound
  · rw [if_pos own]
  · simp [fresh, locked]

theorem State.peerFails_unsound {n : Nat} (bad : ¬s.Sound n) :
    s.peerFails n = some (if (s.view n).presence = .fresh then .notLocked else .refStale) := by
  obtain ⟨peer, fails⟩ := not_or.mp bad
  unfold State.peerFails
  rw [if_neg peer]
  by_cases fresh : (s.view n).presence = .fresh
  · rw [if_neg (by simp [fresh]), if_pos fun locked => fails ⟨fresh, locked⟩, if_pos fresh]
  · rw [if_pos fresh, if_neg fresh]

theorem State.guardFails_strict (strict : g.guardKind = .strict) :
    s.guardFails g =
      if s.ftu.refState = .fallback then some .noReference
      else if s.psu.source ≠ .code then some .codeLost
      else g.lockList.findSome? s.peerFails := by
  unfold State.guardFails
  rw [strict]

theorem State.guardFails_first (strict : g.guardKind = .strict) (held : s.ftu.refState = .lockedRef) (code : s.psu.source = .code)
    {before after : List Nat} {n : Nat} (list : g.lockList = before ++ n :: after) (first : ∀ m ∈ before, s.Sound m) (bad : ¬s.Sound n) :
    s.guardFails g = some (if (s.view n).presence = .fresh then .notLocked else .refStale) := by
  have quiet : before.findSome? s.peerFails = none := List.findSome?_eq_none_iff.mpr fun m at_ => State.peerFails_sound (first m at_)
  rw [State.guardFails_strict strict, if_neg (by rw [held]; nofun), if_neg (by simp [code]), list, List.findSome?_append, quiet,
    List.findSome?_cons, State.peerFails_unsound bad]
  rfl

theorem State.guardFails_none
    (sound : g.guardKind = .lenient ∨
      ((s.ftu.refState = .lockedRef ∧ s.psu.source = .code) ∧ ∀ n ∈ g.lockList, s.Sound n)) : s.guardFails g = none := by
  obtain lenient | ⟨⟨held, code⟩, all⟩ := sound
  · unfold State.guardFails
    rw [lenient]
  · cases kind : g.guardKind with
    | lenient =>
      unfold State.guardFails
      rw [kind]
    | strict =>
      rw [State.guardFails_strict kind, if_neg (by rw [held]; nofun), if_neg (by simp [code])]
      exact List.findSome?_eq_none_iff.mpr fun m at_ => State.peerFails_sound (all m at_)

end

end Sys2Proof.Machine
end

section
/-! SUPPORT. A recorder's field start, whole: the field begun, the chase held or lost, the segment judged (R110, R143 to R150). -/

namespace Sys2Proof.Machine

/-- A field begun at a settled recorder, up to the chase's work (R42, R86). -/
structure State.FieldBegins (c : Settings) (s v : State) : Prop where
  tsq : v.tsq = { s.tsq with faultCount := 0 }
  csv : v.csv = s.csv
  rcc : v.rcc = { s.rcc with fresh := false }
  config : v.dhd.config = some c
  own : v.own = s.own
  source : v.psu.source = s.psu.source
  sense : v.dhd.sense = s.dhd.sense
  told : ∀ {y : State} {g : Segment} {reason : Code} {recorded : Nat × Option Nat},
    (∀ e, v.holdsEvent e = true → y.holdsEvent e = true) → v.SegmentNoticed y g reason recorded →
      s.SegmentNoticed y g reason recorded

section
variable {i : Instr} {pins : FieldPins} {s t v w y : State} {c : Settings} {g x : Segment} {code : Code} {last : Nat}
  {left : Option Nat}

theorem exec_recorder (gives : givesFieldStart i pins s) (e : exec i s = .next t) (counted : t.ftu.counter = s.ftu.counter + 1)
    (noCues : s.cul.cues = []) (noRoll : s.cul.roll = none) (hc : s.dhd.config = some c) (fitted : s.dhd.transportFitted = true)
    (works : s.tsq.state = .recording ∨ s.tsq.state = .chasing) (quiet : s.tsq.wait = none) (well : s.tsq.recovery = .idle)
    (empty : s.tsq.slot = none) (sound : pins.deckFault = false) :
    ∃ v, s.FieldBegins c v ∧ ∃ k n, ({ v.chaseFieldStart with cul := k, ten := n } : State).recordFieldStart.Closes t := by
  obtain ⟨u, begun, ages, k, n, closes⟩ := exec_segment gives e counted noCues noRoll
  have state : u.tsq.state = .recording ∨ u.tsq.state = .chasing := by rw [begun.tsq]; exact works
  have settled : u.transportFieldStart = u.counted 0 :=
    State.transportFieldStart_settled (begun.config.trans hc) (begun.transportFitted.trans fitted)
      (by obtain h | h := state <;> exact ⟨by rw [h]; nofun, by rw [h]; nofun⟩) (by obtain h | h := state <;> rw [h] <;> nofun)
      (by rw [begun.pins]; exact sound) (by rw [begun.tsq]; exact quiet) (by rw [begun.tsq]; exact well)
      (by rw [begun.tsq]; exact empty)
  rw [settled] at closes
  refine ⟨u.counted 0, ⟨?_, begun.csv, begun.rcc, begun.config.trans hc, begun.own, begun.source, begun.sense, fun events sent => ?_⟩, k, n, closes⟩
  · show { u.tsq with faultCount := 0 } = _
    rw [begun.tsq]
  · exact begun.noticed ages sent events

/-! ### The judgement on a recorder that the chase has left recording -/

/-- The recorder as its segment is judged: all but the deck and the chase stands as the field began. -/
structure State.Recorder (v w : State) : Prop where
  rcc : w.rcc = v.rcc
  dhd : w.dhd = v.dhd
  lif : w.lif = v.lif
  lpt : w.lpt = v.lpt
  psu : w.psu = v.psu
  slot : w.tsq.slot = none
  apart : w.Apart

theorem State.Recorder.room (h : v.Recorder w) : v.Room w := by
  refine ⟨by rw [h.dhd], by rw [h.dhd], by rw [h.lif], by rw [h.lpt], by rw [h.lif], fun quiet => ?_⟩
  rw [h.lif]
  exact ⟨quiet, rfl⟩

theorem State.Apart.endingMode_slot (apart : s.Apart) : s.driveEndingMode.tsq.slot = s.tsq.slot := by
  unfold State.driveEndingMode
  split
  · exact (State.Apart.drive (s := s.setTransport .playing) ⟨nofun, apart.recovery⟩ (m := .play) nofun 0 0).slot
  · exact apart.driveStanding.slot
  · rfl

theorem State.Recorder.aborts (h : v.Recorder w) (hc : v.dhd.config = some c) (origin : x.origin = g.origin)
    (inFrame : x.inFrame = g.inFrame) (notify : x.notify = g.notify) :
    State.EndedOut c g code x.lastFrame x.remaining v (w.abortSegmentAt x code true).settle ∧
      (w.abortSegmentAt x code true).settle.tsq = w.driveEndingMode.tsq ∧
      (w.abortSegmentAt x code true).settle.csv = w.driveEndingMode.csv := by
  obtain ⟨cut, tsq, csv⟩ := State.abortSegmentAt_cut (code := code) (drives := true) (s := w) (by rw [h.dhd]; exact hc) origin inFrame
    notify fun _ => h.apart.endingMode_mute
  rw [State.settle_none (by rw [tsq, if_pos rfl, h.apart.endingMode_slot]; exact h.slot)]
  exact ⟨cut.of_room h.room (by rw [h.rcc]), tsq, csv⟩

theorem State.Recorder.ends (h : v.Recorder w) (hc : v.dhd.config = some c) (inFrame : x.inFrame = g.inFrame)
    (notify : x.notify = g.notify) :
    c.Gone (w.endNormally x).settle.rcc ∧ v.SegmentNoticed (w.endNormally x).settle g .done (x.lastFrame, x.remaining) ∧
      (w.endNormally x).settle.tsq = w.driveEndingMode.tsq ∧ (w.endNormally x).settle.csv = w.driveEndingMode.csv ∧
      (w.endNormally x).settle.dhd.sense = v.dhd.sense := by
  obtain ⟨gone, -, noticed, tsq, csv, sense⟩ := State.endNormally_ends (s := w) (by rw [h.dhd]; exact hc) inFrame notify h.apart
  rw [State.settle_none (by rw [tsq, h.apart.endingMode_slot]; exact h.slot)]
  exact ⟨gone, .of_room h.room noticed, tsq, csv, sense.trans (by rw [h.dhd])⟩

theorem State.recordedTo_at (hc : s.dhd.config = some c) {p : Nat} (own : s.own = some p) (g : Segment) :
    s.recordedTo g = (p / 256,
      g.duration.map fun d => d - (((p / 256 : Nat) + 1 - g.inFrame : Int) % (c.standard.framesPerDay : Int)).toNat) := by
  simp [State.recordedTo, hc, own]

/-- A recorder that does not chase is judged as its field began. -/
theorem State.recorder_free (k : Cul) (n : Ten) (empty : v.tsq.slot = none) (apart : v.Apart) :
    v.Recorder { v with cul := k, ten := n } :=
  ⟨rfl, rfl, rfl, rfl, rfl, empty, apart.state, apart.recovery⟩

/-- A recorder whose chase stays LOCKED. -/
theorem State.StaysLocked.recorder (stays : v.StaysLocked w) (chases : v.Chases c g) (k : Cul) (n : Ten) :
    v.Recorder { w with cul := k, ten := n } ∧ w.tsq.state = .chasing ∧ w.tsq.standing.mode = .var := by
  obtain ⟨-, csv, p, q, rfl⟩ := stays
  exact ⟨⟨rfl, rfl, rfl, rfl, rfl, chases.empty, chases.apart.state, chases.apart.recovery⟩, chases.chasing, rfl⟩

/-- The chase keeps what the ending mode leaves of it, or all. -/
theorem State.segmentStep_csv (apart : s.Apart) (empty : s.tsq.slot = none) :
    (s.segmentStep g).csv = s.driveEndingMode.csv ∨ (s.segmentStep g).csv = s.csv := by
  have released (u : State) (tsq : u.tsq = s.driveEndingMode.tsq) (csv : u.csv = s.driveEndingMode.csv) :
      u.settle.csv = s.driveEndingMode.csv := by
    rw [State.settle_none (by rw [tsq, apart.endingMode_slot]; exact empty), csv]
  have aborted (x : Segment) (reason : Code) : (s.abortSegmentAt x reason true).settle.csv = s.driveEndingMode.csv :=
    released _ (State.segmentNotice_frame ..).tsq (State.segmentNotice_frame ..).csv
  unfold State.segmentStep
  dsimp only
  split
  · exact .inl (aborted ..)
  · split
    · exact .inl (released _ (State.segmentNotice_frame ..).tsq (State.segmentNotice_frame ..).csv)
    · split
      · exact .inl (aborted ..)
      · exact .inr rfl

theorem State.segmentStep_state (apart : s.Apart) (empty : s.tsq.slot = none) : (s.segmentStep g).csv.state = s.csv.state := by
  obtain same | same := State.segmentStep_csv (g := g) apart empty
  · rw [same]
    exact s.driveEndingMode_paced.state
  · rw [same]

/-- What the closing of a field start keeps of an end. -/
theorem State.EndedOut.closes (cut : State.EndedOut c g code last left v y) (begins : s.FieldBegins c v)
    (events : ∀ e, v.holdsEvent e = true → y.holdsEvent e = true) (closes : y.Closes t) :
    c.Gone t.rcc ∧ t.holdsEvent .segmentAborted = true ∧
      t.dhd.sense = some
        { code := code, origin := .cue g.origin, address := some last, nextFrame := some ((last + 1) % c.standard.framesPerDay),
          remaining := left } ∧
      s.SegmentNoticed t g code (last, left) :=
  ⟨by rw [closes.rcc]; exact cut.gone, by unfold State.holdsEvent; rw [closes.dhd]; exact cut.aborted,
    by rw [closes.dhd]; exact cut.sense, closes.noticed (begins.told events cut.noticed)⟩

/-- A recorder whose chase is OFF, and one whose chase is LOCKED. -/
abbrev State.FreeRecorder (s : State) : Prop := s.tsq.state = .recording ∧ s.csv.state = .off

abbrev State.ChasedRecorder (s : State) : Prop :=
  s.tsq.state = .chasing ∧ s.tsq.reqMode = .record ∧ s.csv.state = .locked ∧ s.csv.record.isSome = true

theorem State.FieldBegins.chases (begins : s.FieldBegins c v) (chased : s.ChasedRecorder) (recording : s.rcc.state = .recording)
    (record : s.rcc.record = some g) (well : s.tsq.recovery = .idle) (empty : s.tsq.slot = none) : v.Chases c g := by
  obtain ⟨chasing, mode, locked, -⟩ := chased
  exact ⟨begins.config, by rw [begins.tsq]; exact chasing, by rw [begins.tsq]; exact mode, by rw [begins.csv]; exact locked,
    by rw [begins.rcc]; exact recording, by rw [begins.rcc]; exact record, by rw [begins.tsq]; exact empty,
    by rw [begins.tsq]; exact well⟩

/-- A recorder `m` that comes to its segment's judgement at the field start that leads from `s` to `t`, begun as `v`. -/
structure State.Judged (c : Settings) (g : Segment) (s v m t : State) : Prop where
  begins : s.FieldBegins c v
  recorder : v.Recorder m
  free : s.FreeRecorder → m.tsq.state = .recording ∧ m.csv = s.csv
  chased : s.ChasedRecorder → m.tsq.state = .chasing ∧ m.tsq.standing.mode = .var
  rcc : m.rcc = { s.rcc with fresh := false }
  config : m.dhd.config = some c
  own : m.own = s.own
  source : m.psu.source = s.psu.source
  views : ∀ n, m.view n = t.view n
  timing : m.ftu = t.ftu
  zones : t.rcc.zones = s.rcc.zones
  events : ∀ e, v.holdsEvent e = true → (m.segmentStep g).holdsEvent e = true
  closes : (m.segmentStep g).Closes t

theorem State.Judged.of_recorder (begins : s.FieldBegins c v) (recorder : v.Recorder w) (recording : s.rcc.state = .recording)
    (record : s.rcc.record = some g) (closes : w.recordFieldStart.Closes t)
    (free : s.FreeRecorder → w.tsq.state = .recording ∧ w.csv = s.csv)
    (chased : s.ChasedRecorder → w.tsq.state = .chasing ∧ w.tsq.standing.mode = .var) : State.Judged c g s v w t := by
  have rcc : w.rcc = { s.rcc with fresh := false } := recorder.rcc.trans begins.rcc
  have work := w.recordFieldStart_work
  have step : w.recordFieldStart = w.segmentStep g :=
    State.recordFieldStart_judges (by rw [rcc]) (by rw [rcc]; exact recording) (by rw [rcc]; exact record)
  refine ⟨begins, recorder, free, chased, rcc, by rw [recorder.dhd]; exact begins.config, ?_,
    by rw [recorder.psu]; exact begins.source, fun n => ?_, by rw [closes.ftu, work.by.ftu],
    by rw [closes.rcc, work.zones, rcc], fun e h => ?_, step ▸ closes⟩
  · rw [← begins.own]
    unfold State.own
    rw [recorder.psu, recorder.dhd]
  · unfold State.view
    rw [closes.ptb, work.by.ptb]
  · rw [← step]
    refine work.by.events e ?_
    unfold State.holdsEvent at h ⊢
    rw [recorder.dhd]
    exact h

theorem exec_judged (gives : givesFieldStart i pins s) (e : exec i s = .next t) (counted : t.ftu.counter = s.ftu.counter + 1)
    (noCues : s.cul.cues = []) (noRoll : s.cul.roll = none) (hc : s.dhd.config = some c) (fitted : s.dhd.transportFitted = true)
    (recording : s.rcc.state = .recording) (record : s.rcc.record = some g) (quiet : s.tsq.wait = none)
    (well : s.tsq.recovery = .idle) (empty : s.tsq.slot = none) (sound : pins.deckFault = false)
    (mode : s.FreeRecorder ∨ (s.ChasedRecorder ∧ t.csv.state = .locked)) : ∃ v m, State.Judged c g s v m t := by
  have works : s.tsq.state = .recording ∨ s.tsq.state = .chasing := mode.imp (fun h => h.1) fun h => h.1.1
  obtain ⟨v, begins, k, n, closes⟩ := exec_recorder gives e counted noCues noRoll hc fitted works quiet well empty sound
  obtain fr | ⟨ch, locked⟩ := mode
  · rw [State.chaseFieldStart_off (by rw [begins.csv]; exact fr.2)] at closes
    have apart : v.Apart := ⟨by rw [begins.tsq]; show s.tsq.state ≠ _; rw [fr.1]; nofun,
      by rw [begins.tsq]; show s.tsq.recovery ≠ _; rw [well]; nofun⟩
    exact ⟨v, _, .of_recorder begins (State.recorder_free k n (by rw [begins.tsq]; exact empty) apart) recording record closes
      (fun _ => ⟨(congrArg Tsq.state begins.tsq).trans fr.1, begins.csv⟩) fun ch => nomatch fr.1.symm.trans ch.1⟩
  · obtain ⟨r, stored⟩ := Option.isSome_iff_exists.mp ch.2.2.2
    have chases := begins.chases ch recording record well empty
    obtain left | stays := chases.fieldStart (r := r) (by rw [begins.csv]; exact stored)
    · rw [State.recordFieldStart_fresh (by exact left.cut.gone.fresh)] at closes
      exact absurd (closes.csv ▸ locked) left.state
    · obtain ⟨recorder, chasing, var⟩ := stays.recorder chases k n
      exact ⟨v, _, .of_recorder begins recorder recording record closes (fun fr => nomatch fr.1.symm.trans ch.1)
        fun _ => ⟨chasing, var⟩⟩

/-- The chase that leaves LOCKED at a field start leaves its segment ended (R110, R147). -/
theorem exec_leavesLock (gives : givesFieldStart i pins s) (e : exec i s = .next t) (counted : t.ftu.counter = s.ftu.counter + 1)
    (noCues : s.cul.cues = []) (noRoll : s.cul.roll = none) (hc : s.dhd.config = some c) (fitted : s.dhd.transportFitted = true)
    (recording : s.rcc.state = .recording) (record : s.rcc.record = some g) (quiet : s.tsq.wait = none)
    (well : s.tsq.recovery = .idle) (empty : s.tsq.slot = none) (sound : pins.deckFault = false) (ch : s.ChasedRecorder)
    (other : t.csv.state ≠ .locked) :
    ∃ v y, s.FieldBegins c v ∧ y.Closes t ∧ State.LeftLock c g v y ∧ ∀ e, v.holdsEvent e = true → y.holdsEvent e = true := by
  obtain ⟨v, begins, k, n, closes⟩ := exec_recorder gives e counted noCues noRoll hc fitted (.inr ch.1) quiet well empty sound
  obtain ⟨r, stored⟩ := Option.isSome_iff_exists.mp ch.2.2.2
  have chases := begins.chases ch recording record well empty
  obtain ⟨state, cut, lost, chasing, request⟩ | stays := chases.fieldStart (r := r) (by rw [begins.csv]; exact stored)
  · rw [State.recordFieldStart_fresh (by exact cut.gone.fresh)] at closes
    exact ⟨v, _, begins, closes, ⟨state, ⟨cut.gone, cut.zones, cut.aborted, cut.sense, cut.noticed⟩, lost, chasing, request⟩,
      (State.chaseFieldStart_work v).by.events⟩
  · obtain ⟨recorder, -⟩ := stays.recorder chases k n
    rw [State.recordFieldStart_judges (g := g) (by rw [recorder.rcc, begins.rcc]) (by rw [recorder.rcc, begins.rcc]; exact recording)
      (by rw [recorder.rcc, begins.rcc]; exact record)] at closes
    refine absurd ?_ other
    rw [closes.csv, State.segmentStep_state recorder.apart recorder.slot]
    exact stays.csv

end

end Sys2Proof.Machine

open Sys2Proof Sys2Proof.Machine

/-- Settles O23, by the segment's judgement on the recorder the chase leaves it: LOCKED lost, or the zones, the planned end and the
guard in their order. -/
theorem segmentIsJudgedAtFieldStarts : Obligations.SegmentIsJudgedAtFieldStarts := by
  unfold Obligations.SegmentIsJudgedAtFieldStarts
  intro i pins s t gives e counted noCues noRoll
  refine ⟨fun gap => ?_, ?_⟩
  · obtain ⟨u, begun, -, k, n, closes⟩ := exec_segment gives e counted noCues noRoll
    have idle : u.rcc.state ≠ .recording := by rw [begun.rcc]; show s.rcc.state ≠ _; rw [gap]; nofun
    have first := u.transportFieldStart_rests.rcc idle
    have rcc := ((State.chaseFieldStart_leavesSegment _).rcc (by rw [first]; exact idle)).trans (first.trans begun.rcc)
    have shown : t.rcc = if s.rcc.gapCount ≤ 1 then { s.rcc with state := .idle, gapCount := 0, fresh := false }
        else { s.rcc with gapCount := s.rcc.gapCount - 1, fresh := false } := by
      have judged := State.recordFieldStart_gap (s := { u.transportFieldStart.chaseFieldStart with cul := k, ten := n })
        (by exact congrArg Rcc.fresh rcc) (by exact (congrArg Rcc.state rcc).trans gap)
      rw [closes.rcc, judged, show ({ u.transportFieldStart.chaseFieldStart with cul := k, ten := n } : State).rcc = _ from rcc]
    exact ⟨fun ends => by rw [shown, if_pos ends], fun more => by rw [shown, if_neg (by omega)]⟩
  · intro c g x hc fitted recording record own quiet well empty sound w ahead near remaining free chased gone ended cutOut aborted
      isSound held
    have cuts {v y : State} {code : Code} {last : Nat} {left : Option Nat} (begins : s.FieldBegins c v)
        (cut : State.EndedOut c g code last left v y) (events : ∀ e, v.holdsEvent e = true → y.holdsEvent e = true)
        (closes : y.Closes t) (same : left = remaining last) : cutOut code last := by
      obtain ⟨⟨h1, h2, h3, -⟩, h4, h5, h6⟩ := cut.closes begins events closes
      subst same
      exact ⟨⟨h1, h2, h3⟩, h4, h5, h6⟩
    refine ⟨fun ch other => ?_, fun mode => ?_⟩
    · obtain ⟨v, y, begins, closes, ⟨-, cut, lost, chasing, request⟩, events⟩ :=
        exec_leavesLock gives e counted noCues noRoll hc fitted recording record quiet well empty sound ch other
      rw [State.recordedTo_at begins.config (begins.own.trans own) g] at cut
      exact ⟨cuts begins cut events closes rfl, by unfold State.holdsEvent; rw [closes.dhd]; exact lost,
        by rw [closes.tsq]; exact chasing, by rw [closes.tsq]; exact request⟩
    · obtain ⟨v, m, begins, recorder, freed, chasing, rcc, config, known, source, views, timing, zones, events, closes⟩ :=
        exec_judged gives e counted noCues noRoll hc fitted recording record quiet well empty sound mode
      have tape : m.own = some x := known.trans own
      have days : m.dayFrames = w := by simp [State.dayFrames, State.standard_of_config config, w]
      have driven {y : State} (closed : y.Closes t) (tsq : y.tsq = m.driveEndingMode.tsq) :
          (free → t.tsq.state = .playing ∧ t.tsq.reqMode = .play) ∧ (chased → t.tsq.state = .chasing ∧ t.tsq.reqMode = .var) := by
        rw [closed.tsq, tsq]
        refine ⟨fun fr => ?_, fun ch => ?_⟩
        · obtain ⟨state, play, -⟩ := recorder.apart.endsFree (freed fr).1
          exact ⟨state, play⟩
        · obtain ⟨state, request, -⟩ := recorder.apart.endsChased (chasing ch).1
          exact ⟨state, request.trans (chasing ch).2⟩
      have aborts {seg : Segment} {code : Code} (eq : m.segmentStep g = (m.abortSegmentAt seg code true).settle)
          (origin : seg.origin = g.origin) (inFrame : seg.inFrame = g.inFrame) (notify : seg.notify = g.notify)
          (left : seg.remaining = remaining seg.lastFrame) : aborted code seg.lastFrame := by
        rw [eq] at closes events
        obtain ⟨cut, tsq, -⟩ := recorder.aborts (code := code) begins.config origin inFrame notify
        have out := cuts begins cut events closes left
        exact ⟨⟨out.1, driven closes tsq⟩, out⟩
      have here : (m.atOwnFrame g).lastFrame = x / 256 ∧ (m.atOwnFrame g).remaining = remaining (x / 256) := by
        have recorded := m.atOwnFrame_recorded g
        rw [State.recordedTo_at config tape] at recorded
        exact ⟨congrArg Prod.fst recorded, congrArg Prod.snd recorded⟩
      obtain ⟨inFrame, notify⟩ := m.atOwnFrame_fixed g
      have fails {code : Code} (eq : m.segmentStep g = (m.abortSegmentAt (m.atOwnFrame g) code true).settle) :
          aborted code (x / 256) := by
        have out := aborts eq (m.atOwnFrame_origin g) inFrame notify (by rw [here.1]; exact here.2)
        rw [here.1] at out
        exact out
      have sounds (n : Nat) : m.Sound n ↔ isSound n := by
        unfold State.Sound
        rw [views n]
      refine ⟨fun before z after table near first => ?_, fun clear => ⟨fun d planned past => ?_, fun short => ⟨fun strict fallen => ?_,
        fun strict locked tach => ?_, fun before n after strict ok list first bad => ?_, fun ok => ?_⟩⟩, zones, fun fr => ?_⟩
      · have step := State.segmentStep_zone (g := g) (State.zoneAhead_first config tape (by rw [rcc]; exact table) near first)
        have out := aborts step rfl rfl rfl (by show g.remainingAt _ _ = _; rw [g.remainingAt_eq, days]; rfl)
        rw [days] at out
        exact out
      · have step := State.segmentStep_ends (g := g) (State.zoneAhead_none config tape (by rw [rcc]; exact clear))
          (State.endReached_reached config tape planned past)
        rw [step] at closes events
        obtain ⟨gap, noticed, tsq, -, sense⟩ := recorder.ends
          (x := { g with lastFrame := frameAdd m.dayFrames ((g.inFrame + d) % w) (-1), remaining := some 0 }) begins.config rfl rfl
        have told := closes.noticed (begins.told events noticed)
        rw [days, frameAdd_mod] at told
        rw [← closes.rcc] at gap
        exact ⟨⟨⟨gap.record, gap.state, gap.gapCount⟩, driven closes tsq⟩, by rw [closes.dhd, sense]; exact begins.sense, told⟩
      · refine fails (State.segmentStep_fails (State.zoneAhead_none config tape (by rw [rcc]; exact clear))
          (State.endReached_not config tape short) ?_)
        rw [State.guardFails_strict strict, timing, if_pos fallen]
      · refine fails (State.segmentStep_fails (State.zoneAhead_none config tape (by rw [rcc]; exact clear))
          (State.endReached_not config tape short) ?_)
        rw [State.guardFails_strict strict, timing, if_neg (by rw [locked]; nofun), source, if_pos (by rw [tach]; nofun)]
      · refine fails (State.segmentStep_fails (State.zoneAhead_none config tape (by rw [rcc]; exact clear))
          (State.endReached_not config tape short) ?_)
        rw [State.guardFails_first strict (by rw [timing]; exact ok.1) (source.trans ok.2) list
          (fun y at_ => (sounds y).mpr (first y at_)) (fun fine => bad ((sounds n).mp fine)), views n]
      · have step := State.segmentStep_goes (g := g) (State.zoneAhead_none config tape (by rw [rcc]; exact clear))
          (State.endReached_not config tape short) (State.guardFails_none (ok.imp_right fun ⟨held, all⟩ =>
            ⟨⟨by rw [timing]; exact held.1, source.trans held.2⟩, fun y at_ => (sounds y).mpr (all y at_)⟩))
        have goes : m.atOwnFrame g = { g with lastFrame := x / 256, remaining := remaining (x / 256) } := by
          unfold State.atOwnFrame State.ownFrame
          rw [tape, days]
          show { g with lastFrame := x / 256, remaining := g.remainingAt w (x / 256) } = _
          rw [g.remainingAt_eq]
        have kept : (m.segmentStep g).rcc = { m.rcc with record := some (m.atOwnFrame g) } := by rw [step]
        rw [closes.rcc, kept, rcc, goes]
      · rw [closes.csv, ← (freed fr).2]
        obtain same | same := State.segmentStep_csv (g := g) recorder.apart recorder.slot
        · obtain ⟨-, -, -, csv⟩ := recorder.apart.endsFree (freed fr).1
          rw [same, csv]
        · exact same
end

section
/-! SUPPORT. An active chase with no segment RECORDING: its requests, its entry into a state and the laws (R112 to R114, R117). -/

namespace Sys2Proof.Machine

/-- A chasing deck with no segment RECORDING, nothing held and no recovery, at a position or at none. -/
structure State.Chaser (c : Settings) (p : Option Nat) (s : State) : Prop where
  config : s.dhd.config = some c
  own : s.own = p
  idle : s.rcc.state ≠ .recording
  chasing : s.tsq.state = .chasing
  recovery : s.tsq.recovery = .idle
  empty : s.tsq.slot = none

/-- A chase that asks for VAR at a speed, within the shuttle limit. -/
structure State.Varies (c : Settings) (v : Int) (t : State) : Prop where
  mode : t.tsq.reqMode = .var
  speed : t.tsq.reqSpeed = clampInt (-(c.shuttleLimit : Int)) c.shuttleLimit v

section
variable {s t u : State} {c : Settings} {p : Option Nat} {own : Nat} {r : ChaseRecord} {m e v : Int} {std : Standard} {n : ChaseState}

theorem State.Chaser.apart (h : s.Chaser c p) : s.Apart := ⟨by rw [h.chasing]; nofun, by rw [h.recovery]; nofun⟩

theorem State.Chaser.settle (h : s.Chaser c p) : s.settle = s := State.settle_none h.empty

theorem State.Chaser.with_csv (h : s.Chaser c p) (k : Csv) : ({ s with csv := k } : State).Chaser c p :=
  ⟨h.config, h.own, h.idle, h.chasing, h.recovery, h.empty⟩

/-! ### Requests (R100) -/

theorem State.Chaser.chaseRequest (h : s.Chaser c p) (q : ChaseReq) : (s.chaseRequest q).Chaser c p := by
  have work := State.chaseRequest_work q s
  have eq : s.chaseRequest q = (s.standingAs q).driveStanding := by
    cases q with
    | still => exact State.chaseRequest_still h.idle
    | var v => exact State.chaseRequest_var h.idle
  have drove := State.Apart.driveStanding (s := s.standingAs q) ⟨h.apart.state, h.apart.recovery⟩
  rw [← eq] at drove
  exact ⟨work.config.trans h.config, work.own.trans h.own, by rw [(State.chaseRequest_deck q s).rcc]; exact h.idle,
    drove.state.trans h.chasing, drove.recovery.trans h.recovery, drove.slot.trans h.empty⟩

theorem State.Chaser.varies (h : s.Chaser c p) (v : Int) :
    (s.chaseRequest (.var v)).csv = s.csv ∧ (s.chaseRequest (.var v)).Varies c v := by
  obtain ⟨csv, -, -, mode, speed⟩ := State.chaseRequest_var_leaves (speed := v) h.idle h.empty
  exact ⟨csv, mode, speed.trans (State.clampSpeed_eq h.config v)⟩

theorem State.Chaser.stills (h : s.Chaser c p) (other : s.csv.state ≠ .followStill) :
    (s.chaseRequest .still).csv = s.csv ∧ (s.chaseRequest .still).tsq.reqMode = .still := by
  obtain ⟨csv, -, -, mode⟩ := State.chaseRequest_still_leaves h.idle other h.empty
  exact ⟨csv, mode⟩

theorem State.Chaser.followApproach (h : s.Chaser c p) (e : Int) : (s.followApproach e).Chaser c p := by
  unfold State.followApproach
  split
  · exact h
  · split <;> exact h.chaseRequest _

theorem State.Chaser.law (h : s.Chaser c p) (r : ChaseRecord) (m e : Int) : (s.chaseLaw r m e).Chaser c p := by
  unfold State.chaseLaw
  split
  · exact h.chaseRequest _
  · exact h.chaseRequest _
  · exact h.chaseRequest _
  · unfold State.followLaw
    split
    · exact h.followApproach e
    · split
      · exact State.Chaser.followApproach (s := s.setFollow .approaching) (h.with_csv _) e
      · exact h
  all_goals exact h

/-! ### LOCKED left, and a state entered (R112) -/

/-- A chase that has left LOCKED, where it was in it, with LOCK_LOST latched. -/
structure State.Leaves (s u : State) : Prop where
  tsq : u.tsq = s.tsq
  csv : u.csv = s.csv
  pins : u.pins = s.pins
  lost : s.csv.state = .locked → u.holdsEvent .lockLost = true

theorem State.Chaser.leaves (h : s.Chaser c p) : s.leaveLock.Chaser c p ∧ s.Leaves s.leaveLock := by
  rw [State.leaveLock_idle h.idle]
  split
  · exact ⟨⟨h.config, h.own, h.idle, h.chasing, h.recovery, h.empty⟩, rfl, rfl, rfl, fun _ => State.holdsEvent_latch ..⟩
  · rename_i other
    exact ⟨h, rfl, rfl, rfl, fun locked => absurd locked other⟩

/-- The chase with a state entered, before its law: LOCKED left for another state latches LOCK_LOST. -/
structure State.Enters (n : ChaseState) (s u : State) : Prop where
  tsq : u.tsq = s.tsq
  csv : u.csv = s.csv.enter n
  pins : u.pins = s.pins
  lost : s.csv.state = .locked → n ≠ .locked → u.holdsEvent .lockLost = true

theorem Csv.enter_state (k : Csv) (n : ChaseState) : (k.enter n).state = n := by
  cases n <;> simp only [Csv.enter]
  split
  · assumption
  · rfl

/-- The servo enters the state R112 chooses, and makes the request of its law. -/
theorem State.Chaser.servo (h : s.Chaser c p) (choice : chooseState s.csv.state (masterMoving m) e.natAbs std.seekThreshold = n) :
    ∃ u, u.Chaser c p ∧ s.Enters n u ∧ s.chaseServo std r m e = u.chaseLaw r m e := by
  unfold State.chaseServo
  rw [choice]
  dsimp only
  obtain ⟨chaser, tsq, csv, pins, lost⟩ := h.leaves
  split
  · rename_i locked
    exact ⟨{ s with csv := s.csv.enter n }, h.with_csv _, ⟨rfl, rfl, rfl, fun _ other => absurd locked other⟩, rfl⟩
  · exact ⟨{ s.leaveLock with csv := s.leaveLock.csv.enter n }, chaser.with_csv _,
      ⟨tsq, congrArg (Csv.enter · n) csv, pins, fun locked _ => lost locked⟩, rfl⟩

/-! ### The laws of a moving master (R113, R114) -/

theorem State.chaseLaw_seeks (seeking : s.csv.state = .seeking) (hc : s.dhd.config = some c) :
    s.chaseLaw r m e = s.chaseRequest (.var (seekSpeed c.shuttleLimit m e)) := by
  unfold State.chaseLaw
  rw [seeking, State.shuttleLimit_of_config hc]

theorem State.chaseLaw_pulls (pulling : s.csv.state = .pulling ∨ s.csv.state = .locked) :
    s.chaseLaw r m e = s.chaseRequest (.var (pullSpeedWord r.pullSpeed m e)) := by
  unfold State.chaseLaw
  obtain h | h := pulling <;> rw [h]

/-- The servo's work in SEEKING. -/
theorem State.Chaser.seeks (h : s.Chaser c p)
    (choice : chooseState s.csv.state (masterMoving m) e.natAbs std.seekThreshold = .seeking) :
    (s.chaseServo std r m e).Chaser c p ∧ (s.chaseServo std r m e).csv = s.csv.enter .seeking ∧
      (s.chaseServo std r m e).Varies c (seekSpeed c.shuttleLimit m e) := by
  obtain ⟨u, chaser, enters, eq⟩ := h.servo (r := r) choice
  rw [eq, State.chaseLaw_seeks (by rw [enters.csv]; rfl) chaser.config]
  obtain ⟨csv, varies⟩ := chaser.varies (seekSpeed c.shuttleLimit m e)
  exact ⟨chaser.chaseRequest _, csv.trans enters.csv, varies⟩

/-- The servo's work in PULLING and LOCKED. -/
theorem State.Chaser.pulls (h : s.Chaser c p)
    (choice : chooseState s.csv.state (masterMoving m) e.natAbs std.seekThreshold = n) (pulling : n = .pulling ∨ n = .locked) :
    (s.chaseServo std r m e).Chaser c p ∧ (s.chaseServo std r m e).csv = s.csv.enter n ∧
      (s.chaseServo std r m e).Varies c (pullSpeedWord r.pullSpeed m e) := by
  obtain ⟨u, chaser, enters, eq⟩ := h.servo (r := r) choice
  rw [eq, State.chaseLaw_pulls (by rw [enters.csv, Csv.enter_state]; exact pulling)]
  obtain ⟨csv, varies⟩ := chaser.varies (pullSpeedWord r.pullSpeed m e)
  exact ⟨chaser.chaseRequest _, csv.trans enters.csv, varies⟩

/-! ### The approach to a master at rest (R117) -/

/-- A STILL matched within 256 of the target parks the chase, whatever else waits. -/
theorem State.Chaser.matched (h : s.Chaser c (some own)) (follows : s.csv.state = .followStill)
    (approaching : s.csv.followStep = .approaching) (near : (diff c.standard.day s.csv.target own).natAbs ≤ 256)
    (still : s.tsq.reqMode = .still) :
    s.onMatched.csv = { s.csv with followStep := .parked } ∧ s.onMatched.tsq.matched = true ∧ s.onMatched.tsq.reqMode = .still := by
  obtain ⟨o, pending⟩ := State.matchPending_apart (s := s.met) h.apart.state (by rw [show s.met.tsq.reqMode = .still from still]; nofun)
  have eq : s.onMatched = (s.met.setPending o).matchFollow := by
    unfold State.onMatched
    rw [State.matchRecovery_other (by exact h.apart.recovery)]
    exact congrArg State.matchFollow pending
  rw [eq, State.matchFollow_eq (s := s.met.setPending o) h.chasing still follows approaching h.config h.own, if_pos (by exact near)]
  exact ⟨rfl, rfl, still⟩

/-- What the approach law of FOLLOW_STILL asks for of a deck, whatever else waits there. -/
structure State.Approaches (c : Settings) (e : Int) (s t : State) : Prop where
  holds : s.tsq.reqMode = .still → s.tsq.matched = false → t = s
  varies : (s.tsq.reqMode = .still → s.tsq.matched = true) → 128 < e.natAbs → t.csv = s.csv ∧ t.Varies c (approachSpeed c e)
  parks : (s.tsq.reqMode = .still → s.tsq.matched = true) → e.natAbs ≤ 128 → s.tsq.reqMode = .still ∨ s.pins.tally = .still →
    t.csv = { s.csv with followStep := .parked } ∧ t.tsq.matched = true ∧ t.tsq.reqMode = .still
  asks : e.natAbs ≤ 128 → s.tsq.reqMode ≠ .still → s.pins.tally ≠ .still →
    t.csv = s.csv ∧ t.tsq.matched = false ∧ t.tsq.wait = some { settle := 0, busy := 0 } ∧ t.tsq.reqMode = .still

theorem State.Chaser.approaches (h : s.Chaser c (some own)) (follows : s.csv.state = .followStill)
    (approaching : s.csv.followStep = .approaching) (he : diff c.standard.day s.csv.target own = e) :
    s.Approaches c e (s.followApproach e) := by
  refine ⟨fun still waits => State.followApproach_holds still waits, fun ready far => ?_, fun ready near shown => ?_,
    fun near new unseen => ?_⟩
  · rw [State.followApproach_far h.config ready far]
    exact h.varies _
  · rw [State.followApproach_near ready near, State.chaseRequest_still h.idle]
    have close : (diff c.standard.day s.csv.target own).natAbs ≤ 256 := by rw [he]; omega
    by_cases same : s.tsq.reqMode = .still
    · rw [State.drive_met (by exact same) (by exact ready same)]
      exact State.Chaser.matched (c := c) (own := own) (s := { s.standingAs .still with tsq := _ })
        ⟨h.config, h.own, h.idle, h.chasing, h.recovery, h.empty⟩ follows approaching close same
    · rw [State.drive_shown (by exact same) (by exact Tally.mode_still.mpr (shown.resolve_left same))]
      exact State.Chaser.matched (c := c) (own := own) (s := (s.standingAs .still).asked .still 0 0)
        ⟨h.config, h.own, h.idle, h.chasing, h.recovery, h.empty⟩ follows approaching close rfl
  · rw [State.followApproach_near (fun still => absurd still new) near, State.chaseRequest_still h.idle,
      State.drive_asks (by exact new) (by exact Tally.mode_still.not.mpr unseen)]
    exact ⟨rfl, rfl, rfl, rfl⟩

end

end Sys2Proof.Machine
end

section
/-! SUPPORT. The regimes of an active chase at a field start: waiting, rerolling, following, seeking, pulling and locked (R110 to R118). -/

namespace Sys2Proof.Machine

section
variable {s t w : State} {c : Settings} {p : Option Nat} {own : Nat} {r : ChaseRecord} {m e v : Int} {std : Standard} {n : ChaseState}

/-! ### The counts on a chaser (R115, R116, R118) -/

theorem State.Chaser.stopPulling (h : s.Chaser c p) (r : ChaseRecord) : (s.stopPulling r).Chaser c p := by
  unfold State.stopPulling
  split
  · exact (h.with_csv _).chaseRequest _
  · obtain ⟨config, own, idle, chasing, recovery, empty⟩ := (h.with_csv
      { s.csv with state := .failed, pullTimer := 0, lockRun := 0 }).chaseRequest .still
    exact ⟨config, own, idle, chasing, recovery, empty⟩

theorem State.Chaser.pullStep (h : s.Chaser c p) (r : ChaseRecord) : (s.pullStep r).Chaser c p := by
  unfold State.pullStep
  split
  · exact h.stopPulling r
  · exact h.with_csv _

/-- Lock lost with no segment RECORDING (R116). -/
theorem State.loseLock_idle (idle : s.rcc.state ≠ .recording) :
    s.loseLock = ({ s with csv := { s.csv with state := .pulling, blankRun := 0, lockRun := 0, pullTimer := 0 } } : State).latch .lockLost :=
  State.emergencyOut_idle .lockLost true (s := State.latch .lockLost { s with csv := _ }) idle

theorem State.Chaser.counts (h : s.Chaser c p) (r : ChaseRecord) (e : Int) : (s.chaseCounts r e).Chaser c p := by
  unfold State.chaseCounts
  split
  · unfold State.lockStep
    split
    · exact (h.with_csv _).pullStep r
    · split
      · exact h.with_csv _
      · exact (h.with_csv _).pullStep r
  · unfold State.blankStep
    split
    · split
      · rw [State.loseLock_idle h.idle]
        exact ⟨h.config, h.own, h.idle, h.chasing, h.recovery, h.empty⟩
      · exact h.with_csv _
    · exact h.with_csv _
  all_goals exact h

theorem State.Chaser.step (h : s.Chaser c p) (std : Standard) (r : ChaseRecord) (m e : Int) : (s.chaseStep std r m e).Chaser c p := by
  unfold State.chaseStep
  split
  · split
    · exact State.Chaser.law (h.with_csv _) r m e
    · exact h.with_csv _
  · obtain ⟨u, chaser, -, eq⟩ := h.servo (r := r) (m := m) (e := e) (std := std) rfl
    rw [eq]
    exact (chaser.law r m e).counts r e

/-! ### The target stands -/

theorem Csv.enter_target (k : Csv) (n : ChaseState) : (k.enter n).target = k.target := by
  cases n <;> simp only [Csv.enter]
  split <;> rfl

theorem State.Paced.target (h : s.Paced t) : t.csv.target = s.csv.target := by rw [h.csv]

theorem State.stopPulling_target (r : ChaseRecord) (s : State) : (s.stopPulling r).csv.target = s.csv.target := by
  unfold State.stopPulling
  split
  · exact (State.chaseRequest_paced ..).target.trans rfl
  · exact (State.chaseRequest_paced .still { s with csv := { s.csv with state := .failed, pullTimer := 0, lockRun := 0 } }).target

theorem State.pullStep_target (r : ChaseRecord) (s : State) : (s.pullStep r).csv.target = s.csv.target := by
  unfold State.pullStep
  split
  · exact State.stopPulling_target r s
  · rfl

theorem State.Chaser.counts_target (h : s.Chaser c p) (r : ChaseRecord) (e : Int) : (s.chaseCounts r e).csv.target = s.csv.target := by
  unfold State.chaseCounts
  split
  · unfold State.lockStep
    split
    · exact State.pullStep_target ..
    · split
      · rfl
      · exact State.pullStep_target ..
  · unfold State.blankStep
    split
    · split
      · rw [State.loseLock_idle h.idle]
        rfl
      · rfl
    · rfl
  all_goals rfl

theorem State.Chaser.step_target (h : s.Chaser c p) (std : Standard) (r : ChaseRecord) (m e : Int) :
    (s.chaseStep std r m e).csv.target = s.csv.target := by
  unfold State.chaseStep
  split
  · split
    · exact (State.chaseLaw_paced r m e { s with csv := { s.csv with offTime := 0, state := .seeking } }).target
    · rfl
  · obtain ⟨u, chaser, enters, eq⟩ := h.servo (r := r) (m := m) (e := e) (std := std) rfl
    rw [eq, (chaser.law r m e).counts_target, (State.chaseLaw_paced ..).target, enters.csv, Csv.enter_target]

/-! ### No usable master, and a reroll (R110, R111) -/

theorem State.Chaser.waits (h : s.Chaser c p) :
    s.chaseWaits.Chaser c p ∧
      s.chaseWaits.csv = { s.csv with
        state := .waiting, pullTimer := 0, lockRun := 0, blankRun := 0, offTime := 0, followStep := .approaching } ∧
      s.chaseWaits.tsq.reqMode = .still ∧ (s.csv.state = .locked → s.chaseWaits.holdsEvent .lockLost = true) := by
  obtain ⟨chaser, -, csv, -, lost⟩ := h.leaves
  have waiting := chaser.with_csv { s.leaveLock.csv with
    state := .waiting, pullTimer := 0, lockRun := 0, blankRun := 0, offTime := 0, followStep := .approaching }
  obtain ⟨kept, mode⟩ := waiting.stills nofun
  refine ⟨waiting.chaseRequest .still, kept.trans ?_, mode, fun locked => (State.chaseRequest_by ..).events _ (lost locked)⟩
  exact congrArg (fun k : Csv => { k with
    state := .waiting, pullTimer := 0, lockRun := 0, blankRun := 0, offTime := 0, followStep := .approaching }) csv

theorem State.chaseStep_rerolls (reroll : s.csv.state = .reroll) (early : s.csv.offTime + 1 < r.rerollOffTime) :
    s.chaseStep std r m e = { s with csv := { s.csv with offTime := s.csv.offTime + 1 } } := by
  unfold State.chaseStep
  rw [if_pos reroll, if_neg (Nat.not_le.mpr early)]

theorem State.Chaser.rerolled (h : s.Chaser c p) (reroll : s.csv.state = .reroll) (late : r.rerollOffTime ≤ s.csv.offTime + 1) :
    (s.chaseStep std r m e).csv = { s.csv with offTime := 0, state := .seeking } ∧
      (s.chaseStep std r m e).Varies c (seekSpeed c.shuttleLimit m e) := by
  let k : Csv := { s.csv with offTime := 0, state := .seeking }
  have eq : s.chaseStep std r m e = ({ s with csv := k } : State).chaseRequest (.var (seekSpeed c.shuttleLimit m e)) := by
    have law := State.chaseLaw_seeks (s := { s with csv := k }) (r := r) (m := m) (e := e) rfl h.config
    unfold State.chaseStep State.endReroll
    rw [if_pos reroll, if_pos late]
    exact law
  rw [eq]
  exact (h.with_csv k).varies _

theorem State.chaseStep_servo (other : s.csv.state ≠ .reroll) :
    s.chaseStep std r m e = (s.chaseServo std r m e).chaseCounts r e := if_neg other

/-! ### A moving master (R112 to R116, R118) -/

theorem State.Chaser.stepSeeks (h : s.Chaser c p) (other : s.csv.state ≠ .reroll)
    (choice : chooseState s.csv.state (masterMoving m) e.natAbs std.seekThreshold = .seeking) :
    (s.chaseStep std r m e).csv = s.csv.enter .seeking ∧ (s.chaseStep std r m e).Varies c (seekSpeed c.shuttleLimit m e) := by
  obtain ⟨-, csv, varies⟩ := h.seeks (r := r) choice
  rw [State.chaseStep_servo other]
  have counts : (s.chaseServo std r m e).chaseCounts r e = s.chaseServo std r m e := by
    unfold State.chaseCounts
    rw [csv]
    rfl
  rw [counts]
  exact ⟨csv, varies⟩

/-- The chase in PULLING with its request made, before its counts. -/
theorem State.Chaser.stepPulls (h : s.Chaser c p) (other : s.csv.state ≠ .reroll)
    (choice : chooseState s.csv.state (masterMoving m) e.natAbs std.seekThreshold = .pulling) :
    ∃ w : State, w.Chaser c p ∧ w.csv = s.csv.enter .pulling ∧ w.Varies c (pullSpeedWord r.pullSpeed m e) ∧
      s.chaseStep std r m e = w.lockStep r e := by
  obtain ⟨chaser, csv, varies⟩ := h.pulls (r := r) choice (.inl rfl)
  refine ⟨_, chaser, csv, varies, ?_⟩
  rw [State.chaseStep_servo other]
  unfold State.chaseCounts
  rw [show (s.chaseServo std r m e).csv.state = .pulling by rw [csv, Csv.enter_state]]

/-- The chase held in LOCKED with its request made, before its blanking run. -/
theorem State.Chaser.stepLocked (h : s.Chaser c p) (locked : s.csv.state = .locked) (moves : masterMoving m = true) :
    ∃ w : State, w.Chaser c p ∧ w.csv = s.csv ∧ w.Varies c (pullSpeedWord r.pullSpeed m e) ∧
      s.chaseStep std r m e = w.blankStep r e := by
  have choice : chooseState s.csv.state (masterMoving m) e.natAbs std.seekThreshold = .locked := by rw [locked, moves]; rfl
  obtain ⟨chaser, csv, varies⟩ := h.pulls (r := r) choice (.inr rfl)
  have same : s.csv.enter .locked = s.csv := by
    show { s.csv with state := ChaseState.locked } = s.csv
    rw [← locked]
  refine ⟨_, chaser, csv.trans same, varies, ?_⟩
  rw [State.chaseStep_servo (by rw [locked]; nofun)]
  unfold State.chaseCounts
  rw [show (s.chaseServo std r m e).csv.state = .locked by rw [csv, Csv.enter_state]]

/-! ### The lock run and the pull timer (R115, R118) -/

theorem State.pullStep_counts (early : s.csv.pullTimer < r.pullTimeLimit) :
    s.pullStep r = { s with csv := { s.csv with pullTimer := s.csv.pullTimer + 1 } } :=
  if_neg (Nat.not_lt.mpr early)

theorem State.lockStep_far (far : r.lockWindow < e.natAbs) : s.lockStep r e = ({ s with csv := { s.csv with lockRun := 0 } } : State).pullStep r :=
  if_pos far

theorem State.lockStep_near (near : e.natAbs ≤ r.lockWindow) (few : s.csv.lockRun < 7) :
    s.lockStep r e = ({ s with csv := { s.csv with lockRun := s.csv.lockRun + 1 } } : State).pullStep r := by
  unfold State.lockStep
  rw [if_neg (Nat.not_lt.mpr near), if_neg (by omega)]

theorem State.lockStep_locks (near : e.natAbs ≤ r.lockWindow) (eighth : 7 ≤ s.csv.lockRun) : s.lockStep r e = s.declareLock := by
  unfold State.lockStep
  rw [if_neg (Nat.not_lt.mpr near), if_pos (by omega)]

/-- The pull time is exceeded: STILL asked for, and a reroll, or the failure with its event and record. -/
structure State.Overdue (r : ChaseRecord) (own : Nat) (s t : State) : Prop where
  mode : t.tsq.reqMode = .still
  timer : t.csv.pullTimer = 0
  run : t.csv.lockRun = 0
  rerolls : s.csv.rerolls < r.retries → t.csv.state = .reroll ∧ t.csv.rerolls = s.csv.rerolls + 1 ∧ t.csv.offTime = 0
  fails : r.retries ≤ s.csv.rerolls → t.csv.state = .failed ∧ t.holdsEvent .chaseFailed = true ∧
    t.dhd.sense = some
      { code := .chaseFailed, origin := s.csv.engagedBy, address := some (own / 256), nextFrame := none, remaining := none }

theorem State.Chaser.overdue (h : s.Chaser c (some own)) : s.Overdue r own (s.stopPulling r) := by
  by_cases left : s.csv.rerolls < r.retries
  · obtain ⟨csv, mode⟩ := (h.with_csv { s.csv with
      state := .reroll, pullTimer := 0, lockRun := 0, rerolls := s.csv.rerolls + 1, offTime := 0 }).stills nofun
    rw [State.stopPulling_rerolls left]
    exact ⟨mode, by rw [csv], by rw [csv], fun _ => by rw [csv]; exact ⟨rfl, rfl, rfl⟩, fun gone => absurd left (Nat.not_lt.mpr gone)⟩
  · obtain ⟨csv, mode⟩ := (h.with_csv { s.csv with state := .failed, pullTimer := 0, lockRun := 0 }).stills nofun
    have frame : s.ownFrame = some (own / 256) := by
      unfold State.ownFrame
      rw [h.own]
      rfl
    rw [State.stopPulling_fails (Nat.not_lt.mp left), frame]
    exact ⟨mode, congrArg Csv.pullTimer csv, congrArg Csv.lockRun csv, fun few => absurd few left,
      fun _ => ⟨congrArg Csv.state csv, State.holdsEvent_latch .., rfl⟩⟩

/-- The pull time exceeded at a field start that declares no lock. -/
theorem State.Chaser.lockStep_overdue (h : s.Chaser c (some own)) (late : r.pullTimeLimit ≤ s.csv.pullTimer)
    (unlocked : r.lockWindow < e.natAbs ∨ s.csv.lockRun < 7) : s.Overdue r own (s.lockStep r e) := by
  have stops (k : Nat) : ({ s with csv := { s.csv with lockRun := k } } : State).pullStep r =
      ({ s with csv := { s.csv with lockRun := k } } : State).stopPulling r := if_pos (Nat.lt_succ_of_le late)
  have overdue (k : Nat) : s.Overdue r own (({ s with csv := { s.csv with lockRun := k } } : State).stopPulling r) := by
    obtain ⟨mode, timer, run, rerolls, fails⟩ := State.Chaser.overdue (r := r) (h.with_csv { s.csv with lockRun := k })
    exact ⟨mode, timer, run, rerolls, fails⟩
  by_cases far : r.lockWindow < e.natAbs
  · rw [State.lockStep_far far, stops]
    exact overdue 0
  · rw [State.lockStep_near (Nat.not_lt.mp far) (unlocked.resolve_left far), stops]
    exact overdue _

/-! ### The blanking run (R116) -/

theorem State.blankStep_near (near : e.natAbs ≤ r.lockWindow) : s.blankStep r e = { s with csv := { s.csv with blankRun := 0 } } :=
  if_neg (Nat.not_lt.mpr near)

theorem State.blankStep_counts (far : r.lockWindow < e.natAbs) (early : s.csv.blankRun + 1 < r.blankingCount) :
    s.blankStep r e = { s with csv := { s.csv with blankRun := s.csv.blankRun + 1 } } := by
  unfold State.blankStep
  rw [if_pos far, if_neg (Nat.not_le.mpr early)]

theorem State.blankStep_loses (far : r.lockWindow < e.natAbs) (late : r.blankingCount ≤ s.csv.blankRun + 1) :
    s.blankStep r e = s.loseLock := by
  unfold State.blankStep
  rw [if_pos far, if_pos late]

end

end Sys2Proof.Machine
end

section
/-! SUPPORT. A chase at a field start, whole: the master at rest, and the field start of a chasing deck with no segment RECORDING
(R42, R84, R110 to R118). -/

namespace Sys2Proof.Machine

/-- A chase in FOLLOW_STILL that is PARKED. -/
abbrev State.Parked (s : State) : Prop := s.csv.state = .followStill ∧ s.csv.followStep = .parked

/-- What FOLLOW_STILL leaves at a field start with a master at rest (R117). -/
structure State.Followed (c : Settings) (e : Int) (s t : State) : Prop where
  state : t.csv.state = .followStill
  timer : t.csv.pullTimer = 0
  run : t.csv.lockRun = 0
  blank : t.csv.blankRun = 0
  lost : s.csv.state = .locked → t.holdsEvent .lockLost = true
  stands : s.Parked → e.natAbs ≤ 256 →
    t.csv.followStep = .parked ∧ t.tsq.reqMode = s.tsq.reqMode ∧ t.tsq.matched = s.tsq.matched
  holds : ¬ s.Parked ∨ 256 < e.natAbs → s.tsq.reqMode = .still → s.tsq.matched = false →
    t.csv.followStep = .approaching ∧ t.tsq.reqMode = .still ∧ t.tsq.matched = false
  varies : ¬ s.Parked ∨ 256 < e.natAbs → s.tsq.reqMode ≠ .still ∨ s.tsq.matched = true → 128 < e.natAbs →
    t.csv.followStep = .approaching ∧ t.Varies c (approachSpeed c e)
  parks : ¬ s.Parked ∨ 256 < e.natAbs → s.tsq.reqMode ≠ .still ∨ s.tsq.matched = true → e.natAbs ≤ 128 →
    s.tsq.reqMode = .still ∨ s.pins.tally = .still →
      t.csv.followStep = .parked ∧ t.tsq.matched = true ∧ t.tsq.reqMode = .still
  asks : ¬ s.Parked ∨ 256 < e.natAbs → e.natAbs ≤ 128 → s.tsq.reqMode ≠ .still → s.pins.tally ≠ .still →
    t.csv.followStep = .approaching ∧ t.tsq.matched = false ∧ t.tsq.wait = some { settle := 0, busy := 0 } ∧ t.tsq.reqMode = .still

section
variable {s t u v : State} {c : Settings} {p : Option Nat} {own : Nat} {r : ChaseRecord} {m e : Int} {std : Standard} {i : Instr}
  {pins : FieldPins}

/-! ### The master at rest (R117) -/

theorem masterMoving_slow (slow : m.natAbs < 32) : masterMoving m = false := decide_eq_false (Nat.not_le.mpr slow)

theorem masterMoving_fast (fast : 32 ≤ m.natAbs) : masterMoving m = true := decide_eq_true fast

/-- The approach of a chase in FOLLOW_STILL that does not stand PARKED. -/
theorem State.Enters.followed (enters : s.Enters .followStill u) (chaser : u.Chaser c (some own))
    (away : ¬ s.Parked ∨ 256 < e.natAbs) (he : diff c.standard.day s.csv.target own = e) :
    s.Followed c e (u.followLaw e) := by
  let k : Csv := { s.csv.enter .followStill with followStep := .approaching }
  have law : ∃ x : State, x.Chaser c (some own) ∧ x.tsq = s.tsq ∧ x.pins = s.pins ∧ x.csv = k ∧
      (s.csv.state = .locked → x.holdsEvent .lockLost = true) ∧ u.followLaw e = x.followApproach e := by
    unfold State.followLaw
    cases step : u.csv.followStep with
    | approaching =>
      refine ⟨u, chaser, enters.tsq, enters.pins, ?_, fun locked => enters.lost locked nofun, rfl⟩
      have csv := enters.csv
      have same : (s.csv.enter .followStill).followStep = .approaching := csv ▸ step
      rw [csv, show k = { s.csv.enter .followStill with followStep := (s.csv.enter .followStill).followStep } by rw [same]]
    | parked =>
      have parked : s.Parked := by
        have same : (s.csv.enter .followStill).followStep = .parked := enters.csv ▸ step
        simp only [Csv.enter] at same
        split at same
        · exact ⟨‹_›, same⟩
        · cases same
      dsimp only
      rw [if_pos (away.resolve_left fun h => h parked)]
      exact ⟨u.setFollow .approaching, chaser.with_csv _, enters.tsq, enters.pins,
        congrArg (fun k : Csv => { k with followStep := .approaching }) enters.csv, fun locked => enters.lost locked nofun, rfl⟩
  obtain ⟨x, holder, tsq, pins, csv, lost, eq⟩ := law
  obtain ⟨holds, varies, parks, asks⟩ := holder.approaches (e := e) (by rw [csv]; rfl) (by rw [csv]) (by rw [csv]; exact he)
  have paced := State.followApproach_paced e x
  have events (locked : s.csv.state = .locked) : (x.followApproach e).holdsEvent .lockLost = true := paced.lock.trans (lost locked)
  rw [tsq] at holds varies parks asks
  rw [pins] at parks asks
  have ready (free : s.tsq.reqMode ≠ .still ∨ s.tsq.matched = true) (still : s.tsq.reqMode = .still) : s.tsq.matched = true :=
    free.resolve_left fun other => other still
  rw [eq]
  refine ⟨by rw [paced.csv, csv]; rfl, by rw [paced.csv, csv]; rfl, by rw [paced.csv, csv]; rfl, by rw [paced.csv, csv]; rfl, events,
    fun parked near => absurd away (by simp [parked, near]), fun _ still waits => ?_, fun _ free far => ?_, fun _ free near shown => ?_,
    fun _ near new unseen => ?_⟩
  · rw [holds still waits, csv, tsq]
    exact ⟨rfl, still, waits⟩
  · obtain ⟨same, speed⟩ := varies (ready free) far
    exact ⟨by rw [same, csv], speed⟩
  · obtain ⟨same, matched, mode⟩ := parks (ready free) near shown
    exact ⟨by rw [same], matched, mode⟩
  · obtain ⟨same, matched, wait, mode⟩ := asks near new unseen
    exact ⟨by rw [same, csv], matched, wait, mode⟩

/-- A PARKED chase within 256 stands as it is. -/
theorem State.Enters.stands (enters : s.Enters .followStill u) (parked : s.Parked) (near : e.natAbs ≤ 256) :
    s.Followed c e (u.followLaw e) := by
  have csv : u.csv = { s.csv with state := .followStill, followStep := .parked, pullTimer := 0, lockRun := 0, blankRun := 0 } := by
    rw [enters.csv]
    simp only [Csv.enter, parked.1, if_true, parked.2]
  have law : u.followLaw e = u := by
    unfold State.followLaw
    rw [csv]
    exact if_neg (Nat.not_lt.mpr near)
  have here : ¬ (¬ s.Parked ∨ 256 < e.natAbs) := by simp [parked, near]
  rw [law]
  exact ⟨by rw [csv], by rw [csv], by rw [csv], by rw [csv], fun locked => enters.lost locked nofun,
    fun _ _ => ⟨by rw [csv], by rw [enters.tsq], by rw [enters.tsq]⟩, fun h => absurd h here, fun h => absurd h here,
    fun h => absurd h here, fun h => absurd h here⟩

theorem State.Chaser.follows (h : s.Chaser c (some own)) (other : s.csv.state ≠ .reroll) (slow : m.natAbs < 32)
    (he : diff c.standard.day s.csv.target own = e) : s.Followed c e (s.chaseStep std r m e) := by
  have choice : chooseState s.csv.state (masterMoving m) e.natAbs std.seekThreshold = .followStill := by
    rw [masterMoving_slow slow]
    rfl
  obtain ⟨u, chaser, enters, eq⟩ := h.servo (r := r) choice
  have state : u.csv.state = .followStill := by rw [enters.csv, Csv.enter_state]
  have law : u.chaseLaw r m e = u.followLaw e := by
    unfold State.chaseLaw
    rw [state]
  have counts : (u.followLaw e).chaseCounts r e = u.followLaw e := by
    unfold State.chaseCounts
    rw [(State.followLaw_paced e u).state, state]
  rw [State.chaseStep_servo other, eq, law, counts]
  by_cases parked : s.Parked ∧ e.natAbs ≤ 256
  · exact enters.stands parked.1 parked.2
  · exact enters.followed chaser (by rw [not_and_or, Nat.not_le] at parked; exact parked) he

/-! ### The state chosen for a moving master (R112) -/

theorem chooseState_begins {before : ChaseState} {a b : Nat} (begins : before = .waiting ∨ before = .seeking ∨ before = .followStill)
    (fast : 32 ≤ m.natAbs) : chooseState before (masterMoving m) a b = if b < a then .seeking else .pulling := by
  rw [masterMoving_fast fast]
  obtain h | h | h := begins <;> rw [h] <;> rfl

theorem chooseState_pulls {a b : Nat} (fast : 32 ≤ m.natAbs) :
    chooseState .pulling (masterMoving m) a b = if 2 * b < a then .seeking else .pulling := by
  rw [masterMoving_fast fast]
  rfl

/-! ### The field start of a chasing deck (R42, R84, R86) -/

/-- The transport's work at a field start whose wait, if any, does not run out. -/
theorem State.transportFieldStart_waits (hc : s.dhd.config = some c) (fitted : s.dhd.transportFitted = true) (reads : s.readsFault)
    (moves : s.tsq.state ≠ .cueing) (sound : s.pins.field.deckFault = false)
    (early : ∀ w, s.tsq.wait = some w → w.settle + 1 < c.settleLimit) (well : s.tsq.recovery = .idle) (empty : s.tsq.slot = none) :
    ∃ w, s.transportFieldStart = { s with tsq := { s.tsq with faultCount := 0, wait := w } } := by
  have waited : ∃ w, s.afterWait c = { s with tsq := { s.tsq with faultCount := 0, wait := w } } := by
    rw [State.afterWait_counted (State.faultStep_clear reads sound), State.recoveryStep_waits (by
      intro n
      show s.tsq.recovery ≠ _
      rw [well]
      nofun)]
    obtain quiet | ⟨w, waits⟩ := Option.eq_none_or_eq_some s.tsq.wait
    · exact ⟨s.tsq.wait, State.waitStep_none (by exact quiet)⟩
    · by_cases busy : s.pins.field.deckBusy = true ∧ w.busy < c.busyLimit
      · exact ⟨_, State.waitStep_busy (s := s.counted 0) waits busy⟩
      · exact ⟨_, State.waitStep_settles (s := s.counted 0) waits
          (by rw [not_and_or, Bool.not_eq_true, Nat.not_lt] at busy; exact busy) (early w waits)⟩
  obtain ⟨w, eq⟩ := waited
  refine ⟨w, ?_⟩
  rw [State.transportFieldStart_plain hc fitted (.inl moves), eq]
  unfold State.slotStep
  rw [show ({ s with tsq := { s.tsq with faultCount := 0, wait := w } } : State).tsq.slot = none from empty]

/-- A field begun at a chasing deck, up to the chase's work. -/
structure State.ChaseBegins (c : Settings) (s v : State) : Prop where
  chaser : v.Chaser c s.own
  csv : v.csv = s.csv
  mode : v.tsq.reqMode = s.tsq.reqMode
  matched : v.tsq.matched = s.tsq.matched
  tally : v.pins.tally = s.pins.tally

/-- A field start whose chase, deck and identity are what the chase's work has left. -/
structure State.ChaseEnds (v t : State) : Prop where
  csv : t.csv = v.chaseFieldStart.csv
  tsq : t.tsq = v.chaseFieldStart.tsq
  dhd : t.dhd = v.chaseFieldStart.dhd
  views : ∀ n, t.view n = v.view n

theorem exec_chaser (gives : givesFieldStart i pins s) (e : exec i s = .next t) (counted : t.ftu.counter = s.ftu.counter + 1)
    (noCues : s.cul.cues = []) (noRoll : s.cul.roll = none) (hc : s.dhd.config = some c) (fitted : s.dhd.transportFitted = true)
    (chasing : s.tsq.state = .chasing) (early : ∀ w, s.tsq.wait = some w → w.settle + 1 < c.settleLimit)
    (well : s.tsq.recovery = .idle) (empty : s.tsq.slot = none) (idle : s.rcc.state ≠ .recording) (sound : pins.deckFault = false) :
    ∃ v, s.ChaseBegins c v ∧ v.ChaseEnds t := by
  obtain ⟨u, begun, -, k, n, closes⟩ := exec_segment gives e counted noCues noRoll
  have state : u.tsq.state = .chasing := by rw [begun.tsq]; exact chasing
  obtain ⟨w, waited⟩ := State.transportFieldStart_waits (begun.config.trans hc) (begun.transportFitted.trans fitted)
    (by constructor <;> rw [state] <;> nofun) (by rw [state]; nofun) (by rw [begun.pins]; exact sound)
    (by rw [begun.tsq]; exact early) (by rw [begun.tsq]; exact well) (by rw [begun.tsq]; exact empty)
  rw [waited] at closes
  let v : State := { u with tsq := { u.tsq with faultCount := 0, wait := w } }
  have rests : v.rcc.state ≠ .recording := by
    show u.rcc.state ≠ _
    rw [begun.rcc]
    exact idle
  have chased := (State.chaseFieldStart_leavesSegment v).rcc rests
  obtain ⟨rcc, eq, -⟩ := State.recordFieldStart_idle (s := { v.chaseFieldStart with cul := k, ten := n }) (by
    show v.chaseFieldStart.rcc.state ≠ _
    rw [chased]
    exact rests)
  rw [eq] at closes
  refine ⟨v, ⟨⟨begun.config.trans hc, begun.own, rests, state, ?_, ?_⟩, begun.csv, ?_, ?_, ?_⟩, closes.csv, closes.tsq, closes.dhd,
    fun n => ?_⟩
  · show u.tsq.recovery = _
    rw [begun.tsq]
    exact well
  · show u.tsq.slot = _
    rw [begun.tsq]
    exact empty
  · show u.tsq.reqMode = _
    rw [begun.tsq]
  · show u.tsq.matched = _
    rw [begun.tsq]
  · show u.pins.tally = _
    rw [begun.pins]
  · unfold State.view
    rw [closes.ptb, show v.chaseFieldStart.ptb = v.ptb from (State.chaseFieldStart_work v).by.ptb]

end

end Sys2Proof.Machine
end

section
/-! SUPPORT. The field start of an active chase, told of the field begun (R108 to R118). -/

namespace Sys2Proof.Machine

section
variable {s : State} {c : Settings} {p : Option Nat} {own x : Nat} {r : ChaseRecord}

theorem State.Chaser.fieldStart (h : s.Chaser c p) (active : s.csv.state ≠ .off) (sound : s.csv.state ≠ .failed)
    (stored : s.csv.record = some r) : s.chaseFieldStart.Chaser c p := by
  rw [State.chaseFieldStart_eq active sound stored]
  split
  · rw [h.waits.1.settle]
    exact h.waits.1
  · rename_i std target e _
    have stepped := State.Chaser.step (s := s.setTarget target) (h.with_csv _) std r (s.view r.master).speed e
    rw [stepped.settle]
    exact stepped

theorem State.Chaser.fieldStart_waits (h : s.Chaser c p) (active : s.csv.state ≠ .off) (sound : s.csv.state ≠ .failed)
    (stored : s.csv.record = some r) (unusable : (s.view r.master).usable = false) : s.chaseFieldStart = s.chaseWaits := by
  rw [State.chaseFieldStart_eq active sound stored, State.chaseAim_unusable unusable]
  exact h.waits.1.settle

/-- A chase with a usable master works toward its target. -/
theorem State.Chaser.fieldStart_steps (h : s.Chaser c (some own)) (active : s.csv.state ≠ .off) (sound : s.csv.state ≠ .failed)
    (stored : s.csv.record = some r) (usable : (s.view r.master).usable = true) (projection : (s.view r.master).projection = some x) :
    s.chaseFieldStart = (s.setTarget (wrapDay c.standard.day ((x : Int) + r.offset))).chaseStep c.standard r (s.view r.master).speed
      (diff c.standard.day (wrapDay c.standard.day ((x : Int) + r.offset)) own) := by
  rw [State.chaseFieldStart_eq active sound stored, State.chaseAim_usable h.config usable projection h.own]
  exact (State.Chaser.step (s := s.setTarget _) (h.with_csv _) ..).settle

/-- The lock run and the pull timer count where neither comes to its end. -/
theorem State.lockStep_counts {e : Int} (early : s.csv.pullTimer < r.pullTimeLimit) (few : e.natAbs ≤ r.lockWindow → s.csv.lockRun < 7) :
    s.lockStep r e = { s with csv := { s.csv with
      lockRun := if e.natAbs ≤ r.lockWindow then s.csv.lockRun + 1 else 0, pullTimer := s.csv.pullTimer + 1 } } := by
  by_cases near : e.natAbs ≤ r.lockWindow
  · rw [State.lockStep_near near (few near), State.pullStep_counts (by exact early), if_pos near]
  · rw [State.lockStep_far (Nat.not_le.mp near), State.pullStep_counts (by exact early), if_neg near]

theorem Csv.enter_pulling_new {k : Csv} (other : k.state ≠ .pulling) :
    k.enter .pulling = { k with state := .pulling, pullTimer := 0, lockRun := 0 } := if_neg other

theorem Csv.enter_pulling_again {k : Csv} (pulling : k.state = .pulling) : k.enter .pulling = k := if_pos pulling

section
variable {std : Standard} {m e : Int}

/-- PULLING at a field start that comes neither to lock nor to the pull time (R114, R115, R118). -/
theorem State.Chaser.stepRuns (h : s.Chaser c p) (other : s.csv.state ≠ .reroll)
    (choice : chooseState s.csv.state (masterMoving m) e.natAbs std.seekThreshold = .pulling)
    (early : (s.csv.enter .pulling).pullTimer < r.pullTimeLimit)
    (few : e.natAbs ≤ r.lockWindow → (s.csv.enter .pulling).lockRun < 7) :
    (s.chaseStep std r m e).csv = { s.csv.enter .pulling with
      lockRun := if e.natAbs ≤ r.lockWindow then (s.csv.enter .pulling).lockRun + 1 else 0
      pullTimer := (s.csv.enter .pulling).pullTimer + 1 } ∧
    (s.chaseStep std r m e).Varies c (pullSpeedWord r.pullSpeed m e) := by
  obtain ⟨w, -, kept, ⟨asked, speed⟩, eq⟩ := h.stepPulls (r := r) other choice
  rw [eq, State.lockStep_counts (by rw [kept]; exact early) (by rw [kept]; exact few), kept]
  exact ⟨rfl, asked, speed⟩

/-- Lock declared at a field start (R115). -/
theorem State.Chaser.stepLocks (h : s.Chaser c p) (pulling : s.csv.state = .pulling)
    (choice : chooseState s.csv.state (masterMoving m) e.natAbs std.seekThreshold = .pulling)
    (near : e.natAbs ≤ r.lockWindow) (eighth : 7 ≤ s.csv.lockRun) :
    (s.chaseStep std r m e).csv = { s.csv with state := .locked, lockRun := 0, blankRun := 0, pullTimer := 0, rerolls := 0 } ∧
    (s.chaseStep std r m e).Varies c (pullSpeedWord r.pullSpeed m e) := by
  obtain ⟨w, -, kept, ⟨asked, speed⟩, eq⟩ := h.stepPulls (r := r) (by rw [pulling]; nofun) choice
  rw [Csv.enter_pulling_again pulling] at kept
  rw [eq, State.lockStep_locks near (by rw [kept]; exact eighth), State.declareLock, kept]
  exact ⟨rfl, asked, speed⟩

/-- The pull time exceeded at a field start (R118). -/
theorem State.Chaser.stepOverdue (h : s.Chaser c (some own)) (pulling : s.csv.state = .pulling)
    (choice : chooseState s.csv.state (masterMoving m) e.natAbs std.seekThreshold = .pulling)
    (late : r.pullTimeLimit ≤ s.csv.pullTimer) (unlocked : r.lockWindow < e.natAbs ∨ s.csv.lockRun < 7) :
    s.Overdue r own (s.chaseStep std r m e) := by
  obtain ⟨w, holder, kept, -, eq⟩ := h.stepPulls (r := r) (by rw [pulling]; nofun) choice
  rw [Csv.enter_pulling_again pulling] at kept
  obtain ⟨still, timer, run, rerolls, fails⟩ := holder.lockStep_overdue (r := r) (e := e) (by rw [kept]; exact late)
    (by rw [kept]; exact unlocked)
  rw [kept] at rerolls fails
  rw [eq]
  exact ⟨still, timer, run, rerolls, fails⟩

/-- LOCKED at a field start with its master moving (R116). -/
structure State.Blanked (r : ChaseRecord) (e : Int) (s t : State) : Prop where
  near : e.natAbs ≤ r.lockWindow → t.csv = { s.csv with blankRun := 0 }
  counts : r.lockWindow < e.natAbs → s.csv.blankRun + 1 < r.blankingCount → t.csv = { s.csv with blankRun := s.csv.blankRun + 1 }
  loses : r.lockWindow < e.natAbs → r.blankingCount ≤ s.csv.blankRun + 1 →
    t.csv = { s.csv with state := .pulling, blankRun := 0, lockRun := 0, pullTimer := 0 } ∧ t.holdsEvent .lockLost = true

theorem State.Chaser.stepBlanks (h : s.Chaser c p) (locked : s.csv.state = .locked) (moves : masterMoving m = true) :
    s.Blanked r e (s.chaseStep std r m e) ∧ (s.chaseStep std r m e).Varies c (pullSpeedWord r.pullSpeed m e) := by
  obtain ⟨w, holder, kept, ⟨asked, speed⟩, eq⟩ := h.stepLocked (r := r) (std := std) (e := e) locked moves
  rw [eq]
  have tsq : (w.blankStep r e).tsq = w.tsq := by
    unfold State.blankStep
    split
    · split
      · rw [State.loseLock_idle holder.idle]
        rfl
      · rfl
    · rfl
  refine ⟨⟨fun near => ?_, fun far few => ?_, fun far late => ?_⟩, ⟨by rw [tsq]; exact asked, by rw [tsq]; exact speed⟩⟩
  · rw [State.blankStep_near near, kept]
  · rw [State.blankStep_counts far (by rw [kept]; exact few), kept]
  · rw [State.blankStep_loses far (by rw [kept]; exact late), State.loseLock_idle holder.idle, kept]
    exact ⟨rfl, State.holdsEvent_latch ..⟩

end

end

end Sys2Proof.Machine

open Sys2Proof Sys2Proof.Machine

/-- Settles O24, by the regime the field start finds the chase in: waiting, rerolling, following, or after a moving master. -/
theorem chaseActsAtFieldStarts : Obligations.ChaseActsAtFieldStarts := by
  unfold Obligations.ChaseActsAtFieldStarts
  intro i pins s t c r gives exec counted hc fitted stored active sound chasing early well empty idle noCues noRoll noFault
  obtain ⟨v, ⟨chaser, csv, mode, matched, tally⟩, ends⟩ :=
    exec_chaser gives exec counted noCues noRoll hc fitted chasing early well empty idle noFault
  have events (e : Event) : t.holdsEvent e = v.chaseFieldStart.holdsEvent e :=
    congrArg (fun d : Dhd => ({ t with dhd := d } : State).holdsEvent e) ends.dhd
  rw [events .lockLost, events .chaseFailed, ends.csv, ends.tsq, ends.dhd, ends.views, ← csv, ← mode, ← matched, ← tally]
  rw [← csv] at active sound stored
  refine ⟨fun unusable => ?_, fun x own usable projection hown => ?_,
    (State.chaseFieldStart_work v).chaseRecord.trans stored, (chaser.fieldStart active sound stored).chasing⟩
  · obtain ⟨-, waiting, still, lost⟩ := chaser.waits
    rw [chaser.fieldStart_waits active sound stored unusable, waiting]
    exact ⟨rfl, still, rfl, rfl, rfl, rfl, rfl, lost⟩
  rw [hown] at chaser
  rw [chaser.fieldStart_steps active sound stored usable projection]
  have h : (v.setTarget (wrapDay c.standard.day ((x : Int) + r.offset))).Chaser c (some own) := chaser.with_csv _
  have aimed := h.step_target c.standard r (v.view r.master).speed
    (diff c.standard.day (wrapDay c.standard.day ((x : Int) + r.offset)) own)
  intro target e far clamped sought seeks pulls overdue parked
  refine ⟨aimed, fun reroll => ⟨fun few => ?_, fun late => ?_⟩, fun other slow => ?_, fun fast => ⟨fun begins => ?_, fun pulling => ?_,
    fun locked => ?_⟩⟩
  · rw [State.chaseStep_rerolls (by exact reroll) (by exact few)]
    exact ⟨rfl, rfl⟩
  · obtain ⟨kept, asked, speed⟩ := h.rerolled (r := r) (std := c.standard) (m := (v.view r.master).speed) (e := e) reroll late
    exact ⟨⟨congrArg Csv.state kept, asked, speed⟩, congrArg Csv.offTime kept⟩
  · obtain ⟨state, timer, run, blank, lost, stands, holds, varies, parks, asks⟩ :=
      h.follows (r := r) (std := c.standard) (m := (v.view r.master).speed) (e := e) other slow rfl
    refine ⟨state, timer, run, blank, lost, stands, fun away => ⟨holds away, fun free => ⟨fun beyond => ?_, fun near => ?_⟩⟩⟩
    · obtain ⟨step, asked, speed⟩ := varies away free beyond
      exact ⟨step, asked, speed⟩
    · refine ⟨?_, fun shown => ⟨(parks away free near shown).1, (parks away free near shown).2.1⟩, fun new unseen => ?_⟩
      · by_cases shown : v.tsq.reqMode = .still ∨ v.pins.tally = .still
        · exact (parks away free near shown).2.2
        · exact (asks away near (fun still => shown (.inl still)) fun seen => shown (.inr seen)).2.2.2
      · obtain ⟨step, unmet, wait, -⟩ := asks away near new unseen
        exact ⟨step, unmet, wait⟩
  · have other : v.csv.state ≠ .reroll ∧ v.csv.state ≠ .pulling := by obtain b | b | b := begins <;> constructor <;> rw [b] <;> nofun
    have choice := chooseState_begins (a := e.natAbs) (b := far) begins fast
    refine ⟨fun beyond => ?_, fun within limit => ?_⟩
    · rw [if_pos beyond] at choice
      obtain ⟨kept, asked, speed⟩ := h.stepSeeks (r := r) other.1 choice
      exact ⟨⟨congrArg Csv.state kept, asked, speed⟩, congrArg Csv.pullTimer kept, congrArg Csv.lockRun kept⟩
    · rw [if_neg (Nat.not_lt.mpr within)] at choice
      obtain ⟨kept, asked, speed⟩ := h.stepRuns (r := r) other.1 choice
        (by rw [Csv.enter_pulling_new (by exact other.2)]; exact limit)
        (fun _ => by rw [Csv.enter_pulling_new (by exact other.2)]; exact Nat.zero_lt_succ _)
      rw [Csv.enter_pulling_new (by exact other.2)] at kept
      exact ⟨⟨asked, speed⟩, congrArg Csv.state kept, congrArg Csv.pullTimer kept, congrArg Csv.lockRun kept⟩
  · have choice := chooseState_pulls (a := e.natAbs) (b := far) fast
    have stays (within : e.natAbs ≤ 2 * far) : chooseState (v.setTarget target).csv.state (masterMoving (v.view r.master).speed)
        e.natAbs c.standard.seekThreshold = .pulling := by
      rw [if_neg (Nat.not_lt.mpr within), ← pulling] at choice
      rw [← pulling]
      exact choice
    have again : (v.setTarget target).csv.enter .pulling = (v.setTarget target).csv := Csv.enter_pulling_again pulling
    have other : v.csv.state ≠ .reroll := by rw [pulling]; nofun
    refine ⟨fun beyond => ?_, fun within early => ⟨fun out => ?_, fun near few => ?_⟩, fun within near eighth => ?_,
      fun within late unlocked => ?_⟩
    · rw [if_pos beyond, ← pulling] at choice
      obtain ⟨kept, asked, speed⟩ := h.stepSeeks (r := r) other choice
      exact ⟨⟨congrArg Csv.state kept, asked, speed⟩, congrArg Csv.pullTimer kept, congrArg Csv.lockRun kept⟩
    · obtain ⟨kept, asked, speed⟩ := h.stepRuns (r := r) other (stays within) (by rw [again]; exact early)
        (fun near => absurd out (Nat.not_lt.mpr near))
      rw [again, if_neg (Nat.not_le.mpr out)] at kept
      exact ⟨⟨asked, speed⟩, (congrArg Csv.state kept).trans pulling, congrArg Csv.lockRun kept, congrArg Csv.pullTimer kept⟩
    · obtain ⟨kept, asked, speed⟩ := h.stepRuns (r := r) other (stays within) (by rw [again]; exact early)
        (fun _ => by rw [again]; exact few)
      rw [again, if_pos near] at kept
      exact ⟨⟨asked, speed⟩, (congrArg Csv.state kept).trans pulling, congrArg Csv.lockRun kept, congrArg Csv.pullTimer kept⟩
    · obtain ⟨kept, asked, speed⟩ := h.stepLocks (r := r) pulling (stays within) near eighth
      exact ⟨⟨asked, speed⟩, congrArg Csv.state kept, congrArg Csv.lockRun kept, congrArg Csv.pullTimer kept, congrArg Csv.rerolls kept⟩
    · obtain ⟨still, timer, run, rerolls, fails⟩ := h.stepOverdue (r := r) pulling (stays within) late unlocked
      exact ⟨still, timer, run, rerolls, fails⟩
  · obtain ⟨⟨inWindow, counts, loses⟩, asked, speed⟩ :=
      h.stepBlanks (r := r) (std := c.standard) (e := e) locked (masterMoving_fast fast)
    refine ⟨⟨asked, speed⟩, fun near => ?_, fun out early => ?_, fun out late => ?_⟩
    · exact ⟨(congrArg Csv.state (inWindow near)).trans locked, congrArg Csv.blankRun (inWindow near)⟩
    · exact ⟨(congrArg Csv.state (counts out early)).trans locked, congrArg Csv.blankRun (counts out early)⟩
    · obtain ⟨kept, lost⟩ := loses out late
      exact ⟨congrArg Csv.state kept, congrArg Csv.pullTimer kept, lost⟩

end

section
/-! SUPPORT. Two PULSE cues at a field start whose notices find one place left (R94, R133, R134). -/

namespace Sys2Proof.Machine

/-- A cue with no trigger that fires an output at the next field start and notifies the own station. -/
def Cue.pulseNow (id output : Nat) : Cue :=
  { id := id, action := .pulse output, reference := 0, trigger := none, armed := false, lockList := [], notify := some 1 }

/-- A MODE record of the local port, one change of the error's sign short of SEEK_FAILED. -/
def PendingOp.turning : PendingOp :=
  { kind := .mode, issuer := .port, seq := 0, origin := .directive 0x05, target := 0, reversals := 8, lastSign := some 1 }

/-- The lines read at the field start, none asserted. -/
def FieldPins.quiet : FieldPins := { deckBusy := false, deckFault := false, inhibit := false, lever := 0, leverPresent := false }

/-- A station in FALLBACK with two PULSE cues and two places in the port's receive queue, its transport in CUEING with a MODE record. -/
def State.twoPlaces : State :=
  { State.reset with
    dhd := { Dhd.reset 1 true false with config := some Settings.gapless },
    ftu := { Ftu.reset with refState := .fallback, timerRunning := true, lastFieldStart := some (0, .internal) },
    psu := { Psu.reset with source := .code, anchor := 10 },
    tsq := { Tsq.reset true with state := .cueing, pendingOp := some PendingOp.turning },
    cul := { Cul.reset with cues := [Cue.pulseNow 1 1, Cue.pulseNow 2 2] },
    lpt := { Lpt.reset with rxQueue := List.replicate 6 { bytes := [], place := 0 } } }

/-- The state after its internal field start. -/
abbrev State.twoPlacesAfter : State := State.twoPlaces.timerRunsOut .f25 FieldPins.quiet

/-- The transport's own report takes the first of the two places, and the first cue's notice the second. -/
theorem State.twoPlaces_taken :
    State.twoPlacesAfter.lpt.rxQueue.drop 6 =
      [{ bytes := [1, 2, 0, 2, 0x05, 0x19], place := 0 }, { bytes := [1, 3, 1, 4, 1, 1, 0, 0], place := 0 }] := by decide

end Sys2Proof.Machine

open Sys2Proof Sys2Proof.Machine

/-- Refutes O22: of two PULSE cues that fire it promises both notices in the receive queue where a place is left for each cue, also
with a pending MODE record. It speaks of every state, also of a transport in CUEING whose pending record is such a MODE record: the
cue law then ends it with a SEEK_FAILED report, which takes one of the places, and the second notice is discarded. -/
theorem not_cuesAreJudgedAtFieldStarts : ¬ Obligations.CuesAreJudgedAtFieldStarts := by
  unfold Obligations.CuesAreJudgedAtFieldStarts
  intro h
  obtain ⟨-, -, pulses, -⟩ := h (.internalFieldStart FieldPins.quiet) FieldPins.quiet State.twoPlaces State.twoPlacesAfter
    (.inr (.inr (.inl rfl))) rfl (by decide)
  obtain ⟨-, -, -, -, notices⟩ := pulses (by decide) (by
    intro c mem
    obtain rfl | rfl : c = Cue.pulseNow 1 1 ∨ c = Cue.pulseNow 2 2 := by simpa [State.twoPlaces] using mem
    · exact ⟨1, rfl, by decide⟩
    · exact ⟨2, rfl, by decide⟩)
  have both := notices [] (Cue.pulseNow 1 1) [] (Cue.pulseNow 2 2) [] 1 rfl ⟨nofun, .inl rfl⟩ ⟨nofun, .inl rfl⟩ rfl rfl (by decide)
    (by decide) nofun rfl rfl fun o pending => by
      cases pending
      rfl
  rw [show State.twoPlaces.lpt.rxQueue.length = 6 from rfl, State.twoPlaces_taken] at both
  exact absurd (both.eq_of_length rfl) (by decide)

end
